-- ==== Sys2Proof/Word.lean ====
section
/-! DEFINITION. The words the model is written in: a byte of a link frame. -/

namespace Sys2Proof

/-- A character of a link frame carries 8 data bits (R193). -/
abbrev Byte := BitVec 8

end Sys2Proof
end

