-- ==== Sys2Proof/Syntax.lean ====
section
/-! DEFINITION. The commands of the B40: the rows of spec/opcode_table.json, one constructor each, and the names
their operands use. A request kind's operands are what its frame carries (R193): the port it came in on, its
request number and its payload bytes. -/

namespace Sys2Proof

/-- The B40's ends of the three links (R193). -/
inductive Port where
  | cab | route | chassis
deriving DecidableEq, Repr

/-- The two lifters (R1). -/
inductive Lifter where
  | left | right
deriving DecidableEq, Repr

/-- The two waste streams, after which compartments, packers and compartment accounts are named. -/
inductive Stream where
  | residual | recycle
deriving DecidableEq, Repr

/-- The four consumers of hydraulic flow (R50). -/
inductive Consumer where
  | lifter (l : Lifter)
  | packer (st : Stream)
deriving DecidableEq, Repr

/-- The two rear hand controls of a lifter (R26). -/
inductive RearButton where
  | start | stop
deriving DecidableEq, Repr

/-- The new level of one of the five lines that settle for 10 ms (R33, R130). -/
inductive LineChange where
  | estop (active : Bool)
  | tailgate (closed : Bool)
  | step (lifter : Lifter) (occupied : Bool)
  | sealSwitch (opened : Bool)
deriving DecidableEq, Repr

/-- Why a frame was judged bad, apart from a gap between two characters (R194). -/
inductive BadFrameCause where
  | lengthByte (n : Byte)
  | missingStopBit
  | crcMismatch
deriving DecidableEq, Repr

/-- The request kinds of the catalogue (R198, R216). -/
inductive Kind where
  | startLift | stopLift | resumeLift | abortLift | selectProfile | setBank | setLifterDefaults
  | setTagThreshold | packCycle | packStop | packStep | packResume | setPackMode
  | setPackerSettings | setPayloadLimits | unloadComplete | resumeBody | bodyReset | saveSettings
  | readAccount | putAccount | deleteAccount | clearAccounts | setRoutePolicy | clearCounters
  | readTariff | putTariff | readJournal | journalStatus | acknowledgeJournal | readCalibration
  | readCounter | writeCalibration | readIdentity | writeIdentity | vehicleData | bodyStatus
  | lifterStatus | flowStatus | compartmentStatus | weighStatus | tagStatus | integrityStatus
  | linkStatus | readEvents | clearEvents | setEventMask | scanStatus | setScanRing | readAccess
  | setAccess | lockMap
deriving DecidableEq, Repr

/-- The commands (spec/opcode_table.json). The docstring of each constructor names its row and rule. -/
inductive Instr where
  /-- START_LIFT (R3): kind code 0x10. -/
  | startLift (port : Port) (number : Byte) (payload : List Byte)
  /-- STOP_LIFT (R25): kind code 0x11. -/
  | stopLift (port : Port) (number : Byte) (payload : List Byte)
  /-- RESUME_LIFT (R21): kind code 0x12. -/
  | resumeLift (port : Port) (number : Byte) (payload : List Byte)
  /-- ABORT_LIFT (R22): kind code 0x13. -/
  | abortLift (port : Port) (number : Byte) (payload : List Byte)
  /-- SELECT_PROFILE (R28): kind code 0x14. -/
  | selectProfile (port : Port) (number : Byte) (payload : List Byte)
  /-- SET_BANK (R27): kind code 0x15. -/
  | setBank (port : Port) (number : Byte) (payload : List Byte)
  /-- SET_LIFTER_DEFAULTS (R2): kind code 0x16. -/
  | setLifterDefaults (port : Port) (number : Byte) (payload : List Byte)
  /-- SET_TAG_THRESHOLD (R142): kind code 0x17. -/
  | setTagThreshold (port : Port) (number : Byte) (payload : List Byte)
  /-- PACK_CYCLE (R74): kind code 0x20. -/
  | packCycle (port : Port) (number : Byte) (payload : List Byte)
  /-- PACK_STOP (R76): kind code 0x21. -/
  | packStop (port : Port) (number : Byte) (payload : List Byte)
  /-- PACK_STEP (R77): kind code 0x22. -/
  | packStep (port : Port) (number : Byte) (payload : List Byte)
  /-- PACK_RESUME (R79): kind code 0x23. -/
  | packResume (port : Port) (number : Byte) (payload : List Byte)
  /-- SET_PACK_MODE (R68): kind code 0x24. -/
  | setPackMode (port : Port) (number : Byte) (payload : List Byte)
  /-- SET_PACKER_SETTINGS (R67): kind code 0x25. -/
  | setPackerSettings (port : Port) (number : Byte) (payload : List Byte)
  /-- SET_PAYLOAD_LIMITS (R84): kind code 0x26. -/
  | setPayloadLimits (port : Port) (number : Byte) (payload : List Byte)
  /-- UNLOAD_COMPLETE (R85): kind code 0x27. -/
  | unloadComplete (port : Port) (number : Byte) (payload : List Byte)
  /-- RESUME_BODY (R36): kind code 0x30. -/
  | resumeBody (port : Port) (number : Byte) (payload : List Byte)
  /-- BODY_RESET (R209): kind code 0x31. -/
  | bodyReset (port : Port) (number : Byte) (payload : List Byte)
  /-- SAVE_SETTINGS (R215): kind code 0x32. -/
  | saveSettings (port : Port) (number : Byte) (payload : List Byte)
  /-- READ_ACCOUNT (R151): kind code 0x40. -/
  | readAccount (port : Port) (number : Byte) (payload : List Byte)
  /-- PUT_ACCOUNT (R149): kind code 0x41. -/
  | putAccount (port : Port) (number : Byte) (payload : List Byte)
  /-- DELETE_ACCOUNT (R150): kind code 0x42. -/
  | deleteAccount (port : Port) (number : Byte) (payload : List Byte)
  /-- CLEAR_ACCOUNTS (R152): kind code 0x43. -/
  | clearAccounts (port : Port) (number : Byte) (payload : List Byte)
  /-- SET_ROUTE_POLICY (R153): kind code 0x44. -/
  | setRoutePolicy (port : Port) (number : Byte) (payload : List Byte)
  /-- CLEAR_COUNTERS (R189): kind code 0x45. -/
  | clearCounters (port : Port) (number : Byte) (payload : List Byte)
  /-- READ_TARIFF (R163): kind code 0x50. -/
  | readTariff (port : Port) (number : Byte) (payload : List Byte)
  /-- PUT_TARIFF (R162): kind code 0x51. -/
  | putTariff (port : Port) (number : Byte) (payload : List Byte)
  /-- READ_JOURNAL (R177): kind code 0x60. -/
  | readJournal (port : Port) (number : Byte) (payload : List Byte)
  /-- JOURNAL_STATUS (R180): kind code 0x61. -/
  | journalStatus (port : Port) (number : Byte) (payload : List Byte)
  /-- ACKNOWLEDGE_JOURNAL (R178): kind code 0x70. -/
  | acknowledgeJournal (port : Port) (number : Byte) (payload : List Byte)
  /-- READ_CALIBRATION (R136): kind code 0x80. -/
  | readCalibration (port : Port) (number : Byte) (payload : List Byte)
  /-- READ_COUNTER (R133): kind code 0x81. -/
  | readCounter (port : Port) (number : Byte) (payload : List Byte)
  /-- WRITE_CALIBRATION (R131): kind code 0x82. -/
  | writeCalibration (port : Port) (number : Byte) (payload : List Byte)
  /-- READ_IDENTITY (R138): kind code 0x90. -/
  | readIdentity (port : Port) (number : Byte) (payload : List Byte)
  /-- WRITE_IDENTITY (R137): kind code 0x91. -/
  | writeIdentity (port : Port) (number : Byte) (payload : List Byte)
  /-- VEHICLE_DATA (R41): kind code 0xA0. -/
  | vehicleData (port : Port) (number : Byte) (payload : List Byte)
  /-- BODY_STATUS (R47): kind code 0xB0. -/
  | bodyStatus (port : Port) (number : Byte) (payload : List Byte)
  /-- LIFTER_STATUS (R29): kind code 0xB1. -/
  | lifterStatus (port : Port) (number : Byte) (payload : List Byte)
  /-- FLOW_STATUS (R63): kind code 0xB2. -/
  | flowStatus (port : Port) (number : Byte) (payload : List Byte)
  /-- COMPARTMENT_STATUS (R86): kind code 0xB3. -/
  | compartmentStatus (port : Port) (number : Byte) (payload : List Byte)
  /-- WEIGH_STATUS (R125): kind code 0xB4. -/
  | weighStatus (port : Port) (number : Byte) (payload : List Byte)
  /-- TAG_STATUS (R158): kind code 0xB5. -/
  | tagStatus (port : Port) (number : Byte) (payload : List Byte)
  /-- INTEGRITY_STATUS (R190): kind code 0xB6. -/
  | integrityStatus (port : Port) (number : Byte) (payload : List Byte)
  /-- LINK_STATUS (R206): kind code 0xB7. -/
  | linkStatus (port : Port) (number : Byte) (payload : List Byte)
  /-- READ_EVENTS (R203): kind code 0xC0. -/
  | readEvents (port : Port) (number : Byte) (payload : List Byte)
  /-- CLEAR_EVENTS (R203): kind code 0xC1. -/
  | clearEvents (port : Port) (number : Byte) (payload : List Byte)
  /-- SET_EVENT_MASK (R204): kind code 0xC2. -/
  | setEventMask (port : Port) (number : Byte) (payload : List Byte)
  /-- SCAN_STATUS (R104): kind code 0xD0. -/
  | scanStatus (port : Port) (number : Byte) (payload : List Byte)
  /-- SET_SCAN_RING (R97): kind code 0xD1. -/
  | setScanRing (port : Port) (number : Byte) (payload : List Byte)
  /-- READ_ACCESS (R200): kind code 0xE0. -/
  | readAccess (port : Port) (number : Byte) (payload : List Byte)
  /-- SET_ACCESS (R200): kind code 0xE1. -/
  | setAccess (port : Port) (number : Byte) (payload : List Byte)
  /-- LOCK_MAP (R201): kind code 0xE2. -/
  | lockMap (port : Port) (number : Byte) (payload : List Byte)
  /-- UNKNOWN_KIND_REQUEST (R196). -/
  | unknownKindRequest (port : Port) (number kind : Byte) (payload : List Byte)
  /-- BAD_FRAME (R194). -/
  | badFrame (port : Port) (cause : BadFrameCause)
  /-- FRAME_GAP_TIMEOUT (R194). -/
  | frameGapTimeout (port : Port)
  /-- OVERRUN (R195). -/
  | overrun (port : Port)
  /-- ANSWER_SENT (R195). -/
  | answerSent (port : Port)
  /-- INPUT_LINE_CHANGE (R33). -/
  | inputLineChange (change : LineChange)
  /-- ESTOP_READING_ACTIVE (R34). -/
  | estopReadingActive
  /-- ESTOP_READING_RELEASED (R35). -/
  | estopReadingReleased
  /-- TAILGATE_READING_NOT_CLOSED (R37). -/
  | tailgateReadingNotClosed
  /-- TAILGATE_READING_CLOSED (R37). -/
  | tailgateReadingClosed
  /-- STEP_READING_OCCUPIED (R39). -/
  | stepReadingOccupied (lifter : Lifter)
  /-- STEP_READING_FREE (R39). -/
  | stepReadingFree (lifter : Lifter)
  /-- SEAL_READING_OPEN (R130). -/
  | sealReadingOpen
  /-- SEAL_READING_CLOSED (R130). -/
  | sealReadingClosed
  /-- REAR_START_PRESS (R26). -/
  | rearStartPress (lifter : Lifter)
  /-- REAR_STOP_PRESS (R25). -/
  | rearStopPress (lifter : Lifter)
  /-- REAR_BUTTON_RELEASE (R26). -/
  | rearButtonRelease (lifter : Lifter) (button : RearButton)
  /-- TAG_READ (R141). -/
  | tagRead (lifter : Lifter) (checksumOk : Bool) (tag : BitVec 40) (quality : BitVec 4)
  /-- POWER_ON_RESET (R209). -/
  | powerOnReset
  /-- RESET_LINE_ASSERT (R209). -/
  | resetLineAssert
  /-- RESET_LINE_RELEASE (R212). -/
  | resetLineRelease
  /-- LOAD_PART_READ (R212). -/
  | loadPartRead (good : Bool)
  /-- BODY_RESET_PASS_END (R213). -/
  | bodyResetPassEnd
  /-- LIFT_PHASE_TIMEOUT (R11). -/
  | liftPhaseTimeout (lifter : Lifter)
  /-- RETURN_TIME_LIMIT (R23). -/
  | returnTimeLimit (lifter : Lifter)
  /-- SETTLE_EXPIRY (R12). -/
  | settleExpiry (lifter : Lifter)
  /-- WEIGH_PHASE_LIMIT_EXPIRY (R14). -/
  | weighPhaseLimitExpiry (lifter : Lifter)
  /-- DUMP_DWELL_EXPIRY (R16). -/
  | dumpDwellExpiry (lifter : Lifter)
  /-- SHAKE_PULSE_END (R17). -/
  | shakePulseEnd (lifter : Lifter)
  /-- VEHICLE_FRESHNESS_EXPIRY (R42). -/
  | vehicleFreshnessExpiry
  /-- ROUTE_CLOCK_SECOND (R44). -/
  | routeClockSecond
  /-- FLOW_WAIT_TIMEOUT (R57). -/
  | flowWaitTimeout (consumer : Consumer)
  /-- EXTEND_TIMER_EXPIRY (R70). -/
  | extendTimerExpiry (stream : Stream)
  /-- PACK_DWELL_EXPIRY (R71). -/
  | packDwellExpiry (stream : Stream)
  /-- RETRACT_TIMER_EXPIRY (R72). -/
  | retractTimerExpiry (stream : Stream)
  /-- RING_CONVERSION_COMPLETE (R93). -/
  | ringConversionComplete (result : Option Int)
  /-- INSERTED_CONVERSION_COMPLETE (R100). -/
  | insertedConversionComplete (result : Option Int)
  /-- CHANNEL_FRESHNESS_EXPIRY (R95). -/
  | channelFreshnessExpiry (channel : Fin 12)
  /-- WEIGH_COMPUTATION_END (R109). -/
  | weighComputationEnd
  /-- COUNTER_WRITE_END (R132). -/
  | counterWriteEnd (success : Bool)
  /-- COMMIT_END (R134). -/
  | commitEnd (success : Bool)
  /-- IDENTITY_WRITE_END (R137). -/
  | identityWriteEnd (success : Bool)
  /-- SETTINGS_WRITE_END (R215). -/
  | settingsWriteEnd (success : Bool)
deriving DecidableEq, Repr

end Sys2Proof
end

