-- ==== Sys2Proof/Decode.lean ====
section
/-! DEFINITION. The link's coding of the request kinds and frames (R193, R194, R216), and the host's question about
table words: no row of spec/opcode_table.json has bits, so no word spells a command (log 24). -/

namespace Sys2Proof

/-- No row of spec/opcode_table.json gives bits: a word spells no command (log 24). -/
def decodeTableWord (_nbits _w : Nat) : Option Instr := none

/-- The kind codes of R216: the class in the high four bits, the kind's place in the low four. -/
def Kind.code : Kind → Byte
  | .startLift => 0x10
  | .stopLift => 0x11
  | .resumeLift => 0x12
  | .abortLift => 0x13
  | .selectProfile => 0x14
  | .setBank => 0x15
  | .setLifterDefaults => 0x16
  | .setTagThreshold => 0x17
  | .packCycle => 0x20
  | .packStop => 0x21
  | .packStep => 0x22
  | .packResume => 0x23
  | .setPackMode => 0x24
  | .setPackerSettings => 0x25
  | .setPayloadLimits => 0x26
  | .unloadComplete => 0x27
  | .resumeBody => 0x30
  | .bodyReset => 0x31
  | .saveSettings => 0x32
  | .readAccount => 0x40
  | .putAccount => 0x41
  | .deleteAccount => 0x42
  | .clearAccounts => 0x43
  | .setRoutePolicy => 0x44
  | .clearCounters => 0x45
  | .readTariff => 0x50
  | .putTariff => 0x51
  | .readJournal => 0x60
  | .journalStatus => 0x61
  | .acknowledgeJournal => 0x70
  | .readCalibration => 0x80
  | .readCounter => 0x81
  | .writeCalibration => 0x82
  | .readIdentity => 0x90
  | .writeIdentity => 0x91
  | .vehicleData => 0xA0
  | .bodyStatus => 0xB0
  | .lifterStatus => 0xB1
  | .flowStatus => 0xB2
  | .compartmentStatus => 0xB3
  | .weighStatus => 0xB4
  | .tagStatus => 0xB5
  | .integrityStatus => 0xB6
  | .linkStatus => 0xB7
  | .readEvents => 0xC0
  | .clearEvents => 0xC1
  | .setEventMask => 0xC2
  | .scanStatus => 0xD0
  | .setScanRing => 0xD1
  | .readAccess => 0xE0
  | .setAccess => 0xE1
  | .lockMap => 0xE2

/-- The kind a kind byte names, if any (R216: a byte not in the catalogue fails check 1 of R196). -/
def Kind.ofCode (b : Byte) : Option Kind :=
  match b.toNat with
  | 0x10 => some .startLift
  | 0x11 => some .stopLift
  | 0x12 => some .resumeLift
  | 0x13 => some .abortLift
  | 0x14 => some .selectProfile
  | 0x15 => some .setBank
  | 0x16 => some .setLifterDefaults
  | 0x17 => some .setTagThreshold
  | 0x20 => some .packCycle
  | 0x21 => some .packStop
  | 0x22 => some .packStep
  | 0x23 => some .packResume
  | 0x24 => some .setPackMode
  | 0x25 => some .setPackerSettings
  | 0x26 => some .setPayloadLimits
  | 0x27 => some .unloadComplete
  | 0x30 => some .resumeBody
  | 0x31 => some .bodyReset
  | 0x32 => some .saveSettings
  | 0x40 => some .readAccount
  | 0x41 => some .putAccount
  | 0x42 => some .deleteAccount
  | 0x43 => some .clearAccounts
  | 0x44 => some .setRoutePolicy
  | 0x45 => some .clearCounters
  | 0x50 => some .readTariff
  | 0x51 => some .putTariff
  | 0x60 => some .readJournal
  | 0x61 => some .journalStatus
  | 0x70 => some .acknowledgeJournal
  | 0x80 => some .readCalibration
  | 0x81 => some .readCounter
  | 0x82 => some .writeCalibration
  | 0x90 => some .readIdentity
  | 0x91 => some .writeIdentity
  | 0xA0 => some .vehicleData
  | 0xB0 => some .bodyStatus
  | 0xB1 => some .lifterStatus
  | 0xB2 => some .flowStatus
  | 0xB3 => some .compartmentStatus
  | 0xB4 => some .weighStatus
  | 0xB5 => some .tagStatus
  | 0xB6 => some .integrityStatus
  | 0xB7 => some .linkStatus
  | 0xC0 => some .readEvents
  | 0xC1 => some .clearEvents
  | 0xC2 => some .setEventMask
  | 0xD0 => some .scanStatus
  | 0xD1 => some .setScanRing
  | 0xE0 => some .readAccess
  | 0xE1 => some .setAccess
  | 0xE2 => some .lockMap
  | _ => none

/-- The command that a good frame of a catalogued kind is (R196). -/
def Kind.request (k : Kind) (p : Port) (number : Byte) (payload : List Byte) : Instr :=
  match k with
  | .startLift => .startLift p number payload
  | .stopLift => .stopLift p number payload
  | .resumeLift => .resumeLift p number payload
  | .abortLift => .abortLift p number payload
  | .selectProfile => .selectProfile p number payload
  | .setBank => .setBank p number payload
  | .setLifterDefaults => .setLifterDefaults p number payload
  | .setTagThreshold => .setTagThreshold p number payload
  | .packCycle => .packCycle p number payload
  | .packStop => .packStop p number payload
  | .packStep => .packStep p number payload
  | .packResume => .packResume p number payload
  | .setPackMode => .setPackMode p number payload
  | .setPackerSettings => .setPackerSettings p number payload
  | .setPayloadLimits => .setPayloadLimits p number payload
  | .unloadComplete => .unloadComplete p number payload
  | .resumeBody => .resumeBody p number payload
  | .bodyReset => .bodyReset p number payload
  | .saveSettings => .saveSettings p number payload
  | .readAccount => .readAccount p number payload
  | .putAccount => .putAccount p number payload
  | .deleteAccount => .deleteAccount p number payload
  | .clearAccounts => .clearAccounts p number payload
  | .setRoutePolicy => .setRoutePolicy p number payload
  | .clearCounters => .clearCounters p number payload
  | .readTariff => .readTariff p number payload
  | .putTariff => .putTariff p number payload
  | .readJournal => .readJournal p number payload
  | .journalStatus => .journalStatus p number payload
  | .acknowledgeJournal => .acknowledgeJournal p number payload
  | .readCalibration => .readCalibration p number payload
  | .readCounter => .readCounter p number payload
  | .writeCalibration => .writeCalibration p number payload
  | .readIdentity => .readIdentity p number payload
  | .writeIdentity => .writeIdentity p number payload
  | .vehicleData => .vehicleData p number payload
  | .bodyStatus => .bodyStatus p number payload
  | .lifterStatus => .lifterStatus p number payload
  | .flowStatus => .flowStatus p number payload
  | .compartmentStatus => .compartmentStatus p number payload
  | .weighStatus => .weighStatus p number payload
  | .tagStatus => .tagStatus p number payload
  | .integrityStatus => .integrityStatus p number payload
  | .linkStatus => .linkStatus p number payload
  | .readEvents => .readEvents p number payload
  | .clearEvents => .clearEvents p number payload
  | .setEventMask => .setEventMask p number payload
  | .scanStatus => .scanStatus p number payload
  | .setScanRing => .setScanRing p number payload
  | .readAccess => .readAccess p number payload
  | .setAccess => .setAccess p number payload
  | .lockMap => .lockMap p number payload

/-- What a command's frame carries, for the commands that are good frames: port, number, kind byte, payload. -/
def Instr.frameParts : Instr → Option (Port × Byte × Byte × List Byte)
  | .startLift p n d => some (p, n, Kind.code .startLift, d)
  | .stopLift p n d => some (p, n, Kind.code .stopLift, d)
  | .resumeLift p n d => some (p, n, Kind.code .resumeLift, d)
  | .abortLift p n d => some (p, n, Kind.code .abortLift, d)
  | .selectProfile p n d => some (p, n, Kind.code .selectProfile, d)
  | .setBank p n d => some (p, n, Kind.code .setBank, d)
  | .setLifterDefaults p n d => some (p, n, Kind.code .setLifterDefaults, d)
  | .setTagThreshold p n d => some (p, n, Kind.code .setTagThreshold, d)
  | .packCycle p n d => some (p, n, Kind.code .packCycle, d)
  | .packStop p n d => some (p, n, Kind.code .packStop, d)
  | .packStep p n d => some (p, n, Kind.code .packStep, d)
  | .packResume p n d => some (p, n, Kind.code .packResume, d)
  | .setPackMode p n d => some (p, n, Kind.code .setPackMode, d)
  | .setPackerSettings p n d => some (p, n, Kind.code .setPackerSettings, d)
  | .setPayloadLimits p n d => some (p, n, Kind.code .setPayloadLimits, d)
  | .unloadComplete p n d => some (p, n, Kind.code .unloadComplete, d)
  | .resumeBody p n d => some (p, n, Kind.code .resumeBody, d)
  | .bodyReset p n d => some (p, n, Kind.code .bodyReset, d)
  | .saveSettings p n d => some (p, n, Kind.code .saveSettings, d)
  | .readAccount p n d => some (p, n, Kind.code .readAccount, d)
  | .putAccount p n d => some (p, n, Kind.code .putAccount, d)
  | .deleteAccount p n d => some (p, n, Kind.code .deleteAccount, d)
  | .clearAccounts p n d => some (p, n, Kind.code .clearAccounts, d)
  | .setRoutePolicy p n d => some (p, n, Kind.code .setRoutePolicy, d)
  | .clearCounters p n d => some (p, n, Kind.code .clearCounters, d)
  | .readTariff p n d => some (p, n, Kind.code .readTariff, d)
  | .putTariff p n d => some (p, n, Kind.code .putTariff, d)
  | .readJournal p n d => some (p, n, Kind.code .readJournal, d)
  | .journalStatus p n d => some (p, n, Kind.code .journalStatus, d)
  | .acknowledgeJournal p n d => some (p, n, Kind.code .acknowledgeJournal, d)
  | .readCalibration p n d => some (p, n, Kind.code .readCalibration, d)
  | .readCounter p n d => some (p, n, Kind.code .readCounter, d)
  | .writeCalibration p n d => some (p, n, Kind.code .writeCalibration, d)
  | .readIdentity p n d => some (p, n, Kind.code .readIdentity, d)
  | .writeIdentity p n d => some (p, n, Kind.code .writeIdentity, d)
  | .vehicleData p n d => some (p, n, Kind.code .vehicleData, d)
  | .bodyStatus p n d => some (p, n, Kind.code .bodyStatus, d)
  | .lifterStatus p n d => some (p, n, Kind.code .lifterStatus, d)
  | .flowStatus p n d => some (p, n, Kind.code .flowStatus, d)
  | .compartmentStatus p n d => some (p, n, Kind.code .compartmentStatus, d)
  | .weighStatus p n d => some (p, n, Kind.code .weighStatus, d)
  | .tagStatus p n d => some (p, n, Kind.code .tagStatus, d)
  | .integrityStatus p n d => some (p, n, Kind.code .integrityStatus, d)
  | .linkStatus p n d => some (p, n, Kind.code .linkStatus, d)
  | .readEvents p n d => some (p, n, Kind.code .readEvents, d)
  | .clearEvents p n d => some (p, n, Kind.code .clearEvents, d)
  | .setEventMask p n d => some (p, n, Kind.code .setEventMask, d)
  | .scanStatus p n d => some (p, n, Kind.code .scanStatus, d)
  | .setScanRing p n d => some (p, n, Kind.code .setScanRing, d)
  | .readAccess p n d => some (p, n, Kind.code .readAccess, d)
  | .setAccess p n d => some (p, n, Kind.code .setAccess, d)
  | .lockMap p n d => some (p, n, Kind.code .lockMap, d)
  | .unknownKindRequest p n k d => some (p, n, k, d)
  | .badFrame _ _ => none
  | .frameGapTimeout _ => none
  | .overrun _ => none
  | .answerSent _ => none
  | .inputLineChange _ => none
  | .estopReadingActive => none
  | .estopReadingReleased => none
  | .tailgateReadingNotClosed => none
  | .tailgateReadingClosed => none
  | .stepReadingOccupied _ => none
  | .stepReadingFree _ => none
  | .sealReadingOpen => none
  | .sealReadingClosed => none
  | .rearStartPress _ => none
  | .rearStopPress _ => none
  | .rearButtonRelease _ _ => none
  | .tagRead _ _ _ _ => none
  | .powerOnReset => none
  | .resetLineAssert => none
  | .resetLineRelease => none
  | .loadPartRead _ => none
  | .bodyResetPassEnd => none
  | .liftPhaseTimeout _ => none
  | .returnTimeLimit _ => none
  | .settleExpiry _ => none
  | .weighPhaseLimitExpiry _ => none
  | .dumpDwellExpiry _ => none
  | .shakePulseEnd _ => none
  | .vehicleFreshnessExpiry => none
  | .routeClockSecond => none
  | .flowWaitTimeout _ => none
  | .extendTimerExpiry _ => none
  | .packDwellExpiry _ => none
  | .retractTimerExpiry _ => none
  | .ringConversionComplete _ => none
  | .insertedConversionComplete _ => none
  | .channelFreshnessExpiry _ => none
  | .weighComputationEnd => none
  | .counterWriteEnd _ => none
  | .commitEnd _ => none
  | .identityWriteEnd _ => none
  | .settingsWriteEnd _ => none

/-- One bit of the CRC-16 shift register with polynomial 0x1021 (R216). -/
def crcBit (c : BitVec 16) : BitVec 16 :=
  if c.getLsbD 15 then (c <<< 1) ^^^ 0x1021#16 else c <<< 1

/-- One byte into the CRC-16, most significant bit first (R216). -/
def crcByte (c : BitVec 16) (b : Byte) : BitVec 16 :=
  crcBit (crcBit (crcBit (crcBit (crcBit (crcBit (crcBit (crcBit (c ^^^ (b.zeroExtend 16 <<< 8)))))))))

/-- The CRC-16 of R216: initial value 0xFFFF, no final inversion. -/
def crc16 (bytes : List Byte) : BitVec 16 :=
  bytes.foldl crcByte 0xFFFF#16

/-- The two CRC bytes, high byte first (R216). -/
def crcBytes (c : BitVec 16) : List Byte :=
  [(c >>> 8).truncate 8, c.truncate 8]

/-- The start byte of a frame (R193). -/
def startByte : Byte := 0x7E#8

/-- A frame (R193): start byte, length, request number, kind, payload, CRC over all but the start byte. -/
def frameBytes (number kind : Byte) (payload : List Byte) : List Byte :=
  let body := BitVec.ofNat 8 payload.length :: number :: kind :: payload
  startByte :: (body ++ crcBytes (crc16 body))

/-- A length byte above this makes a frame bad (R194). -/
def maxPayload : Nat := 120

/-- The bytes of the frame a request command is (R193, R216). -/
def encodeFrame (i : Instr) : Option (List Byte) :=
  i.frameParts.map fun x => frameBytes x.2.1 x.2.2.1 x.2.2.2

/-- What a port makes of the characters it has taken (R194, R196): a first byte that starts no frame is hunted
through; from a start byte on, the request a good frame is, or why the frame is bad, or nothing while it is not
complete. Each character comes with whether its stop bit was valid. -/
inductive FrameVerdict where
  | hunted
  | incomplete
  | bad (cause : BadFrameCause)
  | good (request : Instr)
deriving DecidableEq, Repr

/-- The request of a complete good frame (R196 check 1 decides between the catalogue and the unknown kinds). -/
def requestOf (p : Port) (number kind : Byte) (payload : List Byte) : Instr :=
  match Kind.ofCode kind with
  | some k => k.request p number payload
  | none => .unknownKindRequest p number kind payload

/-- A complete frame's verdict: the CRC over its bytes must match (R194). -/
def judgeComplete (p : Port) (len : Byte) (rest : List Byte) : FrameVerdict :=
  match rest with
  | number :: kind :: tail =>
    let payload := tail.take len.toNat
    if tail.drop len.toNat = crcBytes (crc16 (len :: number :: kind :: payload)) then
      .good (requestOf p number kind payload)
    else .bad .crcMismatch
  | _ => .incomplete

/-- The characters of a frame, judged as they come in (R194). -/
def judgeFrame (p : Port) (chars : List (Byte × Bool)) : FrameVerdict :=
  match chars with
  | [] => .incomplete
  | [(b, stop)] => if b ≠ startByte then .hunted else if stop then .incomplete else .bad .missingStopBit
  | (b, stop0) :: (len, stop1) :: rest =>
    if b ≠ startByte then .hunted
    else if ¬ stop0 ∨ ¬ stop1 then .bad .missingStopBit
    else if maxPayload < len.toNat then .bad (.lengthByte len)
    else
      let taken := rest.take (len.toNat + 4)
      if taken.any (fun c => !c.2) then .bad .missingStopBit
      else if taken.length < len.toNat + 4 then .incomplete
      else judgeComplete p len (taken.map Prod.fst)

end Sys2Proof
end

