-- ==== Sys2Proof/Config.lean ====
section
/-! DEFINITION. The free values: what the manual leaves open and the machine goes on from. -/

namespace Sys2Proof

/-- An open value of the manual, fresh for every argument: nothing can be proved about it. It decides what a
part of the EEPROM holds after a write that failed or was cut off (R209, R211, R215; log 7), which of two expiries of
the same millisecond is taken first (log 2), and which of two packers started by one event places its request first
(log 34). -/
opaque Config.freeNat : Nat → Nat

end Sys2Proof
end

