-- ==== Sys2Proof/Machine/Blocks.lean ====
section
/-! DEFINITION. The state of each block of the B40 as plain data, in the manual's own names. A running timer is the
body-timer time at which it started; a stopped timer is none. -/

namespace Sys2Proof.Machine

/-- A timer of the body timer: none while stopped, else the time at which it started. -/
abbrev Timer := Option Nat

/-! ### Families: one value per lifter, stream, profile, port or flow consumer -/

/-- One value for each lifter. -/
structure PerLifter (α : Type) where
  left : α
  right : α
deriving DecidableEq, Repr

/-- The value of a lifter. -/
def PerLifter.get {α : Type} (p : PerLifter α) : Lifter → α
  | .left => p.left
  | .right => p.right

/-- A new value for one lifter. -/
def PerLifter.set {α : Type} (p : PerLifter α) (l : Lifter) (v : α) : PerLifter α :=
  match l with
  | .left => { p with left := v }
  | .right => { p with right := v }

/-- One value for each waste stream. -/
structure PerStream (α : Type) where
  residual : α
  recycle : α
deriving DecidableEq, Repr

/-- The value of a stream. -/
def PerStream.get {α : Type} (p : PerStream α) : Stream → α
  | .residual => p.residual
  | .recycle => p.recycle

/-- A new value for one stream. -/
def PerStream.set {α : Type} (p : PerStream α) (st : Stream) (v : α) : PerStream α :=
  match st with
  | .residual => { p with residual := v }
  | .recycle => { p with recycle := v }

/-- The bin types of the two profile banks (R27). -/
inductive Profile where
  | twoWheel | fourWheel
deriving DecidableEq, Repr

/-- One value for each profile. -/
structure PerProfile (α : Type) where
  twoWheel : α
  fourWheel : α
deriving DecidableEq, Repr

/-- The value of a profile. -/
def PerProfile.get {α : Type} (p : PerProfile α) : Profile → α
  | .twoWheel => p.twoWheel
  | .fourWheel => p.fourWheel

/-- A new value for one profile. -/
def PerProfile.set {α : Type} (p : PerProfile α) (b : Profile) (v : α) : PerProfile α :=
  match b with
  | .twoWheel => { p with twoWheel := v }
  | .fourWheel => { p with fourWheel := v }

/-- One value for each port. -/
structure PerPort (α : Type) where
  cab : α
  route : α
  chassis : α
deriving DecidableEq, Repr

/-- The value of a port. -/
def PerPort.get {α : Type} (p : PerPort α) : Port → α
  | .cab => p.cab
  | .route => p.route
  | .chassis => p.chassis

/-- A new value for one port. -/
def PerPort.set {α : Type} (p : PerPort α) (x : Port) (v : α) : PerPort α :=
  match x with
  | .cab => { p with cab := v }
  | .route => { p with route := v }
  | .chassis => { p with chassis := v }

/-- One value for each flow consumer. -/
structure PerConsumer (α : Type) where
  left : α
  right : α
  residual : α
  recycle : α
deriving DecidableEq, Repr

/-- The value of a consumer. -/
def PerConsumer.get {α : Type} (p : PerConsumer α) : Consumer → α
  | .lifter .left => p.left
  | .lifter .right => p.right
  | .packer .residual => p.residual
  | .packer .recycle => p.recycle

/-- A new value for one consumer. -/
def PerConsumer.set {α : Type} (p : PerConsumer α) (c : Consumer) (v : α) : PerConsumer α :=
  match c with
  | .lifter .left => { p with left := v }
  | .lifter .right => { p with right := v }
  | .packer .residual => { p with residual := v }
  | .packer .recycle => { p with recycle := v }

/-! ### Lift sequencers (chapter 1) -/

/-- The current phase of a lift context: every lifter state but IDLE, in the order of R1. -/
inductive Phase where
  | raiseWeigh | grossWeigh | raiseDump | dumpDwell | shake | lowerWeigh | tareWeigh | lowerRest
  | held | returning | fault
deriving DecidableEq, Repr

/-- The profile selections (R28). -/
inductive Selection where
  | twoWheel | fourWheel | auto
deriving DecidableEq, Repr

/-- The hold reasons, in the order of R8. -/
inductive HoldReason where
  | operator | speed | tailgate | step | estop | flow
deriving DecidableEq, Repr

/-- A set of hold reasons (R8). -/
structure HoldReasons where
  operator : Bool := false
  speed : Bool := false
  tailgate : Bool := false
  step : Bool := false
  estop : Bool := false
  flow : Bool := false
deriving DecidableEq, Repr

/-- The weigh outcomes, in the order of R8. -/
inductive WeighOutcome where
  | ok | unstable | tilt | overRange | zeroDrift | sensor | timeout | noCalibration
deriving DecidableEq, Repr

/-- The set of record flags, in the order of R170. -/
structure RecordFlags where
  accountChanged : Bool := false
  negativeNetClamped : Bool := false
  belowMin : Bool := false
  minApplied : Bool := false
  capApplied : Bool := false
  windowRetried : Bool := false
  timeUnsynced : Bool := false
deriving DecidableEq, Repr

/-- The account part of a lift context (R8), the snapshot of R155. -/
structure AccountPart where
  account : Nat
  tariffClass : Nat
deriving DecidableEq, Repr

/-- A lifter's valves. -/
inductive Valve where
  | raise | lower
deriving DecidableEq, Repr

/-- The lift context (R8), with the timers of its phases. Its lifter is the lifter that holds it, and its
reservation is the journal's reservation of that lifter. -/
structure LiftContext where
  bank : Profile
  stream : Stream
  /-- The bound tag (R155). -/
  tag : Option Nat
  account : Option AccountPart
  phase : Phase
  remembered : Option Phase
  reasons : HoldReasons
  gross : Option Int
  tare : Option Int
  retry : Nat
  outcome : WeighOutcome
  sealWasOpen : Bool
  dumped : Bool
  shakesDone : Nat
  abortPhase : Option Phase
  startTime : Nat
  flags : RecordFlags
  /-- Whether the lift-triggered cycles have been given (R16, R22). -/
  cyclesGiven : Bool
  /-- The phase time limit, from the grant (R9, R11, R23). -/
  phaseTimer : Timer
  /-- The 200 ms settle timer (R12). -/
  settleTimer : Timer
  /-- The 1,500 ms weigh-phase limit (R12, R14). -/
  limitTimer : Timer
  /-- The dump dwell (R16). -/
  dwellTimer : Timer
  /-- The shake pulse in progress: its valve and its start (R17). -/
  pulse : Option (Valve × Nat)
deriving DecidableEq, Repr

/-- The reasons of R216, as answered REFUSED and as written into a last-refusal status. -/
inductive Reason where
  | notFitted | bodyNotRunning | tailgateOpen | vehicleDataStale | speed | stepOccupied | tagSuspended | tailgate
  | quota | compartmentFull | payloadLimit | journalFull | untaggedRefused | unknownTagRefused | estop
  | step | estopActive | notStepMode | parkBrake | lifterBusy | packerBusy | tailgateNotCycled | storeFailed
deriving DecidableEq, Repr

/-- Where a lift start came from (R6). -/
inductive StartSource where
  | port (p : Port)
  | rear
deriving DecidableEq, Repr

/-- A lifter's last-refusal status (R6). -/
structure LastRefusal where
  reason : Reason
  source : StartSource
  time : Nat
deriving DecidableEq, Repr

/-- The fault causes of a lifter (R11). -/
inductive LiftFaultCause where
  | phaseTimeout | angleStale
deriving DecidableEq, Repr

/-- A lifter's last-fault status (R11). -/
structure LastFault where
  cause : LiftFaultCause
  phase : Phase
  time : Nat
deriving DecidableEq, Repr

/-- The lifter settings (R2). -/
structure LifterSettings where
  fitted : Bool
  defaultStream : Stream
  defaultProfile : Profile
  initialSelection : Selection
  restAngle : Nat
deriving DecidableEq, Repr

/-- A lift sequencer with its valves, hand controls and statuses (chapter 1). -/
structure LifterUnit where
  settings : LifterSettings
  selection : Selection
  context : Option LiftContext
  raiseValve : Bool
  lowerValve : Bool
  startPressed : Bool
  stopPressed : Bool
  lastRefusal : Option LastRefusal
  lastFault : Option LastFault
deriving DecidableEq, Repr

/-- A profile bank (R27). -/
structure Bank where
  weighAngle : Nat
  dumpAngle : Nat
  dumpDwell : Nat
  shakeCount : Nat
  raiseTimeout : Nat
  lowerTimeout : Nat
  nominalMass : Nat
deriving DecidableEq, Repr

/-! ### Body supervisor (chapter 2) -/

/-- The body states, in the order of R32. -/
inductive BodyState where
  | starting | running | halted
deriving DecidableEq, Repr

/-- A line with its settled reading (R33): true means ACTIVE, CLOSED, OCCUPIED for the supervisor's lines and OPEN
for the seal. The settling timer runs while the line differs from the reading. -/
structure Debounced where
  line : Bool
  reading : Bool
  settling : Timer
deriving DecidableEq, Repr

/-- The engine states, in the order of R40. -/
inductive EngineState where
  | off | idle | high
deriving DecidableEq, Repr

/-- The six fields of Vehicle Data (R40). -/
structure VehicleData where
  speed : Nat
  engine : EngineState
  parkBrake : Bool
  reverse : Bool
  clock : Nat
  odometer : Nat
deriving DecidableEq, Repr

/-- The set of inhibit reasons (R46). -/
structure InhibitReasons where
  leftLifter : Bool
  rightLifter : Bool
  tailgate : Bool
deriving DecidableEq, Repr

/-- The body supervisor (chapter 2). -/
structure Body where
  state : BodyState
  estop : Debounced
  tailgate : Debounced
  steps : PerLifter Debounced
  tailgateCycled : PerStream Bool
  /-- The last accepted values, or none received (R40). -/
  vehicle : Option VehicleData
  /-- When they were accepted (R47). -/
  lastAccepted : Option Nat
  /-- FRESH; the freshness timer of R42 runs exactly then, from the last acceptance. -/
  fresh : Bool
  clockSeconds : Nat
  /-- The remainder (R44); 1,000 only until its ROUTE_CLOCK_SECOND is taken (log 1). -/
  clockMillis : Nat
  inhibitLine : Bool
  inhibitReasons : InhibitReasons
deriving DecidableEq, Repr

/-! ### Flow arbiter (chapter 3) -/

/-- A consumer's flow record (R50). -/
inductive FlowRecord where
  | none
  | waiting (demand : Nat) (since : Nat)
  | granted (units : Nat)
deriving DecidableEq, Repr

/-- The flow arbiter (chapter 3). -/
structure Flow where
  /-- The effective engine state last handed (R51). -/
  engine : EngineState
  supply : Nat
  records : PerConsumer FlowRecord
  /-- The waiting list, oldest first (R52). -/
  waiting : List Consumer
  /-- The engine-speed request line (R62). -/
  line : Bool
deriving DecidableEq, Repr

/-! ### Compaction controllers and compartment accounts (chapter 4) -/

/-- The pack modes, in the order of R66. -/
inductive PackMode where
  | single | continuous | step
deriving DecidableEq, Repr

/-- The phases of a packer in stroke (R66). -/
inductive StrokePhase where
  | extending | dwell | retracting
deriving DecidableEq, Repr

/-- The pause points (R66). -/
inductive PausePoint where
  | extended | retracted
deriving DecidableEq, Repr

/-- The set of a packer's hold reasons (R66). -/
structure PackHoldReasons where
  tailgate : Bool
  flow : Bool
deriving DecidableEq, Repr

/-- The packer states (R66), with the fields that are present in one state only. -/
inductive PackerState where
  | idle
  | stroke (ph : StrokePhase)
  | paused (point : PausePoint)
  | held (remembered : StrokePhase) (reasons : PackHoldReasons)
  | halted
  | fault
deriving DecidableEq, Repr

/-- The fault causes of a packer (R73). -/
inductive PackFaultCause where
  | extendTimeout | retractTimeout | pressureStale | strokeStale
deriving DecidableEq, Repr

/-- A packer's last fault (R66, R73). -/
structure PackLastFault where
  cause : PackFaultCause
  phase : StrokePhase
  time : Nat
deriving DecidableEq, Repr

/-- The packer settings (R67). -/
structure PackerSettings where
  retracted : Nat
  fullStroke : Nat
  pressureLimit : Nat
  liftCycles : Nat
deriving DecidableEq, Repr

/-- A compaction controller (R66). -/
structure Packer where
  mode : PackMode
  settings : PackerSettings
  state : PackerState
  pending : Nat
  dropped : Nat
  stopRequested : Bool
  shortStrokes : Nat
  lastFault : Option PackLastFault
  extendValve : Bool
  retractValve : Bool
  /-- The extend timer, the dwell or the retract timer, according to the phase (R70 to R72). -/
  timer : Timer
deriving DecidableEq, Repr

/-- The fill states, in the order of R82. -/
inductive FillState where
  | opened | nearFull | full
deriving DecidableEq, Repr

/-- A compartment account (R82 to R84). -/
structure Compartment where
  fill : FillState
  payload : Nat
  loadNumber : Nat
  limit : Nat
  limitReached : Bool
deriving DecidableEq, Repr

/-! ### Sensor scan unit (chapter 5) -/

/-- The last valid value of a channel and the pass in which it was written (R90). -/
structure SlotResult where
  value : Int
  pass : Nat
deriving DecidableEq, Repr

/-- A channel slot (R90) with its freshness timer (R95). -/
structure Slot where
  result : Option SlotResult
  fresh : Bool
  timer : Timer
deriving DecidableEq, Repr

/-- A copy of a slot's value and freshness (R101). -/
structure SlotCopy where
  value : Option Int
  fresh : Bool
deriving DecidableEq, Repr

/-- The copies kept with a completed window (R101). -/
structure SlotCopies where
  pitch : SlotCopy
  roll : SlotCopy
  excitation : SlotCopy
deriving DecidableEq, Repr

/-- A capture buffer (R98), samples in the order their conversions completed. -/
inductive Buffer where
  | empty
  | filling (size : Nat) (samples : List Int)
  | held (size : Nat) (samples : List Int) (copies : SlotCopies)
deriving DecidableEq, Repr

/-- What the converter is doing (R89, R93, R99). A ring conversion converts the channel of the ring position. -/
inductive Converter where
  | idle
  | ring
  | inserted (l : Lifter)
deriving DecidableEq, Repr

/-- The sensor scan unit (chapter 5). -/
structure Scan where
  ringStart : Fin 12
  ringEnd : Fin 12
  ringPos : Fin 12
  converter : Converter
  pass : Nat
  slots : Vector Slot 12
  buffers : PerLifter Buffer
  /-- The insertion pointer (R99). -/
  pointer : Lifter
deriving DecidableEq, Repr

/-! ### Calibration (chapters 6 and 7) -/

/-- The twenty calibration items of a lifter (R111, R128). -/
structure CalItems where
  zeroOffset : Int
  span : Nat
  pitchZero : Nat
  rollZero : Nat
  pitchTable : Vector Nat 9
  division : PerProfile Nat
  maximum : PerProfile Nat
  stabilityBand : Nat
  driftLimit : Nat
  windowSize : Nat
deriving DecidableEq, Repr

/-- The item names of R128. -/
inductive CalItem where
  | zeroOffset | span | pitchZero | rollZero
  | pitchEntry (k : Fin 9)
  | division (b : Profile)
  | maximum (b : Profile)
  | stabilityBand | driftLimit | windowSize
deriving DecidableEq, Repr

/-- One lifter's calibration with its marks (R128). -/
structure LifterCal where
  items : CalItems
  valid : Bool
  committed : Bool
  /-- Whether a Write Calibration for this lifter was taken since the commit in progress began (R134). -/
  takenSinceCommit : Bool
deriving DecidableEq, Repr

/-- The calibration store (chapter 7). -/
structure CalStore where
  cal : PerLifter LifterCal
  sealSwitch : Debounced
  counter : Nat
  commitOwed : Bool
  /-- The last commit result: true OK, false FAILED (R134, R136). -/
  lastCommit : Option Bool
  identity : Vector (Option Byte) 16
deriving DecidableEq, Repr

/-! ### Weigh engine (chapter 6) -/

/-- The computation in progress and the inputs taken at its start (R108). -/
structure Computation where
  lifter : Lifter
  bank : Profile
  startedAt : Nat
  calValid : Bool
  items : CalItems
  size : Nat
  samples : List Int
  copies : SlotCopies
deriving DecidableEq, Repr

/-- The last result of a lifter (R119). -/
structure LastResult where
  outcome : WeighOutcome
  mass : Option Int
  tilt : Option (Int × Int)
  spread : Option Nat
  factor : Option Nat
  size : Nat
  time : Nat
deriving DecidableEq, Repr

/-- A zero-drift monitor (R122). -/
structure DriftMonitor where
  disabled : Bool
  count : Nat
  /-- The value and pass number of the last check. -/
  lastCheck : Option (Int × Nat)
deriving DecidableEq, Repr

/-- The weigh engine (chapter 6). -/
structure Weigh where
  /-- The service queue, oldest first; its head is in computation (R107). -/
  queue : List Lifter
  computation : Option Computation
  drift : PerLifter DriftMonitor
  last : PerLifter (Option LastResult)
deriving DecidableEq, Repr

/-! ### Tag and account unit, tariffs (chapters 8 and 9), protected words (chapter 10) -/

/-- How many bits of a protected word are in error: what SEC-DED can tell of it (R183). -/
inductive Health where
  | clean | single | double
deriving DecidableEq, Repr

/-- A protected word: the content written and the errors that have come since (R183; log 9). -/
structure Stored (α : Type) where
  content : α
  health : Health
deriving DecidableEq, Repr

/-- An account entry (R147). -/
structure AccountEntry where
  tag : Nat
  account : Nat
  stream : Stream
  profile : Profile
  tariffClass : Nat
  suspended : Bool
  quota : Nat
  lifts : Nat
  allowance : Nat
deriving DecidableEq, Repr

/-- A pending tag (R143, R144). -/
structure PendingTag where
  tag : Nat
  quality : Nat
  stamp : Nat
deriving DecidableEq, Repr

/-- The dispositions of a read, in the order of R141. -/
inductive Disposition where
  | invalid | starting | lowQuality | bound | accepted
deriving DecidableEq, Repr

/-- A lifter's last read (R141, R158); tag and quality are absent for a checksum failure. -/
structure LastRead where
  disposition : Disposition
  read : Option (Nat × Nat)
  time : Nat
deriving DecidableEq, Repr

/-- A tariff class (R161). -/
structure Tariff where
  residualRate : Nat
  recycleRate : Nat
  minimum : Nat
  cap : Nat
deriving DecidableEq, Repr

/-- The tag and account unit (chapter 8) with the tariff table (R161). -/
structure TagUnit where
  /-- The account table in ascending order of tags (R148). -/
  table : List (Stored AccountEntry)
  untaggedAllow : Bool
  unknownAllow : Bool
  threshold : Nat
  crossReads : Nat
  pendingTags : PerLifter (Option PendingTag)
  lastReads : PerLifter (Option LastRead)
  tariffs : Vector Tariff 16
deriving DecidableEq, Repr

/-! ### Bin event journal (chapter 9) -/

/-- The statuses of a record, in the order of R164. -/
inductive RecordStatus where
  | aborted | abortedReset | unbilledUnsealed | unbilledNoIdentity | unbilledNoTag | unbilledUnknownTag
  | unbilledUnweighed | billed
deriving DecidableEq, Repr

/-- The charge and the allowance used of a BILLED record (R166). -/
structure Charge where
  cents : Nat
  used : Nat
deriving DecidableEq, Repr

/-- A record (R169). -/
structure Record where
  sequence : Nat
  lifter : Lifter
  profile : Profile
  stream : Stream
  loadNumber : Nat
  tag : Option Nat
  account : Option AccountPart
  gross : Option Int
  tare : Option Int
  net : Option Nat
  outcome : WeighOutcome
  dumpedMass : Nat
  charge : Option Charge
  status : RecordStatus
  abortPhase : Option Phase
  flags : RecordFlags
  startTime : Nat
  completionTime : Nat
  odometer : Option Nat
  /-- The context's "seal was open" as it stood (R140); R218 delivers no byte of it (log 41). -/
  sealWasOpen : Bool
deriving DecidableEq, Repr

/-- An occupied journal slot: the stored record and the damaged mark (R171, R188). -/
structure JournalSlot where
  stored : Stored Record
  damaged : Bool
deriving DecidableEq, Repr

/-- The bin event journal (R171): the occupied slots from the oldest record to the newest, which ends just before
the write position. -/
structure Journal where
  slots : List JournalSlot
  writePos : Nat
  nextSequence : Nat
  /-- Whether the lifter's context holds a reservation. -/
  reservations : PerLifter Bool
deriving DecidableEq, Repr

/-- The integrity monitor's correction counters (R184). -/
structure Integrity where
  accountCorrections : Nat
  journalCorrections : Nat
deriving DecidableEq, Repr

/-! ### Links, events and the access map (chapter 11) -/

/-- A set of the 26 event kinds, bit n standing for event n (R202, R217). -/
abbrev EventSet := BitVec 26

/-- An answer on its way out (R197): request number, kind byte, payload. -/
structure Answer where
  number : Byte
  kind : Byte
  payload : List Byte
deriving DecidableEq, Repr

/-- A port's service state (R193, R195): IDLE, or IN_SERVICE with one request, which waits for its owner's decision
or whose answer is being sent. -/
inductive Service where
  | idle
  | waiting (number kind : Byte)
  | answering (a : Answer)
deriving DecidableEq, Repr

/-- A port's receive state (R193, R194): HUNTING, or RECEIVING with the bytes taken from the start byte on and the
time of the last one, from which the 2 ms gap runs. -/
inductive Receive where
  | hunting
  | receiving (bytes : List Byte) (last : Nat)
deriving DecidableEq, Repr

/-- A port (R193). -/
structure PortState where
  receive : Receive
  service : Service
  errors : Nat
  overruns : Nat
  latched : EventSet
  mask : EventSet
  attention : Bool
deriving DecidableEq, Repr

/-- The fourteen request classes, in the order of R198. -/
inductive RequestClass where
  | lift | pack | body | accounts | tariff | journalRead | journalAck | calibration | identity | vehicle
  | status | events | scan | map
deriving DecidableEq, Repr

/-- A port's two rights for a class (R199): true means GRANTED. -/
structure Rights where
  read : Bool
  write : Bool
deriving DecidableEq, Repr

/-- The rights of each port and class (R199), classes in the order of R198. -/
abbrev AccessMap := PerPort (Vector Rights 14)

/-- The access map and its lock (R199, R201). -/
structure Access where
  map : AccessMap
  locked : Bool
deriving DecidableEq, Repr

/-! ### Settings loader (chapter 12) -/

/-- The settings of the settings block (R210). -/
structure Settings where
  lifters : PerLifter LifterSettings
  banks : PerProfile Bank
  packModes : PerStream PackMode
  packers : PerStream PackerSettings
  limits : PerStream Nat
  bodyLimit : Nat
  threshold : Nat
  untaggedAllow : Bool
  unknownAllow : Bool
  ringStart : Fin 12
  ringEnd : Fin 12
  masks : PerPort EventSet
  map : AccessMap
deriving DecidableEq, Repr

/-- A stored part of the EEPROM (R210): its content, and whether the checksum it carries matches (log 8). -/
structure Part (α : Type) where
  content : α
  good : Bool
deriving DecidableEq, Repr

/-- The five stored parts (R210). -/
structure Eeprom where
  settings : Part Settings
  calibration : PerLifter (Part CalItems)
  identity : Part (Vector (Option Byte) 16)
  counter : Part Nat
deriving DecidableEq, Repr

/-- An EEPROM write in flight (R211), with the port whose request it decides. A commit takes its copies when it
begins (R134). -/
inductive WriteJob where
  | counter (p : Port) (l : Lifter) (item : CalItem) (value : Int) (count : Nat)
  | commit (copies : PerLifter (Option CalItems))
  | identity (p : Port) (content : Vector (Option Byte) 16)
  | settings (p : Port) (content : Settings)
deriving DecidableEq, Repr

/-- The parts in the order the power-on load reads them (R212). -/
inductive LoadPart where
  | settings
  | calibration (l : Lifter)
  | identity
  | counter
deriving DecidableEq, Repr

/-- The load in progress (R212, R213): none, the part being read, or the body-reset pass with its start. -/
inductive LoadState where
  | none
  | reading (p : LoadPart)
  | pass (since : Nat)
deriving DecidableEq, Repr

/-- The settings loader (chapter 12): the writes in flight in the order handed, the time at which the one at the head
began (R211), the load, the EEPROM. -/
structure Loader where
  writes : List WriteJob
  writeStart : Timer
  load : LoadState
  eeprom : Eeprom
deriving DecidableEq, Repr

end Sys2Proof.Machine
end

