-- ==== Sys2Proof/Machine/Defaults.lean ====
section
/-! DEFINITION. The built-in defaults of the settings and of the calibration items, and the state in which power-on
reset leaves each block before anything has been loaded. -/

namespace Sys2Proof.Machine

/-! ### Built-in settings (R2, R27, R67, R68, R84, R92, R142, R153, R199, R204) -/

/-- The built-in lifter settings of R2. -/
def defaultLifterSettings : PerLifter LifterSettings :=
  { left := ⟨true, .residual, .twoWheel, .auto, 30⟩, right := ⟨true, .recycle, .twoWheel, .auto, 30⟩ }

/-- The built-in banks of R27. -/
def defaultBanks : PerProfile Bank :=
  { twoWheel := ⟨350, 1400, 600, 2, 4000, 4000, 15000⟩
    fourWheel := ⟨300, 1250, 1000, 3, 6000, 6000, 60000⟩ }

/-- The built-in packer settings of R67, the same for both streams. -/
def defaultPackerSettings : PackerSettings := ⟨200, 3800, 3300, 1⟩

/-- The built-in compartment limits of R84. -/
def defaultLimits : PerStream Nat := { residual := 9000000, recycle := 5000000 }

/-- The built-in body payload limit of R84. -/
def defaultBodyLimit : Nat := 12000000

/-- Neither right (R199). -/
def noRight : Rights := ⟨false, false⟩

/-- The read right alone (R199). -/
def readOnly : Rights := ⟨true, false⟩

/-- The write right alone (R199). -/
def writeOnly : Rights := ⟨false, true⟩

/-- Both rights (R199). -/
def bothRights : Rights := ⟨true, true⟩

/-- The built-in rights of the cab port (R199), classes in the order of R198. -/
def defaultCabRights : Vector Rights 14 :=
  #v[writeOnly, writeOnly, writeOnly, readOnly, readOnly, readOnly, noRight, bothRights, bothRights, noRight,
    readOnly, bothRights, bothRights, bothRights]

/-- The built-in rights of the route port (R199). -/
def defaultRouteRights : Vector Rights 14 :=
  #v[noRight, noRight, noRight, bothRights, bothRights, readOnly, writeOnly, readOnly, readOnly, noRight, readOnly,
    bothRights, noRight, noRight]

/-- The built-in rights of the chassis port (R199). -/
def defaultChassisRights : Vector Rights 14 :=
  #v[noRight, noRight, noRight, noRight, noRight, noRight, noRight, noRight, noRight, writeOnly, readOnly,
    bothRights, noRight, noRight]

/-- The built-in access map of R199. -/
def defaultMap : AccessMap :=
  { cab := defaultCabRights, route := defaultRouteRights, chassis := defaultChassisRights }

/-- Every setting of the settings block at its built-in default (R210, R212). -/
def defaultSettings : Settings :=
  { lifters := defaultLifterSettings
    banks := defaultBanks
    packModes := { residual := .single, recycle := .single }
    packers := { residual := defaultPackerSettings, recycle := defaultPackerSettings }
    limits := defaultLimits
    bodyLimit := defaultBodyLimit
    threshold := 4
    untaggedAllow := true
    unknownAllow := true
    ringStart := 0
    ringEnd := 11
    masks := { cab := 0, route := 0, chassis := 0 }
    map := defaultMap }

/-! ### Calibration defaults (R111) -/

/-- The default items of R111. -/
def defaultCalItems : CalItems :=
  { zeroOffset := 0
    span := 65536
    pitchZero := 2048
    rollZero := 2048
    pitchTable := Vector.replicate 9 65536
    division := { twoWheel := 500, fourWheel := 1000 }
    maximum := { twoWheel := 120000, fourWheel := 600000 }
    stabilityBand := 400
    driftLimit := 2000
    windowSize := 32 }

/-- A lifter's calibration before its part has been loaded (R139; log 11). -/
def unloadedCal : LifterCal := ⟨defaultCalItems, false, true, false⟩

/-- The counter's value when its block fails its check (R133), and before the load (log 11). -/
def failedCounter : Nat := 65535

/-- An identity with no written character (R139). -/
def emptyIdentity : Vector (Option Byte) 16 := Vector.replicate 16 none

/-! ### Power-on states of the blocks -/

/-- A lift sequencer after power-on reset (R31), its hand controls as they stand. -/
def powerOnLifter (settings : LifterSettings) (startPressed stopPressed : Bool) : LifterUnit :=
  { settings := settings
    selection := settings.initialSelection
    context := none
    raiseValve := false
    lowerValve := false
    startPressed := startPressed
    stopPressed := stopPressed
    lastRefusal := none
    lastFault := none }

/-- A line whose reading is taken from its level as it stands (R33, R130). -/
def settled (level : Bool) : Debounced := ⟨level, level, none⟩

/-- The body supervisor after power-on reset (R48), from the four line levels as they stand. -/
def powerOnBody (estop tailgate stepLeft stepRight : Bool) : Body :=
  { state := .starting
    estop := settled estop
    tailgate := settled tailgate
    steps := { left := settled stepLeft, right := settled stepRight }
    tailgateCycled := { residual := false, recycle := false }
    vehicle := none
    lastAccepted := none
    fresh := false
    clockSeconds := 0
    clockMillis := 0
    inhibitLine := !tailgate
    inhibitReasons := ⟨false, false, !tailgate⟩ }

/-- The flow arbiter after power-on reset and body reset (R64, R65). -/
def resetFlow : Flow :=
  { engine := .off
    supply := 0
    records := ⟨.none, .none, .none, .none⟩
    waiting := []
    line := false }

/-- A compaction controller after power-on reset (R87). -/
def powerOnPacker (mode : PackMode) (settings : PackerSettings) : Packer :=
  { mode := mode
    settings := settings
    state := .idle
    pending := 0
    dropped := 0
    stopRequested := false
    shortStrokes := 0
    lastFault := none
    extendValve := false
    retractValve := false
    timer := none }

/-- A compartment account after power-on reset (R87). -/
def powerOnCompartment (limit : Nat) : Compartment := ⟨.opened, 0, 1, limit, false⟩

/-- A slot after a reset: no value, STALE, no timer (R105). -/
def emptySlot : Slot := ⟨none, false, none⟩

/-- The sensor scan unit after power-on reset (R105), before the ring has been handed to it. -/
def powerOnScan : Scan :=
  { ringStart := 0
    ringEnd := 11
    ringPos := 0
    converter := .idle
    pass := 0
    slots := Vector.replicate 12 emptySlot
    buffers := { left := .empty, right := .empty }
    pointer := .left }

/-- A drift monitor after power-on reset (R126). -/
def powerOnDrift : DriftMonitor := ⟨false, 0, none⟩

/-- The weigh engine after power-on reset (R126). -/
def powerOnWeigh : Weigh :=
  { queue := []
    computation := none
    drift := { left := powerOnDrift, right := powerOnDrift }
    last := { left := none, right := none } }

/-- The calibration store after power-on reset (R139), before the load; the seal reading from its line. -/
def powerOnCalStore (seal_ : Bool) : CalStore :=
  { cal := { left := unloadedCal, right := unloadedCal }
    sealSwitch := settled seal_
    counter := failedCounter
    commitOwed := false
    lastCommit := none
    identity := emptyIdentity }

/-- A tariff class after power-on reset, and class 0 always (R161, R181). -/
def zeroTariff : Tariff := ⟨0, 0, 0, 0⟩

/-- The tag and account unit after power-on reset (R159), with the tariff table (R181). -/
def powerOnTags : TagUnit :=
  { table := []
    untaggedAllow := true
    unknownAllow := true
    threshold := 4
    crossReads := 0
    pendingTags := { left := none, right := none }
    lastReads := { left := none, right := none }
    tariffs := Vector.replicate 16 zeroTariff }

/-- The journal after power-on reset (R181). -/
def powerOnJournal : Journal :=
  { slots := []
    writePos := 0
    nextSequence := 1
    reservations := { left := false, right := false } }

/-- A port after power-on reset (R207): no event latched, no mask, so its attention line is released. -/
def powerOnPort : PortState := ⟨.hunting, .idle, 0, 0, 0, 0, false⟩

/-- The access map after power-on reset (R207). -/
def powerOnAccess : Access := ⟨defaultMap, false⟩

/-- An EEPROM none of whose parts passes its check: what State.reset finds (log 6). -/
def blankEeprom : Eeprom :=
  { settings := ⟨defaultSettings, false⟩
    calibration := { left := ⟨defaultCalItems, false⟩, right := ⟨defaultCalItems, false⟩ }
    identity := ⟨emptyIdentity, false⟩
    counter := ⟨failedCounter, false⟩ }

end Sys2Proof.Machine
end

