-- ==== Sys2Proof/Machine/State.lean ====
section
/-! DEFINITION. The state of the B40, what a step can end in, and the machine right after power-on reset. -/

namespace Sys2Proof.Machine

/-- Why the machine stops. Nothing in the manual stops the B40: a refused request is answered with a code, and a
lifter or packer in FAULT is a state of that unit. So there is no constructor, and no command can fault. -/
inductive Fault
deriving DecidableEq, Repr

/-- Why a command has no meaning. -/
inductive Refusal where
  /-- Raised by exec for a command without a meaning of its own. Safe: nothing can be proved of a run past it. No
  arm uses it. -/
  | notModelled (mnemonic : String)
deriving DecidableEq, Repr

/-- The state of the B40: the blocks of 00_scope.md's overview, the queue of waiting commands and the body timer. -/
structure State where
  /-- The commands that wait, first in, first out (the model's own). -/
  pending : List Instr
  /-- How many free values have been consumed (the model's own; log 2, log 7, log 34). -/
  freeIndex : Nat
  /-- The external reset line is asserted (R209). -/
  resetHeld : Bool
  /-- The body timer in milliseconds (log 10). -/
  bodyTimer : Nat
  lifters : PerLifter LifterUnit
  banks : PerProfile Bank
  body : Body
  flow : Flow
  packers : PerStream Packer
  compartments : PerStream Compartment
  /-- The body payload limit (R84). -/
  bodyLimit : Nat
  scan : Scan
  weigh : Weigh
  calib : CalStore
  tags : TagUnit
  journal : Journal
  integrity : Integrity
  ports : PerPort PortState
  access : Access
  loader : Loader
deriving DecidableEq, Repr

/-- The machine right after power-on reset: every block in its power-on state (R31, R48, R64, R87, R105, R126,
R139, R159, R181, R191, R207), the power-on load at its first part (R212), no command waiting. The lines stand
at emergency stop RELEASED, tailgate CLOSED, steps FREE, seal CLOSED and buttons released (log 5), and the EEPROM
is blank (log 6). -/
def State.reset : State :=
  { pending := []
    freeIndex := 0
    resetHeld := false
    bodyTimer := 0
    lifters :=
      { left := powerOnLifter defaultLifterSettings.left false false
        right := powerOnLifter defaultLifterSettings.right false false }
    banks := defaultBanks
    body := powerOnBody false true false false
    flow := resetFlow
    packers :=
      { residual := powerOnPacker .single defaultPackerSettings
        recycle := powerOnPacker .single defaultPackerSettings }
    compartments :=
      { residual := powerOnCompartment defaultLimits.residual
        recycle := powerOnCompartment defaultLimits.recycle }
    bodyLimit := defaultBodyLimit
    scan := powerOnScan
    weigh := powerOnWeigh
    calib := powerOnCalStore false
    tags := powerOnTags
    journal := powerOnJournal
    integrity := ⟨0, 0⟩
    ports := { cab := powerOnPort, route := powerOnPort, chassis := powerOnPort }
    access := powerOnAccess
    loader := ⟨[], none, .reading .settings, blankEeprom⟩ }

end Sys2Proof.Machine
end

