-- ==== Sys2Proof/Machine/Update.lean ====
section
/-! DEFINITION. The named updates of State, one per field, and the accessors of its families. -/

namespace Sys2Proof.Machine

/-- s with a new pending. -/
def State.withPending (s : State) (v : List Instr) : State := { s with pending := v }

/-- s with a new freeIndex. -/
def State.withFreeIndex (s : State) (v : Nat) : State := { s with freeIndex := v }

/-- s with a new resetHeld. -/
def State.withResetHeld (s : State) (v : Bool) : State := { s with resetHeld := v }

/-- s with a new bodyTimer. -/
def State.withBodyTimer (s : State) (v : Nat) : State := { s with bodyTimer := v }

/-- s with a new lifters. -/
def State.withLifters (s : State) (v : PerLifter LifterUnit) : State := { s with lifters := v }

/-- s with a new banks. -/
def State.withBanks (s : State) (v : PerProfile Bank) : State := { s with banks := v }

/-- s with a new body. -/
def State.withBody (s : State) (v : Body) : State := { s with body := v }

/-- s with a new flow. -/
def State.withFlow (s : State) (v : Flow) : State := { s with flow := v }

/-- s with a new packers. -/
def State.withPackers (s : State) (v : PerStream Packer) : State := { s with packers := v }

/-- s with a new compartments. -/
def State.withCompartments (s : State) (v : PerStream Compartment) : State := { s with compartments := v }

/-- s with a new bodyLimit. -/
def State.withBodyLimit (s : State) (v : Nat) : State := { s with bodyLimit := v }

/-- s with a new scan. -/
def State.withScan (s : State) (v : Scan) : State := { s with scan := v }

/-- s with a new weigh. -/
def State.withWeigh (s : State) (v : Weigh) : State := { s with weigh := v }

/-- s with a new calib. -/
def State.withCalib (s : State) (v : CalStore) : State := { s with calib := v }

/-- s with a new tags. -/
def State.withTags (s : State) (v : TagUnit) : State := { s with tags := v }

/-- s with a new journal. -/
def State.withJournal (s : State) (v : Journal) : State := { s with journal := v }

/-- s with a new integrity. -/
def State.withIntegrity (s : State) (v : Integrity) : State := { s with integrity := v }

/-- s with a new ports. -/
def State.withPorts (s : State) (v : PerPort PortState) : State := { s with ports := v }

/-- s with a new access. -/
def State.withAccess (s : State) (v : Access) : State := { s with access := v }

/-- s with a new loader. -/
def State.withLoader (s : State) (v : Loader) : State := { s with loader := v }

/-- The lifter of lifter x. -/
def State.lifter (s : State) (x : Lifter) : LifterUnit := s.lifters.get x

/-- s with a new lifter for x. -/
def State.withLifter (s : State) (x : Lifter) (v : LifterUnit) : State := s.withLifters (s.lifters.set x v)

/-- The packer of stream x. -/
def State.packer (s : State) (x : Stream) : Packer := s.packers.get x

/-- s with a new packer for x. -/
def State.withPacker (s : State) (x : Stream) (v : Packer) : State := s.withPackers (s.packers.set x v)

/-- The compartment of stream x. -/
def State.compartment (s : State) (x : Stream) : Compartment := s.compartments.get x

/-- s with a new compartment for x. -/
def State.withCompartment (s : State) (x : Stream) (v : Compartment) : State := s.withCompartments (s.compartments.set x v)

/-- The port of port x. -/
def State.port (s : State) (x : Port) : PortState := s.ports.get x

/-- s with a new port for x. -/
def State.withPort (s : State) (x : Port) (v : PortState) : State := s.withPorts (s.ports.set x v)

/-- The lift context of a lifter, none in IDLE (R1). -/
def State.context (s : State) (l : Lifter) : Option LiftContext := (s.lifter l).context

/-- s with a new lift context, or none, for a lifter. -/
def State.withContext (s : State) (l : Lifter) (c : Option LiftContext) : State :=
  s.withLifter l { s.lifter l with context := c }

/-- s with a lifter's context changed by f, if it has one. -/
def State.mapContext (s : State) (l : Lifter) (f : LiftContext → LiftContext) : State :=
  s.withContext l ((s.context l).map f)

/-- Whether a lifter is IDLE: it holds no context (R1). -/
def State.lifterIdle (s : State) (l : Lifter) : Bool := (s.context l).isNone

/-- The phase of a lifter, none in IDLE. -/
def State.phase (s : State) (l : Lifter) : Option Phase := (s.context l).map LiftContext.phase

/-- s with a lifter's valve outputs. -/
def State.withValves (s : State) (l : Lifter) (raise lower : Bool) : State :=
  s.withLifter l { s.lifter l with raiseValve := raise, lowerValve := lower }

end Sys2Proof.Machine
end

