-- ==== Sys2Proof/Machine/Flags.lean ====
section
/-! DEFINITION. Events, latches, masks and attention lines (section 11.5), and the sets of hold reasons and
inhibit reasons. -/

namespace Sys2Proof.Machine

/-- The event kinds, in the order of their bits (R202, R217). -/
inductive Event where
  | liftRefused | liftHeld | liftFault | packFault | nearFull | full | payloadLimit | flowTimeout
  | highIdleChange | estop | vehicleDataStale | journalHigh | journalFull | recordWritten | accountDamaged
  | recordDamaged | correctionOverflow | sealOpened | sealViolation | accessViolation | linkError | zeroDrift
  | sensorStale | calibrationInvalid | settingsFallback | bodyReset
deriving DecidableEq, Repr

/-- An event's bit in an event set (R217). -/
def eventBit : Event → Nat
  | .liftRefused => 0
  | .liftHeld => 1
  | .liftFault => 2
  | .packFault => 3
  | .nearFull => 4
  | .full => 5
  | .payloadLimit => 6
  | .flowTimeout => 7
  | .highIdleChange => 8
  | .estop => 9
  | .vehicleDataStale => 10
  | .journalHigh => 11
  | .journalFull => 12
  | .recordWritten => 13
  | .accountDamaged => 14
  | .recordDamaged => 15
  | .correctionOverflow => 16
  | .sealOpened => 17
  | .sealViolation => 18
  | .accessViolation => 19
  | .linkError => 20
  | .zeroDrift => 21
  | .sensorStale => 22
  | .calibrationInvalid => 23
  | .settingsFallback => 24
  | .bodyReset => 25

/-- The event set that holds one event. -/
def eventSet (e : Event) : EventSet := BitVec.ofNat 26 (2 ^ eventBit e)

/-- Whether an event set holds an event. -/
def EventSet.holds (x : EventSet) (e : Event) : Bool := x.getLsbD (eventBit e)

/-- The attention line of R205: some latched event is not in the mask. -/
def attentionOf (latched mask : EventSet) : Bool := decide (latched &&& ~~~mask ≠ 0)

/-- A port with its attention line re-evaluated (R205). -/
def PortState.evaluate (x : PortState) : PortState := { x with attention := attentionOf x.latched x.mask }

/-- A port with a new latched set, its attention line re-evaluated (R202, R205). -/
def PortState.setLatched (x : PortState) (v : EventSet) : PortState := PortState.evaluate { x with latched := v }

/-- A port with a new mask, its attention line re-evaluated (R204, R205). -/
def PortState.setMask (x : PortState) (v : EventSet) : PortState := PortState.evaluate { x with mask := v }

/-- A port with one more event latched (R202). -/
def PortState.latch (x : PortState) (e : Event) : PortState := x.setLatched (x.latched ||| eventSet e)

/-- An event set in the port concerned only: ACCESS_VIOLATION and LINK_ERROR (R202). -/
def latchPort (p : Port) (e : Event) (s : State) : State := s.withPort p ((s.port p).latch e)

/-- An event set in all three ports (R202). -/
def latchAll (e : Event) (s : State) : State :=
  s.withPorts
    { cab := s.ports.cab.latch e
      route := s.ports.route.latch e
      chassis := s.ports.chassis.latch e }

/-- An event set in all three ports when a condition holds. -/
def latchWhen (b : Bool) (e : Event) (s : State) : State := if b then latchAll e s else s

/-- Whether a reason is in a set of hold reasons. -/
def HoldReasons.has (r : HoldReasons) : HoldReason → Bool
  | .operator => r.operator
  | .speed => r.speed
  | .tailgate => r.tailgate
  | .step => r.step
  | .estop => r.estop
  | .flow => r.flow

/-- A set of hold reasons with one more reason (R20). -/
def HoldReasons.add (r : HoldReasons) : HoldReason → HoldReasons
  | .operator => { r with operator := true }
  | .speed => { r with speed := true }
  | .tailgate => { r with tailgate := true }
  | .step => { r with step := true }
  | .estop => { r with estop := true }
  | .flow => { r with flow := true }

/-- The conditions of R46 as they stand. -/
def inhibitConditions (s : State) : InhibitReasons :=
  { leftLifter := !s.lifterIdle .left
    rightLifter := !s.lifterIdle .right
    tailgate := !s.body.tailgate.reading }

/-- Whether any inhibit reason holds (R46). -/
def InhibitReasons.any (r : InhibitReasons) : Bool := r.leftLifter || r.rightLifter || r.tailgate

/-- The drive-inhibit line and its reasons re-evaluated (R46). -/
def evaluateInhibit (s : State) : State :=
  s.withBody { s.body with inhibitLine := (inhibitConditions s).any, inhibitReasons := inhibitConditions s }

end Sys2Proof.Machine
end

