-- ==== Sys2Proof/Machine/Limits.lean ====
section
/-! DEFINITION. The durations of the body timer and the fixed bounds the rules name. -/

namespace Sys2Proof.Machine

/-- The settling time of a debounced line (R33, R130). -/
def settlingMs : Nat := 10
/-- The milliseconds of the route clock's second (R44). -/
def secondMs : Nat := 1000
/-- The settle time of a weigh phase (R12). -/
def settleMs : Nat := 200
/-- The weigh-phase limit (R12, R14). -/
def weighLimitMs : Nat := 1500
/-- A shake pulse (R17). -/
def shakePulseMs : Nat := 150
/-- The lowering limit of RETURNING (R23). -/
def returnLimitMs : Nat := 4000
/-- The freshness limit of vehicle data (R42). -/
def vehicleFreshMs : Nat := 500
/-- The longest a flow request waits (R57). -/
def flowWaitMs : Nat := 3000
/-- The extend timer of a packer (R70). -/
def extendMs : Nat := 8000
/-- The dwell of a packer (R71). -/
def packDwellMs : Nat := 500
/-- The retract timer of a packer (R72). -/
def retractMs : Nat := 6000
/-- The freshness limit of a channel (R95). -/
def channelFreshMs : Nat := 20
/-- The longest gap between two characters of a frame (R194). -/
def frameGapMs : Nat := 2
/-- A weigh computation (R109). -/
def computationMs : Nat := 2
/-- The EEPROM's write time, the least a write lasts (R211). -/
def writeMs : Nat := 5
/-- The body-reset pass (R213). -/
def bodyResetPassMs : Nat := 20
/-- The greatest age of a usable pending tag (R144). -/
def pendingTagMs : Nat := 4000

/-- How far short of its target a phase ends (R10), in ddeg. -/
def angleMargin : Nat := 15
/-- The greatest speed at which a lift starts (R4 check 4b), in 0.1 km/h. -/
def startSpeed : Nat := 20
/-- The greatest speed that does not hold a lift (R19, R21). -/
def holdSpeed : Nat := 50
/-- The most flow units the pump gives at idle (R62). -/
def idleUnits : Nat := 8
/-- The capacity of the journal (R171). -/
def journalSlots : Nat := 1024
/-- The count at which JOURNAL_HIGH is set (R173). -/
def journalHighCount : Nat := 960
/-- The capacity of the account table (R148). -/
def tableCapacity : Nat := 4096
/-- The number of sequence numbers and load numbers, 1 to 2^32-1 (R83, R171). -/
def sequenceCount : Nat := 4294967295
/-- The top of the sixteen-bit saturating counters. -/
def top16 : Nat := 65535
/-- The top of the eight-bit saturating counters. -/
def top8 : Nat := 255

/-- A counter that saturates at a bound (00_scope.md, "Ranges and counters"). -/
def saturatingSucc (top n : Nat) : Nat := if n < top then n + 1 else n

/-- The milliseconds since a stamp. -/
def elapsed (s : State) (since : Nat) : Nat := s.bodyTimer - since

/-- Whether a timer runs and has run for its whole duration (log 3). -/
def expired (s : State) (t : Timer) (limit : Nat) : Bool :=
  match t with
  | some since => decide (since + limit ≤ s.bodyTimer)
  | none => false

/-- The route-clock time: the count, without the remainder (R44). -/
def clockTime (s : State) : Nat := s.body.clockSeconds

end Sys2Proof.Machine
end

