-- ==== Sys2Proof/Machine/Flow.lean ====
section
/-! DEFINITION. The flow arbiter (chapter 3): requests, grants, releases, withdrawals, the engine-speed request
line, and the handing of a grant to its consumer. What a revocation or a timeout does to a consumer is in Ops.lean. -/

namespace Sys2Proof.Machine

/-- The four consumers, in the order of R50. -/
def allConsumers : List Consumer := [.lifter .left, .lifter .right, .packer .residual, .packer .recycle]

/-- Whether a consumer is a lifter (R53). -/
def isLifter : Consumer → Bool
  | .lifter _ => true
  | .packer _ => false

/-- The units a record holds: those of a grant (R50). -/
def recordUnits : FlowRecord → Nat
  | .granted u => u
  | _ => 0

/-- The demand of a waiting record (R50). -/
def recordDemand : FlowRecord → Nat
  | .waiting d _ => d
  | _ => 0

/-- Whether a record is GRANTED. -/
def isGranted : FlowRecord → Bool
  | .granted _ => true
  | _ => false

/-- Whether a record is WAITING. -/
def isWaiting : FlowRecord → Bool
  | .waiting _ _ => true
  | _ => false

/-- The granted units: the sum of the units of all GRANTED records (R50). -/
def grantedUnits (f : Flow) : Nat :=
  recordUnits f.records.left + recordUnits f.records.right + recordUnits f.records.residual
    + recordUnits f.records.recycle

/-- The demand of a consumer's waiting request. -/
def demandOf (f : Flow) (c : Consumer) : Nat := recordDemand (f.records.get c)

/-- When the engine-speed request line is asserted (R62). -/
def lineWanted (f : Flow) : Bool :=
  decide (idleUnits < grantedUnits f) || f.waiting.any (fun c => decide (idleUnits < grantedUnits f + demandOf f c))

/-- The engine-speed request line re-evaluated; a change sets HIGH_IDLE_CHANGE (R62). -/
def testLine (s : State) : State :=
  if lineWanted s.flow = s.flow.line then s
  else latchAll .highIdleChange (s.withFlow { s.flow with line := lineWanted s.flow })

/-- The head of the waiting list for an evaluation: the oldest lifter request, else the oldest packer request (R53,
R54). -/
def headRequest (f : Flow) : Option Consumer :=
  match f.waiting.find? isLifter with
  | some c => some c
  | none => f.waiting.head?

/-- s with a new flow record for a consumer. -/
def State.withRecord (s : State) (c : Consumer) (r : FlowRecord) : State :=
  s.withFlow { s.flow with records := s.flow.records.set c r }

/-- The flow demanded on entering a phase (R9), none where the phase asks for no flow. -/
def phaseDemand : Phase → Option Nat
  | .raiseWeigh => some 6
  | .raiseDump => some 6
  | .shake => some 4
  | .lowerWeigh => some 3
  | .lowerRest => some 3
  | .returning => some 3
  | _ => none

/-- The valve energised at the grant (R9); SHAKE begins with its raise pulse (R17). -/
def phaseValve : Phase → Option Valve
  | .raiseWeigh => some .raise
  | .raiseDump => some .raise
  | .shake => some .raise
  | .lowerWeigh => some .lower
  | .lowerRest => some .lower
  | .returning => some .lower
  | _ => none

/-- A lift context at its grant: SHAKE starts a raise pulse (R17), the other phases their time limit (R9). -/
def contextAtGrant (now : Nat) (c : LiftContext) : LiftContext :=
  if c.phase = .shake then { c with pulse := some (.raise, now) } else { c with phaseTimer := some now }

/-- A grant handed to a lift sequencer (R9, R53): the phase's valve and its timer. -/
def grantLifter (l : Lifter) (s : State) : State :=
  match s.phase l with
  | none => s
  | some ph =>
    match phaseValve ph with
    | none => s
    | some v => (s.withValves l (v = .raise) (v = .lower)).mapContext l (contextAtGrant s.bodyTimer)

/-- A packer at its grant (R70, R72, R79): the valve of its phase and the timer of its phase. -/
def packerAtGrant (now : Nat) (k : Packer) : Packer :=
  match k.state with
  | .stroke .extending => { k with extendValve := true, timer := some now }
  | .stroke .dwell => { k with extendValve := true, timer := some now }
  | .stroke .retracting => { k with retractValve := true, timer := some now }
  | _ => k

/-- A grant handed to its consumer (R53). -/
def handGrant (c : Consumer) (s : State) : State :=
  match c with
  | .lifter l => grantLifter l s
  | .packer st => s.withPacker st (packerAtGrant s.bodyTimer (s.packer st))

/-- One grant (R53): the entry leaves the list and the record is GRANTED with its demand as units. -/
def grantOne (c : Consumer) (s : State) : State :=
  handGrant c
    (s.withFlow
      { s.flow with
        records := s.flow.records.set c (.granted (demandOf s.flow c))
        waiting := s.flow.waiting.filter (fun d => d ≠ c) })

/-- The steps of a grant evaluation, at most one grant for each entry of the list (R53). -/
def grantLoop : Nat → State → State
  | 0, s => s
  | n + 1, s =>
    match headRequest s.flow with
    | none => s
    | some c =>
      if grantedUnits s.flow + demandOf s.flow c ≤ s.flow.supply then grantLoop n (grantOne c s) else s

/-- A grant evaluation (R53), then the test of the engine-speed request line (R62). The line is tested once, with the
removal that led to the evaluation and its grants taken into account: R62 says so of a release, and the model does the
same at a withdrawal and at a timeout (log 37). -/
def evaluateGrants (s : State) : State :=
  testLine (if s.body.state = .running then grantLoop s.flow.waiting.length s else s)

/-- A consumer places a request (R50, R52); a request from a record that is not NONE is disregarded. -/
def placeRequest (c : Consumer) (demand : Nat) (s : State) : State :=
  match s.flow.records.get c with
  | .none =>
    evaluateGrants
      (s.withFlow
        { s.flow with
          records := s.flow.records.set c (.waiting demand s.bodyTimer)
          waiting := s.flow.waiting ++ [c] })
  | _ => s

/-- A record that becomes NONE, its entry off the list. -/
def dropRecord (c : Consumer) (s : State) : State :=
  s.withFlow
    { s.flow with
      records := s.flow.records.set c .none
      waiting := s.flow.waiting.filter (fun d => d ≠ c) }

/-- A consumer releases its grant (R55); disregarded when its record is not GRANTED. -/
def releaseGrant (c : Consumer) (s : State) : State :=
  if isGranted (s.flow.records.get c) then evaluateGrants (dropRecord c s) else s

/-- A consumer withdraws its waiting request (R56); disregarded when its record is not WAITING. The line is tested
once (log 37). -/
def withdrawRequest (c : Consumer) (s : State) : State :=
  if isWaiting (s.flow.records.get c) then evaluateGrants (dropRecord c s) else s

/-- A consumer that is held, faulted, aborted or halted gives its flow back: it releases a grant or withdraws a
waiting request (R55, R56). -/
def giveBackFlow (c : Consumer) (s : State) : State := withdrawRequest c (releaseGrant c s)

/-- All flow cleared at entry into HALTED (R61): nothing is handed to the consumers. -/
def clearFlow (s : State) : State :=
  testLine (s.withFlow { s.flow with records := ⟨.none, .none, .none, .none⟩, waiting := [] })

/-- The supply of an effective engine state (R51). -/
def supplyOf : EngineState → Nat
  | .off => 0
  | .idle => 8
  | .high => 16

/-- Every GRANTED record becomes NONE (R60). -/
def revokeRecord : FlowRecord → FlowRecord
  | .granted _ => .none
  | r => r

/-- The records after a fall of the supply to 0 (R60). -/
def revokeRecords (r : PerConsumer FlowRecord) : PerConsumer FlowRecord :=
  ⟨revokeRecord r.left, revokeRecord r.right, revokeRecord r.residual, revokeRecord r.recycle⟩

end Sys2Proof.Machine
end

