-- ==== Sys2Proof/Machine/Weighing.lean ====
section
/-! DEFINITION. The weighing arithmetic (sections 6.3 to 6.5) and the charge arithmetic (section 9.3), as functions
of their inputs. Everything is exact integer arithmetic, rounded once where the rule names a rounding. -/

namespace Sys2Proof.Machine

/-- num / den rounded half away from zero (00_scope.md, "Rounding"). -/
def roundHalfAway (num : Int) (den : Nat) : Int :=
  let q : Nat := (2 * num.natAbs + den) / (2 * den)
  if num < 0 then -(q : Int) else (q : Int)

/-- num / den rounded half up, for quantities that are not negative. -/
def roundHalfUp (num den : Nat) : Nat := (2 * num + den) / (2 * den)

/-- A tilt reading in hundredths of a degree: (value - level) x 25 / 16, truncated toward zero (R114). -/
def tiltCdeg (value : Int) (level : Nat) : Int := ((value - (level : Int)) * 25).tdiv 16

/-- The greatest pitch weighed at (R114). -/
def pitchLimit : Nat := 800
/-- The greatest roll weighed at (R114). -/
def rollLimit : Nat := 500
/-- The lowest sound excitation reading (R113). -/
def excitationLow : Int := 1800
/-- The highest sound excitation reading (R113). -/
def excitationHigh : Int := 2300

/-- The largest of a window's samples. -/
def largest : List Int → Int
  | [] => 0
  | x :: xs => xs.foldl max x

/-- The smallest of a window's samples. -/
def smallest : List Int → Int
  | [] => 0
  | x :: xs => xs.foldl min x

/-- The spread of a window: largest less smallest (R115). -/
def spread (samples : List Int) : Nat := (largest samples - smallest samples).toNat

/-- An entry of the pitch table. -/
def pitchEntry (table : Vector Nat 9) (k : Nat) : Nat := table.toList.getD k 0

/-- The pitch factor F at a pitch within -800 to 800 cdeg (R116). -/
def pitchFactor (table : Vector Nat 9) (p : Int) : Int :=
  if p = 800 then (pitchEntry table 8 : Int)
  else
    let k : Nat := (p + 800).toNat / 200
    let base : Int := -800 + 200 * (k : Int)
    let rise : Int := (pitchEntry table (k + 1) : Int) - (pitchEntry table k : Int)
    (pitchEntry table k : Int) + roundHalfAway (rise * (p - base)) 200

/-- The mass stage (R117): (sum - N x Z) x S x F / (N x 2^32), rounded half away from zero. -/
def massOf (sum : Int) (n : Nat) (zeroOffset : Int) (span : Nat) (factor : Int) : Int :=
  roundHalfAway ((sum - (n : Int) * zeroOffset) * (span : Int) * factor) (n * 4294967296)

/-- The drift value of a load-cell reading (R123): the mass with N = 1 and F = 65,536. -/
def driftValue (v zeroOffset : Int) (span : Nat) : Int := roundHalfAway ((v - zeroOffset) * (span : Int)) 65536

/-- The range stage (R118): a mass above Max + 9d or below -9d is out of range. -/
def inRange (mass : Int) (d top : Nat) : Bool :=
  decide (-(9 * (d : Int)) ≤ mass) && decide (mass ≤ (top : Int) + 9 * (d : Int))

/-- A copy that is FRESH and holds a value, or none (R113). -/
def freshValue (c : SlotCopy) : Option Int := if c.fresh then c.value else none

/-- Stage 1: what ends a computation before its tilt stage (R113). -/
def precondition (c : Computation) : Option WeighOutcome :=
  if !c.calValid then some .noCalibration
  else
    match freshValue c.copies.excitation with
    | none => some .sensor
    | some e =>
      if e < excitationLow ∨ excitationHigh < e then some .sensor
      else if (freshValue c.copies.pitch).isNone ∨ (freshValue c.copies.roll).isNone then some .sensor
      else none

/-- The pitch of a computation's window in cdeg (R114). -/
def pitchOf (c : Computation) : Int := tiltCdeg (c.copies.pitch.value.getD 0) c.items.pitchZero

/-- The roll of a computation's window in cdeg (R114). -/
def rollOf (c : Computation) : Int := tiltCdeg (c.copies.roll.value.getD 0) c.items.rollZero

/-- Whether pitch or roll is beyond its limit (R114). -/
def tilted (c : Computation) : Bool :=
  decide (pitchLimit < (pitchOf c).natAbs) || decide (rollLimit < (rollOf c).natAbs)

/-- A computation's mass (R116, R117). -/
def massResult (c : Computation) : Int :=
  massOf c.samples.sum c.size c.items.zeroOffset c.items.span (pitchFactor c.items.pitchTable (pitchOf c))

/-- The result of a computation, stage by stage (R112 to R119), at the route-clock time of its end. -/
def computeResult (c : Computation) (time : Nat) : LastResult :=
  match precondition c with
  | some o => ⟨o, none, none, none, none, c.size, time⟩
  | none =>
    let tilt := some (pitchOf c, rollOf c)
    if tilted c then ⟨.tilt, none, tilt, none, none, c.size, time⟩
    else if c.items.stabilityBand < spread c.samples then
      ⟨.unstable, none, tilt, some (spread c.samples), none, c.size, time⟩
    else
      let factor := some (pitchFactor c.items.pitchTable (pitchOf c)).toNat
      if inRange (massResult c) (c.items.division.get c.bank) (c.items.maximum.get c.bank) then
        ⟨.ok, some (massResult c), tilt, some (spread c.samples), factor, c.size, time⟩
      else ⟨.overRange, none, tilt, some (spread c.samples), factor, c.size, time⟩

/-- The net before rounding (R120): gross less tare, clamped at 0. -/
def netGrams (gross tare : Int) : Nat := (gross - tare).toNat

/-- The net (R121): rounded half up to a whole number of divisions. -/
def netOf (gross tare : Int) (d : Nat) : Nat := d * roundHalfUp (netGrams gross tare) d

/-- The Min of a bank: twenty divisions (R121). -/
def minimumWeighing (d : Nat) : Nat := 20 * d

/-- The flags the net adds (R120, R121). -/
def netFlags (gross tare : Int) (d : Nat) (f : RecordFlags) : RecordFlags :=
  { f with
    negativeNetClamped := f.negativeNetClamped || decide (gross - tare < 0)
    belowMin := f.belowMin || decide (netOf gross tare d < minimumWeighing d) }

/-- The rate of a stream (R161). -/
def rateOf (t : Tariff) : Stream → Nat
  | .residual => t.residualRate
  | .recycle => t.recycleRate

/-- Step 5 of R168: billable mass x rate / 100,000, rounded half up. -/
def rawCharge (billable rate : Nat) : Nat := (billable * rate + 50000) / 100000

/-- The mass an allowance covers (R168 step 2), the allowance in 100 g units. -/
def usedMass (net allowance : Nat) : Nat := min net (allowance * 100)

/-- Step 6 of R168: the raw charge bounded by minimum and cap, with the flag each bound adds. -/
def boundCharge (t : Tariff) (raw : Nat) (f : RecordFlags) : Nat × RecordFlags :=
  if raw < t.minimum then (t.minimum, { f with minApplied := true })
  else if t.cap < raw then (t.cap, { f with capApplied := true })
  else (raw, f)

/-- The charge, the allowance used and the flags of a BILLED record (R166 to R168). -/
def chargeOf (tariffClass : Nat) (t : Tariff) (st : Stream) (net allowance : Nat) (f : RecordFlags) :
    Charge × RecordFlags :=
  if tariffClass = 0 then (⟨0, 0⟩, f)
  else if f.belowMin then (⟨t.minimum, 0⟩, { f with minApplied := true })
  else if net - usedMass net allowance = 0 then (⟨0, usedMass net allowance / 100⟩, f)
  else
    let bounded := boundCharge t (rawCharge (net - usedMass net allowance) (rateOf t st)) f
    (⟨bounded.1, usedMass net allowance / 100⟩, bounded.2)

end Sys2Proof.Machine
end

