-- ==== Sys2Proof/Machine/Capture.lean ====
section
/-! DEFINITION. Channel slots, the scan ring, capture windows and the weigh engine's service queue (chapters 5 and
6): the operations the commands share. -/

namespace Sys2Proof.Machine

/-! ### Channels (R89, R92) -/

/-- A lifter's load-cell channel (R89). -/
def loadCell : Lifter → Fin 12
  | .left => 0
  | .right => 1

/-- A lifter's arm-angle channel (R89). -/
def armAngle : Lifter → Fin 12
  | .left => 2
  | .right => 3

/-- The body pitch channel. -/
def pitchChannel : Fin 12 := 4
/-- The body roll channel. -/
def rollChannel : Fin 12 := 5
/-- The excitation monitor channel. -/
def excitationChannel : Fin 12 := 11

/-- A packer's ram pressure channel (R67, R89). -/
def pressureChannel : Stream → Fin 12
  | .residual => 6
  | .recycle => 7

/-- A packer's stroke channel (R67, R89). -/
def strokeChannel : Stream → Fin 12
  | .residual => 8
  | .recycle => 9

/-- The lifter whose arm angle a channel carries. -/
def lifterOfChannel (ch : Fin 12) : Option Lifter :=
  if ch = armAngle .left then some .left else if ch = armAngle .right then some .right else none

/-- The stream whose packer reads a channel. -/
def streamOfChannel (ch : Fin 12) : Option Stream :=
  if ch = pressureChannel .residual ∨ ch = strokeChannel .residual then some .residual
  else if ch = pressureChannel .recycle ∨ ch = strokeChannel .recycle then some .recycle
  else none

/-- Whether a value lies in a channel's raw range: 20 bits signed for a load cell, 12 bits otherwise (R89). -/
def inRawRange (ch : Fin 12) (v : Int) : Bool :=
  if ch.val < 2 then decide (-524288 ≤ v) && decide (v ≤ 524287) else decide (0 ≤ v) && decide (v ≤ 4095)

/-- A conversion's valid value: a value within the channel's range (R89; log 22). -/
def validResult (ch : Fin 12) (r : Option Int) : Option Int := r.filter (inRawRange ch)

/-- Whether a channel is in the ring (R92): from the start up to the end, wrapping from 11 to 0. -/
def inRing (sc : Scan) (ch : Fin 12) : Bool :=
  if sc.ringStart ≤ sc.ringEnd then decide (sc.ringStart ≤ ch) && decide (ch ≤ sc.ringEnd)
  else decide (sc.ringStart ≤ ch) || decide (ch ≤ sc.ringEnd)

/-- The channel of the ring after a channel (R93). -/
def nextInRing (sc : Scan) (ch : Fin 12) : Fin 12 := if ch = sc.ringEnd then sc.ringStart else ch + 1

/-- A channel's slot. -/
def State.slot (s : State) (ch : Fin 12) : Slot := s.scan.slots.get ch

/-- Whether a channel's slot is FRESH (R90). -/
def channelFresh (s : State) (ch : Fin 12) : Bool := (s.slot ch).fresh

/-- A slot's value, whatever its freshness (R90). -/
def channelValue (s : State) (ch : Fin 12) : Option Int := (s.slot ch).result.map SlotResult.value

/-- s with a new slot. -/
def State.withSlot (s : State) (ch : Fin 12) (v : Slot) : State :=
  s.withScan { s.scan with slots := s.scan.slots.set ch.val v ch.isLt }

/-- A valid result written into its slot with the current pass number (R90). An in-ring channel becomes FRESH and
its freshness timer restarts (R95); a channel outside the ring stays STALE without a timer (R96). -/
def writeSlot (ch : Fin 12) (v : Int) (s : State) : State :=
  s.withSlot ch
    { result := some ⟨v, s.scan.pass⟩
      fresh := inRing s.scan ch
      timer := if inRing s.scan ch then some s.bodyTimer else none }

/-- The slots at a restart of scanning after a reset (R105, R106): no value, STALE, the timers of the in-ring
channels started (R95). -/
def restartSlots (sc : Scan) (now : Nat) : Vector Slot 12 :=
  Vector.ofFn fun ch => { emptySlot with timer := if inRing sc ch then some now else none }

/-- Scanning begins at the ring's start channel (R93, R105, R106). -/
def beginScanning (sc : Scan) (now : Nat) : Scan :=
  { sc with ringPos := sc.ringStart, converter := .ring, slots := restartSlots sc now }

/-! ### The service queue (R107 to R110) -/

/-- The computation of a lifter's HELD window with the inputs of R108 as they stand. -/
def computationFor (l : Lifter) (s : State) : Option Computation :=
  match s.scan.buffers.get l with
  | .held n samples copies =>
    some
      { lifter := l
        bank := ((s.context l).map LiftContext.bank).getD .twoWheel
        startedAt := s.bodyTimer
        calValid := (s.calib.cal.get l).valid
        items := (s.calib.cal.get l).items
        size := n
        samples := samples
        copies := copies }
  | _ => none

/-- The head of the queue comes into computation, with its inputs taken at this moment (R108). -/
def startComputation (s : State) : State :=
  match s.weigh.queue with
  | [] => s.withWeigh { s.weigh with computation := none }
  | l :: _ => s.withWeigh { s.weigh with computation := computationFor l s }

/-- A completed window joins the service queue (R107); a window that joins an empty queue starts at once. -/
def joinQueue (l : Lifter) (s : State) : State :=
  match s.weigh.queue with
  | [] => startComputation (s.withWeigh { s.weigh with queue := [l] })
  | q => s.withWeigh { s.weigh with queue := q ++ [l] }

/-- A withdrawal handed to the weigh engine (R110). -/
def leaveQueue (l : Lifter) (s : State) : State :=
  match s.weigh.queue with
  | [] => s
  | h :: t =>
    if h = l then startComputation (s.withWeigh { s.weigh with queue := t })
    else s.withWeigh { s.weigh with queue := h :: t.filter (fun x => x ≠ l) }

/-! ### Capture windows (R98 to R103) -/

/-- s with a new capture buffer for a lifter. -/
def State.withBuffer (s : State) (l : Lifter) (b : Buffer) : State :=
  s.withScan { s.scan with buffers := s.scan.buffers.set l b }

/-- A withdrawal of a lifter's window (R103). -/
def withdrawWindow (l : Lifter) (s : State) : State :=
  match s.scan.buffers.get l with
  | .empty => s
  | .filling _ _ => s.withBuffer l .empty
  | .held _ _ _ => leaveQueue l (s.withBuffer l .empty)

/-- The size of a window armed now (R98): the calibration's window size, or 32 when it is INVALID. -/
def armingSize (l : Lifter) (s : State) : Nat :=
  if (s.calib.cal.get l).valid then (s.calib.cal.get l).items.windowSize else 32

/-- A capture window armed (R98); a window still there is withdrawn first. -/
def armWindow (l : Lifter) (s : State) : State :=
  let s1 := withdrawWindow l s
  s1.withBuffer l (.filling (armingSize l s1) [])

/-- A copy of a slot's value and freshness (R101). -/
def copySlot (s : State) (ch : Fin 12) : SlotCopy := ⟨channelValue s ch, channelFresh s ch⟩

/-- The copies kept with a completed window (R101). -/
def copySlots (s : State) : SlotCopies :=
  ⟨copySlot s pitchChannel, copySlot s rollChannel, copySlot s excitationChannel⟩

/-- The marking of a window that completes while the seal reads OPEN (R135). -/
def markSeal (l : Lifter) (s : State) : State :=
  if s.calib.sealSwitch.reading then s.mapContext l (fun c => { c with sealWasOpen := true }) else s

/-- A window completes (R101): HELD with its copies, the seal marked, into the service queue. -/
def completeWindow (l : Lifter) (n : Nat) (samples : List Int) (s : State) : State :=
  joinQueue l (markSeal l (s.withBuffer l (.held n samples (copySlots s))))

/-- A valid inserted result added to a FILLING window (R100). -/
def addSample (l : Lifter) (v : Int) (s : State) : State :=
  match s.scan.buffers.get l with
  | .filling n samples =>
    if (samples ++ [v]).length = n then completeWindow l n (samples ++ [v]) s
    else s.withBuffer l (.filling n (samples ++ [v]))
  | _ => s

/-- Whether a buffer is FILLING. -/
def isFilling : Buffer → Bool
  | .filling _ _ => true
  | _ => false

/-- The other lifter. -/
def otherLifter : Lifter → Lifter
  | .left => .right
  | .right => .left

/-- The lifter of an insertion turn (R99), none when no buffer is FILLING. -/
def insertionChoice (sc : Scan) : Option Lifter :=
  match isFilling sc.buffers.left, isFilling sc.buffers.right with
  | true, true => some sc.pointer
  | true, false => some .left
  | false, true => some .right
  | false, false => none

/-- What the converter takes after a ring conversion (R93, R99): an insertion, which points the pointer at the other
lifter, or the next ring conversion. -/
def afterRing (s : State) : State :=
  match insertionChoice s.scan with
  | some l => s.withScan { s.scan with converter := .inserted l, pointer := otherLifter l }
  | none => s.withScan { s.scan with converter := .ring }

/-! ### The zero-drift monitor (R122 to R124) -/

/-- Whether a drift check of a lifter is made now (R122), apart from the pass number; its load-cell value. -/
def driftReading (l : Lifter) (s : State) : Option Int :=
  if s.lifterIdle l ∧ ¬ (s.weigh.drift.get l).disabled ∧ (s.calib.cal.get l).valid ∧ channelFresh s (loadCell l)
  then channelValue s (loadCell l) else none

/-- The consecutive count that disables a lifter (R124). -/
def driftCount : Nat := 50

/-- s with a new drift monitor for a lifter. -/
def State.withDrift (s : State) (l : Lifter) (d : DriftMonitor) : State :=
  s.withWeigh { s.weigh with drift := s.weigh.drift.set l d }

/-- A drift check of one lifter (R122 to R124). -/
def driftCheck (l : Lifter) (pass : Nat) (s : State) : State :=
  match driftReading l s with
  | none => s
  | some v =>
    let items := (s.calib.cal.get l).items
    let value := driftValue v items.zeroOffset items.span
    if items.driftLimit < value.natAbs then
      if driftCount ≤ (s.weigh.drift.get l).count + 1 then
        latchAll .zeroDrift (s.withDrift l ⟨true, 0, some (value, pass)⟩)
      else s.withDrift l ⟨false, (s.weigh.drift.get l).count + 1, some (value, pass)⟩
    else s.withDrift l ⟨false, 0, some (value, pass)⟩

/-- The pass numbers at which drift checks are made (R122). -/
def driftPasses : Nat := 32

/-- The end of a pass (R94): the pass counter increases, wrapping at 65,536, and the new number goes to the drift
monitors. -/
def endPass (s : State) : State :=
  let pass := (s.scan.pass + 1) % 65536
  let s1 := s.withScan { s.scan with pass := pass }
  if pass % driftPasses = 0 then driftCheck .right pass (driftCheck .left pass s1) else s1

end Sys2Proof.Machine
end

