-- ==== Sys2Proof/Machine/Tables.lean ====
section
/-! DEFINITION. The two protected memories: the account table with its search by halving (chapters 8 and 10), and
the bin event journal with its positions and sequence numbers (chapters 9 and 10). -/

namespace Sys2Proof.Machine

/-! ### Corrections (R184) -/

/-- One more correction in a memory's counter, and whether this step is the one to 255. -/
def bumpsTo255 (n : Nat) : Bool := decide (n + 1 = top8)

/-- A CORRECTED read of the account memory counted (R184 steps 2 and 3). -/
def countAccountCorrection (s : State) : State :=
  latchWhen (bumpsTo255 s.integrity.accountCorrections) .correctionOverflow
    (s.withIntegrity
      { s.integrity with accountCorrections := saturatingSucc top8 s.integrity.accountCorrections })

/-- A CORRECTED read of the journal memory counted (R184 steps 2 and 3). -/
def countJournalCorrection (s : State) : State :=
  latchWhen (bumpsTo255 s.integrity.journalCorrections) .correctionOverflow
    (s.withIntegrity
      { s.integrity with journalCorrections := saturatingSucc top8 s.integrity.journalCorrections })

/-! ### The account table (R148, R185, R186) -/

/-- s with a new account table. -/
def State.withTable (s : State) (t : List (Stored AccountEntry)) : State := s.withTags { s.tags with table := t }

/-- The result of reading one protected account word (R183). -/
inductive EntryRead where
  | missing
  | good (e : AccountEntry)
  | uncorrectable
deriving DecidableEq, Repr

/-- The read of the account entry at an index through the integrity monitor (R183, R184): a CORRECTED read writes the
repaired content back and is counted. -/
def readEntry (i : Nat) (s : State) : EntryRead × State :=
  match s.tags.table[i]? with
  | none => (.missing, s)
  | some w =>
    match w.health with
    | .clean => (.good w.content, s)
    | .single => (.good w.content, countAccountCorrection (s.withTable (s.tags.table.set i ⟨w.content, .clean⟩)))
    | .double => (.uncorrectable, s)

/-- A damaged entry removed (R186): the entries after it move down, ACCOUNT_DAMAGED is set. -/
def removeDamaged (i : Nat) (s : State) : State := latchAll .accountDamaged (s.withTable (s.tags.table.eraseIdx i))

/-- How one search by halving ends (R185): found at an index, absent (with the index where the tag would stand), or
at a damaged entry. -/
inductive SearchEnd where
  | found (i : Nat) (e : AccountEntry)
  | absent (i : Nat)
  | damaged (i : Nat)
deriving DecidableEq, Repr

/-- The search by halving over the indices from low up to but not including high (R185). -/
def searchFrom : Nat → Nat → Nat → Nat → State → SearchEnd × State
  | 0, low, _, _, s => (.absent low, s)
  | n + 1, low, high, tag, s =>
    if low < high then
      let middle := (low + (high - 1)) / 2
      match readEntry middle s with
      | (.missing, s1) => (.absent low, s1)
      | (.uncorrectable, s1) => (.damaged middle, s1)
      | (.good e, s1) =>
        if e.tag = tag then (.found middle e, s1)
        else if e.tag < tag then searchFrom n (middle + 1) high tag s1
        else searchFrom n low middle tag s1
    else (.absent low, s)

/-- What a lookup finds (R185). -/
inductive LookupEnd where
  | found (i : Nat) (e : AccountEntry)
  | absent (i : Nat)
deriving DecidableEq, Repr

/-- A lookup that starts again after each damaged entry it removes (R186), at most once for each entry. -/
def lookupFrom : Nat → Nat → State → LookupEnd × State
  | 0, _, s => (.absent 0, s)
  | n + 1, tag, s =>
    match searchFrom (s.tags.table.length + 1) 0 s.tags.table.length tag s with
    | (.found i e, s1) => (.found i e, s1)
    | (.absent i, s1) => (.absent i, s1)
    | (.damaged i, s1) => lookupFrom n tag (removeDamaged i s1)

/-- A lookup of a tag in the account table (R185, R186). -/
def lookupTag (tag : Nat) (s : State) : LookupEnd × State := lookupFrom (s.tags.table.length + 1) tag s

/-- The read of Read Account by index, made again at the same index after each removal (R187). -/
def readIndexFrom : Nat → Nat → State → Option AccountEntry × State
  | 0, _, s => (none, s)
  | n + 1, i, s =>
    match readEntry i s with
    | (.missing, s1) => (none, s1)
    | (.good e, s1) => (some e, s1)
    | (.uncorrectable, s1) => readIndexFrom n i (removeDamaged i s1)

/-- The entry at an index (R151, R187). -/
def readIndex (i : Nat) (s : State) : Option AccountEntry × State := readIndexFrom (s.tags.table.length + 1) i s

/-- An entry written afresh at an index it already holds (R149, R157). -/
def writeEntry (i : Nat) (e : AccountEntry) (s : State) : State := s.withTable (s.tags.table.set i ⟨e, .clean⟩)

/-- An entry inserted at an index (R148, R149). -/
def insertEntry (i : Nat) (e : AccountEntry) (s : State) : State :=
  s.withTable (s.tags.table.insertIdx i ⟨e, .clean⟩)

/-! ### The journal (R171 to R178, R188) -/

/-- s with new journal slots. -/
def State.withSlots (s : State) (v : List JournalSlot) : State := s.withJournal { s.journal with slots := v }

/-- The reservations held (R171). -/
def reservationCount (j : Journal) : Nat := j.reservations.left.toNat + j.reservations.right.toNat

/-- The journal's count: records and reservations (R171). -/
def journalCount (j : Journal) : Nat := j.slots.length + reservationCount j

/-- The sequence number after a sequence number: 2^32-1 is followed by 1 (R174). -/
def nextSeq (n : Nat) : Nat := if n = sequenceCount then 1 else n + 1

/-- The sequence number k before a sequence number, counting from 1 back on to 2^32-1. -/
def seqBefore (n k : Nat) : Nat := (n + 2 * sequenceCount - 1 - k % sequenceCount) % sequenceCount + 1

/-- How far a sequence number lies before the next sequence number (R176). -/
def seqBehind (next n : Nat) : Nat := (next + sequenceCount - n % sequenceCount) % sequenceCount

/-- How far a sequence number lies after the next sequence number (R176). -/
def seqAhead (next n : Nat) : Nat := (n + sequenceCount - next % sequenceCount) % sequenceCount

/-- The position-derived sequence of the record at an index from the oldest (R174, R188; log 25). -/
def seqOfIndex (j : Journal) (i : Nat) : Nat := seqBefore j.nextSequence (j.slots.length - i)

/-- The sequence of the oldest record, none when the journal is empty (R180). -/
def oldestSeq (j : Journal) : Option Nat := if j.slots = [] then none else some (seqOfIndex j 0)

/-- The sequence of the newest record, none when the journal is empty (R177, R180). -/
def newestSeq (j : Journal) : Option Nat :=
  if j.slots = [] then none else some (seqOfIndex j (j.slots.length - 1))

/-- The classes of R176. -/
inductive SeqClass where
  | held (index : Nat)
  | newer
  | older
deriving DecidableEq, Repr

/-- The class of a sequence number that is not 0 (R176). -/
def classify (j : Journal) (n : Nat) : SeqClass :=
  let back := seqBehind j.nextSequence n
  if 0 < back ∧ back ≤ j.slots.length then .held (j.slots.length - back)
  else if seqAhead j.nextSequence n < 2147483648 then .newer
  else .older

/-- One record as Read Journal delivers it (R177, R188). -/
inductive Delivery where
  | record (r : Record)
  | damaged (sequence : Nat)
deriving DecidableEq, Repr

/-- The delivery of the record at an index (R177, R184, R188). -/
def deliver (i : Nat) (s : State) : Option Delivery × State :=
  match s.journal.slots[i]? with
  | none => (none, s)
  | some w =>
    if w.damaged then (some (.damaged (seqOfIndex s.journal i)), s)
    else
      match w.stored.health with
      | .clean => (some (.record w.stored.content), s)
      | .single =>
        (some (.record w.stored.content),
          countJournalCorrection (s.withSlots (s.journal.slots.set i { w with stored := ⟨w.stored.content, .clean⟩ })))
      | .double =>
        (some (.damaged (seqOfIndex s.journal i)),
          latchAll .recordDamaged (s.withSlots (s.journal.slots.set i { w with damaged := true })))

/-- The deliveries of up to n records from an index on (R177). -/
def deliverFrom : Nat → Nat → State → List Delivery × State
  | 0, _, s => ([], s)
  | n + 1, i, s =>
    match deliver i s with
    | (none, s1) => ([], s1)
    | (some d, s1) =>
      let rest := deliverFrom n (i + 1) s1
      (d :: rest.1, rest.2)

/-- A reservation made at an accepted start (R172), with the events of the count's rise (R173). -/
def makeReservation (l : Lifter) (s : State) : State :=
  let before := journalCount s.journal
  let s1 := s.withJournal { s.journal with reservations := s.journal.reservations.set l true }
  let after := journalCount s1.journal
  latchWhen (decide (before + 1 = journalSlots) && decide (after = journalSlots)) .journalFull
    (latchWhen (decide (before + 1 = journalHighCount) && decide (after = journalHighCount)) .journalHigh s1)

/-- A record written into the slot at the write position (R174), converting the lifter's reservation. -/
def writeRecord (r : Record) (s : State) : State :=
  latchAll .recordWritten
    (s.withJournal
      { slots := s.journal.slots ++ [⟨⟨{ r with sequence := s.journal.nextSequence }, .clean⟩, false⟩]
        writePos := (s.journal.writePos + 1) % journalSlots
        nextSequence := nextSeq s.journal.nextSequence
        reservations := s.journal.reservations.set r.lifter false })

/-- The number of slots whose damaged mark is yes (R190). -/
def damagedSlots (j : Journal) : Nat := (j.slots.filter JournalSlot.damaged).length

end Sys2Proof.Machine
end

