-- ==== Sys2Proof/Machine/Packing.lean ====
section
/-! DEFINITION. The packer state machine's shared operations (chapter 4): entering a stroke, faults, holds, halts,
the fill judgment, cycles, and the compartment accounts' payload and limits. -/

namespace Sys2Proof.Machine

/-- The flow a phase of a stroke asks for (R50, R66). -/
def strokeDemand : StrokePhase → Nat
  | .extending => 8
  | .dwell => 8
  | .retracting => 5

/-- Which stale channel faults a stroke (R73): PRESSURE_STALE when both are stale. -/
def staleCause (st : Stream) (s : State) : Option PackFaultCause :=
  if !channelFresh s (pressureChannel st) then some .pressureStale
  else if !channelFresh s (strokeChannel st) then some .strokeStale
  else none

/-- A packer with its valves closed and its timer stopped. -/
def stopPacker (k : Packer) : Packer := { k with extendValve := false, retractValve := false, timer := none }

/-- A packer's entry into FAULT from a phase of its stroke (R73). -/
def faultPacker (st : Stream) (cause : PackFaultCause) (ph : StrokePhase) (s : State) : State :=
  latchAll .packFault
    (giveBackFlow (.packer st)
      (s.withPacker st
        { stopPacker (s.packer st) with
          state := .fault, stopRequested := false, lastFault := some ⟨cause, ph, clockTime s⟩ }))

/-- A packer enters a phase of its stroke and places the request of that phase (R69, R71, R76, R77, R79); with a
stale channel it faults at entry (R73; log 16). -/
def enterStroke (st : Stream) (ph : StrokePhase) (s : State) : State :=
  match staleCause st s with
  | some cause => faultPacker st cause ph s
  | none =>
    placeRequest (.packer st) (strokeDemand ph)
      (s.withPacker st { stopPacker (s.packer st) with state := .stroke ph })

/-- Starting a cycle: one taken from the pending count when it is above 0, EXTENDING entered (R69, R72, R77). -/
def startCycle (st : Stream) (s : State) : State :=
  enterStroke st .extending (s.withPacker st { s.packer st with pending := (s.packer st).pending - 1 })

/-- When R69 starts a cycle. -/
def mayStart (st : Stream) (s : State) : Bool :=
  decide ((s.packer st).state = .idle) && decide ((s.packer st).mode ≠ .step) && decide (0 < (s.packer st).pending)
    && decide (s.body.state = .running) && s.body.tailgate.reading

/-- The test of R69. -/
def tryStart (st : Stream) (s : State) : State := if mayStart st s then startCycle st s else s

/-- A packer enters IDLE, its stop no longer requested; R69 then starts a pending cycle (R72, R76, R80). -/
def packerToIdle (st : Stream) (s : State) : State :=
  tryStart st (s.withPacker st { stopPacker (s.packer st) with state := .idle, stopRequested := false })

/-- A hold reason added to a packer's set (R78). -/
def addPackReason (r : PackHoldReasons) (flow : Bool) : PackHoldReasons :=
  if flow then { r with flow := true } else { r with tailgate := true }

/-- A hold cause reaching a packer (R78), TAILGATE or FLOW: in stroke it enters HELD, in HELD it adds the reason. -/
def holdPacker (st : Stream) (flow : Bool) (s : State) : State :=
  match (s.packer st).state with
  | .stroke ph =>
    giveBackFlow (.packer st)
      (s.withPacker st
        { stopPacker (s.packer st) with state := .held ph (addPackReason ⟨false, false⟩ flow) })
  | .held ph r => s.withPacker st { s.packer st with state := .held ph (addPackReason r flow) }
  | _ => s

/-- A packer at the body's entry into HALTED (R80); a packer in FAULT stays there. -/
def haltPacker (st : Stream) (s : State) : State :=
  if (s.packer st).state = .fault then s
  else s.withPacker st { stopPacker (s.packer st) with state := .halted, stopRequested := false }

/-- A packer at a Resume Body that is taken (R36, R80). -/
def unhaltPacker (st : Stream) (s : State) : State :=
  if (s.packer st).state = .halted then packerToIdle st s else s

/-- One cycle asked for (R74, R75): added below 3, where R69 may start it, else counted as dropped. -/
def addCycle (st : Stream) (s : State) : State :=
  if (s.packer st).pending < 3 then
    tryStart st (s.withPacker st { s.packer st with pending := (s.packer st).pending + 1 })
  else s.withPacker st { s.packer st with dropped := saturatingSucc top16 (s.packer st).dropped }

/-- n cycles asked for one at a time (R75). -/
def addCycles : Nat → Stream → State → State
  | 0, _, s => s
  | n + 1, st, s => addCycles n st (addCycle st s)

/-- The lift-triggered cycles of a stream (R75). -/
def liftTriggeredCycles (st : Stream) (s : State) : State := addCycles (s.packer st).settings.liftCycles st s

/-! ### Payload and limits (R83, R84) -/

/-- The body payload: the sum of the two payloads (R83). -/
def bodyPayload (s : State) : Nat := s.compartments.residual.payload + s.compartments.recycle.payload

/-- Whether a compartment's limit-reached flag is yes (R84). -/
def limitReachedNow (st : Stream) (s : State) : Bool :=
  decide ((s.compartment st).limit ≤ (s.compartment st).payload) || decide (s.bodyLimit ≤ bodyPayload s)

/-- The limit-reached flags re-evaluated; PAYLOAD_LIMIT is set once when any turns from no to yes (R84). -/
def evaluateLimits (s : State) : State :=
  let a := limitReachedNow .residual s
  let b := limitReachedNow .recycle s
  latchWhen ((a && !s.compartments.residual.limitReached) || (b && !s.compartments.recycle.limitReached))
    .payloadLimit
    (s.withCompartments
      { residual := { s.compartments.residual with limitReached := a }
        recycle := { s.compartments.recycle with limitReached := b } })

/-- The payload of a stream's compartment increased by a record's dumped mass (R83, R84). -/
def raisePayload (st : Stream) (mass : Nat) (s : State) : State :=
  evaluateLimits (s.withCompartment st { s.compartment st with payload := (s.compartment st).payload + mass })

/-! ### The fill judgment and the ends of strokes (R70, R72, R81, R82) -/

/-- Whether an ended extend is a short stroke (R81). -/
def shortStroke (p : PackerSettings) (pressure stroke : Int) : Bool :=
  decide ((p.pressureLimit : Int) ≤ pressure)
    && decide ((stroke - (p.retracted : Int)) * 10 < ((p.fullStroke : Int) - (p.retracted : Int)) * 9)

/-- The fill state after a judgment (R82), from the count after it. -/
def fillAfter (fill : FillState) (short : Bool) (count : Nat) : FillState :=
  match fill with
  | .opened => if short && decide (2 ≤ count) then .nearFull else .opened
  | .nearFull => if short then (if 4 ≤ count then .full else .nearFull) else .opened
  | .full => .full

/-- The judgment of an extend that has ended by R70 (R81, R82). -/
def judgeExtend (st : Stream) (s : State) : State :=
  let k := s.packer st
  let short := shortStroke k.settings ((channelValue s (pressureChannel st)).getD 0)
    ((channelValue s (strokeChannel st)).getD 0)
  let count := if short then saturatingSucc top8 k.shortStrokes else 0
  let old := (s.compartment st).fill
  let fill := fillAfter old short count
  let s1 := (s.withPacker st { k with shortStrokes := count }).withCompartment st
    { s.compartment st with fill := fill }
  latchWhen (decide (fill = .full) && decide (old ≠ .full)) .full
    (latchWhen (decide (fill = .nearFull) && decide (old ≠ .nearFull)) .nearFull s1)

/-- DWELL entered at the end of an extend, under the extend's grant (R70, R71); a stale channel faults it (R73). -/
def enterDwellPacker (st : Stream) (s : State) : State :=
  match staleCause st s with
  | some cause => faultPacker st cause .dwell s
  | none => s.withPacker st { s.packer st with state := .stroke .dwell, timer := some s.bodyTimer }

/-- Whether a slot's value is at or above a bound. -/
def slotAtLeast (s : State) (ch : Fin 12) (bound : Nat) : Bool :=
  match channelValue s ch with
  | some v => decide ((bound : Int) ≤ v)
  | none => false

/-- Whether a slot's value is at or below a bound. -/
def slotAtMost (s : State) (ch : Fin 12) (bound : Nat) : Bool :=
  match channelValue s ch with
  | some v => decide (v ≤ (bound : Int))
  | none => false

/-- The end test of an extend (R70). -/
def extendEnds (st : Stream) (s : State) : Bool :=
  slotAtLeast s (pressureChannel st) (s.packer st).settings.pressureLimit
    || slotAtLeast s (strokeChannel st) (s.packer st).settings.fullStroke

/-- The end of a retract (R72): valve closed, units released, timer stopped, the next state chosen. -/
def endRetract (st : Stream) (s : State) : State :=
  let s1 := releaseGrant (.packer st) (s.withPacker st (stopPacker (s.packer st)))
  let k := s1.packer st
  if k.stopRequested then packerToIdle st s1
  else
    match k.mode with
    | .step => s1.withPacker st { k with state := .paused .retracted }
    | .continuous => if (s1.compartment st).fill = .full then packerToIdle st s1 else startCycle st s1
    | .single => packerToIdle st s1

/-- A conversion of a packer's pressure or stroke channel handed to it (R70, R72, R91). -/
def packerConversion (st : Stream) (ch : Fin 12) (s : State) : State :=
  if isGranted (s.flow.records.get (.packer st)) then
    match (s.packer st).state with
    | .stroke .extending => if extendEnds st s then enterDwellPacker st (judgeExtend st s) else s
    | .stroke .retracting =>
      if ch = strokeChannel st ∧ slotAtMost s ch (s.packer st).settings.retracted then endRetract st s else s
    | _ => s
  else s

/-- A pressure or stroke channel of a packer becomes stale (R73, R95). -/
def packerStale (st : Stream) (s : State) : State :=
  match (s.packer st).state, staleCause st s with
  | .stroke ph, some cause => faultPacker st cause ph s
  | _, _ => s

end Sys2Proof.Machine
end

