-- ==== Sys2Proof/Machine/Lifting.lean ====
section
/-! DEFINITION. The lift sequencer's shared operations (chapter 1): entering phases, faults, holds, resumes and
aborts. Lift start is in Starting.lean and lift completion in Completion.lean. -/

namespace Sys2Proof.Machine

/-- A context with every timer of its phase stopped. -/
def stopTimers (c : LiftContext) : LiftContext :=
  { c with phaseTimer := none, settleTimer := none, limitTimer := none, dwellTimer := none, pulse := none }

/-- The motion phases (R1). -/
def isMotion : Phase → Bool
  | .raiseWeigh => true
  | .raiseDump => true
  | .shake => true
  | .lowerWeigh => true
  | .lowerRest => true
  | _ => false

/-- The weigh phases (R1). -/
def isWeigh : Phase → Bool
  | .grossWeigh => true
  | .tareWeigh => true
  | _ => false

/-- The active states and RETURNING: the states that hold causes hold (R1, R19). -/
def isHoldable : Phase → Bool
  | .held => false
  | .fault => false
  | _ => true

/-- The state after a weigh phase (R15). -/
def afterWeigh : Phase → Phase
  | .grossWeigh => .raiseDump
  | _ => .lowerRest

/-- The state after SHAKE (R15): LOWER_WEIGH when a gross is held, LOWER_REST when it failed. -/
def afterShake (c : LiftContext) : Phase := if c.gross.isSome then .lowerWeigh else .lowerRest

/-- A lifter's entry into FAULT (R11). -/
def faultLifter (l : Lifter) (cause : LiftFaultCause) (s : State) : State :=
  match s.context l with
  | none => s
  | some c =>
    latchAll .liftFault
      (giveBackFlow (.lifter l)
        (s.withLifter l
          { s.lifter l with
            raiseValve := false
            lowerValve := false
            context := some { stopTimers c with remembered := some c.phase, phase := .fault }
            lastFault := some ⟨cause, c.phase, clockTime s⟩ }))

/-- A lifter's phase set, its valves off and the timers of the old phase stopped. -/
def setPhase (l : Lifter) (ph : Phase) (s : State) : State :=
  (s.withValves l false false).mapContext l (fun c => { stopTimers c with phase := ph })

/-- A motion phase or RETURNING entered or resumed (R9): its request is placed. A motion phase faults at entry while
the angle channel is stale (R11; log 16); RETURNING does not (R23). -/
def enterMotion (l : Lifter) (ph : Phase) (s : State) : State :=
  let s1 := setPhase l ph s
  if isMotion ph ∧ ¬ channelFresh s (armAngle l) then faultLifter l .angleStale s1
  else placeRequest (.lifter l) ((phaseDemand ph).getD 0) s1

/-- A weigh phase entered (retry count 0) or resumed (retry count kept) (R12, R21): settle and limit start, or the
phase ends at once with ZERO_DRIFT while the lifter's weighing is disabled (R124). -/
def enterWeigh (l : Lifter) (ph : Phase) (afresh : Bool) (s : State) : State :=
  let s1 := (setPhase l ph s).mapContext l (fun c => if afresh then { c with retry := 0 } else c)
  if (s.weigh.drift.get l).disabled then
    enterMotion l (afterWeigh ph) (s1.mapContext l (fun c => { c with outcome := .zeroDrift }))
  else
    s1.mapContext l (fun c => { c with settleTimer := some s.bodyTimer, limitTimer := some s.bodyTimer })

/-- A weigh phase that ends, as a successful or a failed weighing (R15). -/
def endWeigh (l : Lifter) (s : State) : State :=
  match s.phase l with
  | none => s
  | some ph => enterMotion l (afterWeigh ph) s

/-- DUMP_DWELL entered or resumed (R16, R21): dumped is set and the full dwell starts. -/
def enterDumpDwell (l : Lifter) (s : State) : State :=
  (setPhase l .dumpDwell s).mapContext l (fun c => { c with dumped := true, dwellTimer := some s.bodyTimer })

/-- The lift-triggered cycles of a lift given to its stream's compartment (R16, R22). -/
def giveLiftCycles (l : Lifter) (s : State) : State :=
  match s.context l with
  | none => s
  | some c => liftTriggeredCycles c.stream (s.mapContext l (fun c => { c with cyclesGiven := true }))

/-- SHAKE or its successor entered after the dwell (R16, R17). -/
def enterShake (l : Lifter) (s : State) : State :=
  match s.context l with
  | none => s
  | some c => if (s.banks.get c.bank).shakeCount = 0 then enterMotion l (afterShake c) s else enterMotion l .shake s

/-- A hold of a lifter in an active state or RETURNING (R19). -/
def holdMoving (l : Lifter) (r : HoldReason) (c : LiftContext) (s : State) : State :=
  let s1 := s.withLifter l
    { s.lifter l with
      raiseValve := false
      lowerValve := false
      context :=
        some { stopTimers c with remembered := some c.phase, phase := .held, reasons := HoldReasons.add {} r } }
  let s2 := giveBackFlow (.lifter l) s1
  latchAll .liftHeld (if isWeigh c.phase then withdrawWindow l s2 else s2)

/-- A hold cause reaching a lifter (R19, R20): in IDLE and FAULT it has no effect, in HELD it adds its reason. -/
def holdLifter (l : Lifter) (r : HoldReason) (s : State) : State :=
  match s.context l with
  | none => s
  | some c =>
    match c.phase with
    | .fault => s
    | .held =>
      if c.reasons.has r then s
      else latchAll .liftHeld (s.mapContext l (fun c => { c with reasons := c.reasons.add r }))
    | _ => holdMoving l r c s

/-- A hold cause reaching both lifters, LEFT first (log 34). -/
def holdBoth (r : HoldReason) (s : State) : State := holdLifter .right r (holdLifter .left r s)

/-- Whether the effective speed is above a limit: above every limit while STALE or none received (R40). -/
def speedAbove (limit : Nat) (s : State) : Bool :=
  match s.body.vehicle with
  | none => true
  | some v => !s.body.fresh || decide (limit < v.speed)

/-- The first uncleared hold reason in the order of R21, none when a resume is taken. -/
def unclearedReason (l : Lifter) (r : HoldReasons) (s : State) : Option Reason :=
  if r.estop ∧ s.body.state ≠ .running then some .estop
  else if r.tailgate ∧ ¬ s.body.tailgate.reading then some .tailgate
  else if r.step ∧ (s.body.steps.get l).reading then some .step
  else if r.speed ∧ speedAbove holdSpeed s then some .speed
  else none

/-- A lifter re-enters a phase at a resume (R21). -/
def reenterPhase (l : Lifter) (ph : Phase) (s : State) : State :=
  match ph with
  | .raiseWeigh => enterMotion l .raiseWeigh s
  | .grossWeigh => enterWeigh l .grossWeigh false s
  | .raiseDump => enterMotion l .raiseDump s
  | .dumpDwell => enterDumpDwell l s
  | .shake => enterMotion l .shake s
  | .lowerWeigh => enterMotion l .lowerWeigh s
  | .tareWeigh => enterWeigh l .tareWeigh false s
  | .lowerRest => enterMotion l .lowerRest s
  | .returning => enterMotion l .returning s
  | .held => s
  | .fault => s

/-- A context whose hold reasons are emptied and whose remembered phase is cleared (R21, R22). -/
def clearHold (c : LiftContext) : LiftContext := { c with reasons := {}, remembered := none }

/-- What a resume decides (R21): not HELD, refused with a reason, or the phase re-entered. -/
inductive ResumeEnd where
  | notHeld
  | refused (r : Reason)
  | taken (s : State)

/-- A Resume Lift or a rear start press in HELD (R21, R26). -/
def resumeLifter (l : Lifter) (s : State) : ResumeEnd :=
  match s.context l with
  | none => .notHeld
  | some c =>
    match c.phase with
    | .held =>
      match unclearedReason l c.reasons s with
      | some r => .refused r
      | none => .taken (reenterPhase l (c.remembered.getD .held) (s.mapContext l clearHold))
    | _ => .notHeld

/-- The abort phase of an aborted context (R22, R30): the first one is kept; HELD and FAULT give the remembered
phase. -/
def abortPhaseOf (c : LiftContext) : Phase :=
  match c.abortPhase with
  | some ph => ph
  | none =>
    match c.phase with
    | .held => c.remembered.getD .held
    | .fault => c.remembered.getD .fault
    | ph => ph

/-- A taken abort (R22). -/
def takeAbort (l : Lifter) (c : LiftContext) (s : State) : State :=
  let s1 := (s.withValves l false false).withContext l
    (some { clearHold (stopTimers c) with abortPhase := some (abortPhaseOf c) })
  let s2 := giveBackFlow (.lifter l) s1
  let s3 := if isWeigh c.phase then withdrawWindow l s2 else s2
  enterMotion l .returning (if c.dumped ∧ ¬ c.cyclesGiven then giveLiftCycles l s3 else s3)

/-- What an abort decides (R22): the lifter is IDLE, the body is HALTED and the lifter HELD or FAULT, or taken. -/
inductive AbortEnd where
  | idle
  | refused
  | taken (s : State)

/-- An Abort Lift (R22). -/
def abortLifter (l : Lifter) (s : State) : AbortEnd :=
  match s.context l with
  | none => .idle
  | some c =>
    if s.body.state = .halted ∧ (c.phase = .held ∨ c.phase = .fault) then .refused else .taken (takeAbort l c s)

/-- A context with its mass written: gross in GROSS_WEIGH, tare in TARE_WEIGH (R13, R119). -/
def writeMass (mass : Option Int) (c : LiftContext) : LiftContext :=
  if c.phase = .grossWeigh then { c with gross := mass } else { c with tare := mass }

/-- A weigh result handed to the sequencer (R13); a lifter that is not weighing takes none. -/
def takeResult (l : Lifter) (outcome : WeighOutcome) (mass : Option Int) (s : State) : State :=
  match s.context l with
  | none => s
  | some c =>
    if isWeigh c.phase then
      match outcome with
      | .ok => endWeigh l (s.mapContext l (writeMass mass))
      | .unstable =>
        if c.retry < 2 then
          armWindow l
            (s.mapContext l fun c =>
              { c with retry := c.retry + 1, flags := { c.flags with windowRetried := true } })
        else endWeigh l (s.mapContext l fun c => { c with retry := 3, outcome := .unstable })
      | o => endWeigh l (s.mapContext l fun c => { c with outcome := o })
    else s

/-- A lifter's arm-angle channel becomes stale (R11): a motion phase faults. -/
def lifterStale (l : Lifter) (s : State) : State :=
  match s.phase l with
  | none => s
  | some ph => if isMotion ph then faultLifter l .angleStale s else s

end Sys2Proof.Machine
end

