-- ==== Sys2Proof/Machine/Completion.lean ====
section
/-! DEFINITION. The end of a lift: the record with its net, status and charge, the account write-back, the payload
increase and the end of the context, at lift completion (R18) and at a body reset (R30). -/

namespace Sys2Proof.Machine

/-- How a lift ends (R18, R23, R30). -/
inductive Ending where
  | atRest
  | returned
  | bodyReset
deriving DecidableEq, Repr

/-- The division of a lift's bank in its lifter's calibration as it stands (R121). -/
def divisionNow (l : Lifter) (c : LiftContext) (s : State) : Nat := (s.calib.cal.get l).items.division.get c.bank

/-- The net of a context, when it holds both gross and tare (R120, R121). -/
def contextNet (l : Lifter) (c : LiftContext) (s : State) : Option Nat :=
  match c.gross, c.tare with
  | some g, some t => some (netOf g t (divisionNow l c s))
  | _, _ => none

/-- The flags after the net (R120, R121) and TIME_UNSYNCED (R18, R45). -/
def flagsWithNet (l : Lifter) (c : LiftContext) (s : State) : RecordFlags :=
  let f := { c.flags with timeUnsynced := c.flags.timeUnsynced || !s.body.fresh }
  match c.gross, c.tare with
  | some g, some t => netFlags g t (divisionNow l c s) f
  | _, _ => f

/-- The completion lookup (R156): made when the context holds an account part. -/
def completionLookup (c : LiftContext) (s : State) : Option (Nat × AccountEntry) × State :=
  match c.account, c.tag with
  | some _, some t =>
    match lookupTag t s with
    | (.found i e, s1) => (some (i, e), s1)
    | (.absent _, s1) => (none, s1)
  | _, _ => (none, s)

/-- ACCOUNT_CHANGED of the completion lookup (R156). -/
def accountChanged (c : LiftContext) (found : Option (Nat × AccountEntry)) : Bool :=
  match c.account, found with
  | none, _ => false
  | some _, none => true
  | some a, some (_, e) => decide (e.account ≠ a.account)

/-- The allowance handed to the charge unit (R156). -/
def handedAllowance (found : Option (Nat × AccountEntry)) : Nat :=
  match found with
  | some (_, e) => e.allowance
  | none => 0

/-- Whether all sixteen identity positions hold written characters (R138). -/
def identityComplete (s : State) : Bool := s.calib.identity.toList.all Option.isSome

/-- The status of a record (R164). -/
def statusOf (how : Ending) (c : LiftContext) (complete : Bool) (net : Option Nat) : RecordStatus :=
  match how with
  | .returned => .aborted
  | .bodyReset => .abortedReset
  | .atRest =>
    if c.sealWasOpen then .unbilledUnsealed
    else if !complete then .unbilledNoIdentity
    else if c.tag.isNone then .unbilledNoTag
    else if c.account.isNone then .unbilledUnknownTag
    else if c.outcome ≠ .ok ∨ net.isNone then .unbilledUnweighed
    else .billed

/-- The dumped mass (R18): 0 when not dumped, else the net, else the bank's nominal mass. -/
def dumpedMass (c : LiftContext) (net : Option Nat) (s : State) : Nat :=
  if c.dumped then net.getD (s.banks.get c.bank).nominalMass else 0

/-- A tariff class of the table (R161); class 0 holds zeros at all times. -/
def tariffOf (s : State) (cls : Nat) : Tariff := s.tags.tariffs.toList.getD cls zeroTariff

/-- The charge part of a record and its final flags (R165, R166): nothing unless the status is BILLED. -/
def chargePart (c : LiftContext) (status : RecordStatus) (net : Option Nat) (allowance : Nat) (f : RecordFlags)
    (s : State) : Option Charge × RecordFlags :=
  match status, c.account, net with
  | .billed, some a, some n =>
    let r := chargeOf a.tariffClass (tariffOf s a.tariffClass) c.stream n allowance f
    (some r.1, r.2)
  | _, _, _ => (none, f)

/-- The abort phase a record carries (R169): ABORTED and ABORTED_RESET records only. -/
def recordAbortPhase (how : Ending) (c : LiftContext) : Option Phase :=
  match how with
  | .atRest => none
  | .returned => c.abortPhase
  | .bodyReset => some (abortPhaseOf c)

/-- The odometer a record carries (R40, R169). -/
def recordOdometer (s : State) : Option Nat := s.body.vehicle.map VehicleData.odometer

/-- The record of a lift (R18 step 1, R30, R140, R169), after the completion lookup. Its sequence is given at the
write. -/
def buildRecord (how : Ending) (l : Lifter) (c : LiftContext) (found : Option (Nat × AccountEntry)) (s : State) :
    Record :=
  let net := contextNet l c s
  let flags := { flagsWithNet l c s with
    accountChanged := (flagsWithNet l c s).accountChanged || accountChanged c found }
  let status := statusOf how c (identityComplete s) net
  let charged := chargePart c status net (handedAllowance found) flags s
  { sequence := s.journal.nextSequence
    lifter := l
    profile := c.bank
    stream := c.stream
    loadNumber := (s.compartment c.stream).loadNumber
    tag := c.tag
    account := c.account
    gross := c.gross
    tare := c.tare
    net := net
    outcome := c.outcome
    dumpedMass := dumpedMass c net s
    charge := charged.1
    status := status
    abortPhase := recordAbortPhase how c
    flags := charged.2
    startTime := c.startTime
    completionTime := clockTime s
    odometer := recordOdometer s
    sealWasOpen := c.sealWasOpen }

/-- The write-back (R157): lifts this route for a dumped lift, and the allowance used, into the entry found. -/
def writeBack (dumped : Bool) (used : Nat) (found : Option (Nat × AccountEntry)) (s : State) : State :=
  match found with
  | none => s
  | some (i, e) =>
    writeEntry i
      { e with
        lifts := if dumped then saturatingSucc top8 e.lifts else e.lifts
        allowance := e.allowance - used }
      s

/-- The allowance used of a record (R165). -/
def usedOf (r : Record) : Nat :=
  match r.charge with
  | some c => c.used
  | none => 0

/-- The context ends and the lifter is IDLE (R18 steps 4 and 5, R30 step 6); the drive-inhibit line follows (R46). -/
def endContext (l : Lifter) (s : State) : State := evaluateInhibit (s.withContext l none)

/-- The end of a lift (R18, R30 steps 3 to 6): record, write-back, payload, end of the context. -/
def endLift (how : Ending) (l : Lifter) (s : State) : State :=
  match s.context l with
  | none => s
  | some c =>
    let found := completionLookup c s
    let r := buildRecord how l c found.1 found.2
    endContext l (raisePayload c.stream r.dumpedMass (writeBack c.dumped (usedOf r) found.1 (writeRecord r found.2)))

/-- A lift in flight ended by a body reset (R30): valves off, window withdrawn, then the end of the lift. -/
def resetLift (l : Lifter) (s : State) : State :=
  match s.context l with
  | none => s
  | some _ => endLift .bodyReset l (withdrawWindow l (s.withValves l false false))

/-! ### The end of a motion phase (R10, R23) -/

/-- The target angle of a phase (R9), none where the phase has none. -/
def phaseTarget (l : Lifter) (c : LiftContext) (s : State) : Option Nat :=
  match c.phase with
  | .raiseWeigh => some (s.banks.get c.bank).weighAngle
  | .raiseDump => some (s.banks.get c.bank).dumpAngle
  | .lowerWeigh => some (s.banks.get c.bank).weighAngle
  | .lowerRest => some (s.lifter l).settings.restAngle
  | .returning => some (s.lifter l).settings.restAngle
  | _ => none

/-- Whether a phase raises the arm to its target (R10). -/
def isRaising : Phase → Bool
  | .raiseWeigh => true
  | .raiseDump => true
  | _ => false

/-- The test of R10: a raising phase ends at or above its target less 15 ddeg, a lowering phase at or below its
target plus 15. -/
def reachesTarget (ph : Phase) (target reading : Nat) : Bool :=
  if isRaising ph then decide (target ≤ reading + angleMargin) else decide (reading ≤ target + angleMargin)

/-- What a motion phase that has reached its target leads to (R1, R18, R23). -/
def enterNext (l : Lifter) (ph : Phase) (s : State) : State :=
  match ph with
  | .raiseWeigh => enterWeigh l .grossWeigh true s
  | .raiseDump => enterDumpDwell l s
  | .lowerWeigh => enterWeigh l .tareWeigh true s
  | .lowerRest => endLift .atRest l s
  | .returning => endLift .returned l s
  | _ => s

/-- A motion phase or RETURNING ends (R10, R23): valve off, timer stopped, grant released, the next state entered. -/
def endMotion (l : Lifter) (s : State) : State :=
  match s.phase l with
  | none => s
  | some ph =>
    enterNext l ph
      (releaseGrant (.lifter l) ((s.withValves l false false).mapContext l stopTimers))

/-- An arm-angle reading handed to its lifter (R10, R23, R91): it counts only after the grant. -/
def angleReading (l : Lifter) (reading : Nat) (s : State) : State :=
  match s.context l with
  | none => s
  | some c =>
    match phaseTarget l c s with
    | none => s
    | some target =>
      if isGranted (s.flow.records.get (.lifter l)) ∧ reachesTarget c.phase target reading then endMotion l s else s

/-- The arm-angle reading of a raw value in ddeg: value x 225 / 512, truncated toward zero (R91). -/
def angleOf (raw : Int) : Nat := (raw * 225).toNat / 512

/-- A valid result handed on to the sequencer or packer that reads its channel (R91). -/
def handReading (ch : Fin 12) (v : Int) (s : State) : State :=
  match lifterOfChannel ch, streamOfChannel ch with
  | some l, _ => angleReading l (angleOf v) s
  | none, some st => packerConversion st ch s
  | none, none => s

/-- A slot's change from FRESH to STALE handed on (R95). -/
def handStale (ch : Fin 12) (s : State) : State :=
  match lifterOfChannel ch, streamOfChannel ch with
  | some l, _ => lifterStale l s
  | none, some st => packerStale st s
  | none, none => s

end Sys2Proof.Machine
end

