-- ==== Sys2Proof/Machine/Starting.lean ====
section
/-! DEFINITION. Lift start (section 1.3) with the tag permission of check 6 (section 8.4). -/

namespace Sys2Proof.Machine

/-- A lifter's usable pending tag (R144): at most 4,000 ms old. -/
def usableTag (l : Lifter) (s : State) : Option PendingTag :=
  (s.tags.pendingTags.get l).filter fun t => decide (elapsed s t.stamp ≤ pendingTagMs)

/-- The answer of check 6 (R154): a refusal, or permission with a tag and with an entry when one was found. -/
inductive Permission where
  | refused (r : Reason)
  | granted (tag : Option Nat) (entry : Option AccountEntry)
deriving DecidableEq, Repr

/-- Steps 3 to 5 of R154 for the entry found. -/
def entryPermission (tag : Nat) (e : AccountEntry) : Permission :=
  if e.suspended then .refused .tagSuspended
  else if e.quota ≠ 0 ∧ e.quota ≤ e.lifts then .refused .quota
  else .granted (some tag) (some e)

/-- Check 6 of lift start (R154). -/
def tagPermission (l : Lifter) (s : State) : Permission × State :=
  match usableTag l s with
  | none => (if s.tags.untaggedAllow then .granted none none else .refused .untaggedRefused, s)
  | some t =>
    match lookupTag t.tag s with
    | (.absent _, s1) =>
      (if s1.tags.unknownAllow then .granted (some t.tag) none else .refused .unknownTagRefused, s1)
    | (.found _ e, s1) => (entryPermission t.tag e, s1)

/-- Checks 1 to 5 of lift start in their order (R4). -/
def earlyChecks (l : Lifter) (s : State) : Option Reason :=
  if ¬ (s.lifter l).settings.fitted then some .notFitted
  else if s.body.state ≠ .running then some .bodyNotRunning
  else if ¬ s.body.tailgate.reading then some .tailgateOpen
  else if ¬ s.body.fresh then some .vehicleDataStale
  else if speedAbove startSpeed s then some .speed
  else if (s.body.steps.get l).reading then some .stepOccupied
  else none

/-- The stream of a lift (R5). -/
def startStream (l : Lifter) (arg : Option Stream) (entry : Option AccountEntry) (s : State) : Stream :=
  match entry with
  | some e => e.stream
  | none => arg.getD (s.lifter l).settings.defaultStream

/-- The bank of a lift (R5). -/
def startBank (l : Lifter) (entry : Option AccountEntry) (s : State) : Profile :=
  match (s.lifter l).selection with
  | .twoWheel => .twoWheel
  | .fourWheel => .fourWheel
  | .auto =>
    match entry with
    | some e => e.profile
    | none => (s.lifter l).settings.defaultProfile

/-- Checks 7 to 9 of lift start in their order (R4). -/
def lateChecks (st : Stream) (s : State) : Option Reason :=
  if (s.compartment st).fill = .full then some .compartmentFull
  else if (s.compartment st).limit ≤ (s.compartment st).payload ∨ s.bodyLimit ≤ bodyPayload s then
    some .payloadLimit
  else if journalSlots ≤ journalCount s.journal then some .journalFull
  else none

/-- The context created at acceptance (R7, R8), before its first phase is entered. -/
def newContext (l : Lifter) (arg : Option Stream) (tag : Option Nat) (entry : Option AccountEntry) (s : State) :
    LiftContext :=
  { bank := startBank l entry s
    stream := startStream l arg entry s
    tag := tag
    account := entry.map fun e => ⟨e.account, e.tariffClass⟩
    phase := .raiseWeigh
    remembered := none
    reasons := {}
    gross := none
    tare := none
    retry := 0
    outcome := .ok
    sealWasOpen := false
    dumped := false
    shakesDone := 0
    abortPhase := none
    startTime := clockTime s
    flags := {}
    cyclesGiven := false
    phaseTimer := none
    settleTimer := none
    limitTimer := none
    dwellTimer := none
    pulse := none }

/-- A lifter's pending tag slot emptied. -/
def emptyPending (l : Lifter) (s : State) : State :=
  s.withTags { s.tags with pendingTags := s.tags.pendingTags.set l none }

/-- Acceptance (R7): context, reservation, binding, RAISE_WEIGH. -/
def acceptStart (l : Lifter) (arg : Option Stream) (tag : Option Nat) (entry : Option AccountEntry) (s : State) :
    State :=
  let s1 := evaluateInhibit (s.withContext l (some (newContext l arg tag entry s)))
  let s2 := makeReservation l s1
  let s3 := if tag.isSome then emptyPending l s2 else s2
  enterMotion l .raiseWeigh s3

/-- Refusal (R6): last-refusal status and LIFT_REFUSED. -/
def refuseStart (l : Lifter) (source : StartSource) (r : Reason) (s : State) : State :=
  latchAll .liftRefused
    (s.withLifter l { s.lifter l with lastRefusal := some ⟨r, source, clockTime s⟩ })

/-- The lift start of an IDLE lifter (R3 to R7): the refusal reason, or none when it is accepted. -/
def startLifter (l : Lifter) (arg : Option Stream) (source : StartSource) (s : State) : Option Reason × State :=
  match earlyChecks l s with
  | some r => (some r, refuseStart l source r s)
  | none =>
    match tagPermission l s with
    | (.refused r, s1) => (some r, refuseStart l source r s1)
    | (.granted tag entry, s1) =>
      match lateChecks (startStream l arg entry s1) s1 with
      | some r => (some r, refuseStart l source r s1)
      | none => (none, acceptStart l arg tag entry s1)

end Sys2Proof.Machine
end

