-- ==== Sys2Proof/Machine/Ops.lean ====
section
/-! DEFINITION. The operations that reach several blocks at once: supply changes and revocations, the emergency
stop, the end of start-up, vehicle data, conversions and the settings of the settings block. -/

namespace Sys2Proof.Machine

/-! ### Supply (R51, R58 to R60) and flow timeouts (R57) -/

/-- A revocation or a flow timeout handed to its consumer (R57, R60): a FLOW hold. -/
def holdConsumer (c : Consumer) (s : State) : State :=
  match c with
  | .lifter l => holdLifter l .flow s
  | .packer st => holdPacker st true s

/-- The revocation handed to a consumer that held a grant (R60). -/
def handRevocation (was : PerConsumer FlowRecord) (s : State) (c : Consumer) : State :=
  if isGranted (was.get c) then holdConsumer c s else s

/-- A fall of the supply to 0 (R60): every grant revoked, then handed to the consumers in the order of R50 (log 34).
-/
def revokeAll (s : State) : State :=
  allConsumers.foldl (handRevocation s.flow.records)
    (testLine (s.withFlow { s.flow with records := revokeRecords s.flow.records }))

/-- The effective engine state handed to the flow arbiter (R51): a change of the supply is a supply change. -/
def handEngine (e : EngineState) (s : State) : State :=
  if supplyOf e = s.flow.supply then s.withFlow { s.flow with engine := e }
  else
    let s1 := s.withFlow { s.flow with engine := e, supply := supplyOf e }
    if supplyOf e = 0 then evaluateGrants (revokeAll s1) else evaluateGrants s1

/-- The lower of an engine state and IDLE, in the order OFF, IDLE, HIGH (R40). -/
def cappedEngine : EngineState → EngineState
  | .off => .off
  | .idle => .idle
  | .high => .idle

/-- The effective engine state (R40). -/
def effectiveEngine (b : Body) : EngineState :=
  match b.vehicle with
  | none => .off
  | some v => if b.fresh then v.engine else cappedEngine v.engine

/-- The effective park brake (R40): ON only while the data is FRESH. -/
def parkBrakeOn (b : Body) : Bool :=
  match b.vehicle with
  | some v => b.fresh && v.parkBrake
  | none => false

/-- The effective engine state handed when it differs from the one before (R40, R41 step 5, R42). -/
def handEngineChange (before : EngineState) (s : State) : State :=
  if effectiveEngine s.body = before then s else handEngine (effectiveEngine s.body) s

/-- An accepted Vehicle Data (R41). -/
def acceptVehicle (v : VehicleData) (s : State) : State :=
  let before := effectiveEngine s.body
  let s1 := s.withBody
    { s.body with
      vehicle := some v
      lastAccepted := some s.bodyTimer
      fresh := true
      clockSeconds := v.clock
      clockMillis := 0 }
  let s2 := handEngineChange before s1
  if holdSpeed < v.speed then holdBoth .speed s2 else s2

/-- The effects of the freshness timer's expiry (R42). That the SPEED holds come before the fallen engine state
reaches the flow arbiter is the model's choice (log 36). -/
def expireVehicle (s : State) : State :=
  let before := effectiveEngine s.body
  handEngineChange before
    (holdBoth .speed (latchAll .vehicleDataStale (s.withBody { s.body with fresh := false })))

/-! ### The body states (R32, R34 to R36) -/

/-- Every valve output off (R34). -/
def allValvesOff (s : State) : State :=
  let s1 := (s.withValves .left false false).withValves .right false false
  let s2 := s1.withPacker .residual { s1.packer .residual with extendValve := false, retractValve := false }
  s2.withPacker .recycle { s2.packer .recycle with extendValve := false, retractValve := false }

/-- Entry into HALTED with the entry actions of R34. -/
def enterHalted (s : State) : State :=
  let s1 := clearFlow (allValvesOff (s.withBody { s.body with state := .halted }))
  latchAll .estop (haltPacker .recycle (haltPacker .residual (holdBoth .estop s1)))

/-- The body leaves STARTING (R32, R35, R212, R213). -/
def leaveStarting (s : State) : State :=
  let s1 := s.withLoader { s.loader with load := .none }
  if s1.body.estop.reading then enterHalted s1 else s1.withBody { s1.body with state := .running }

/-- One operation on both packers. Where both would start a cycle, which of them places its request first is open, and
a free value decides (log 34). -/
def packersInTurn (contend : Bool) (f : Stream → State → State) (s : State) : State :=
  if contend then
    if Config.freeNat s.freeIndex % 2 = 0 then f .recycle (f .residual (s.withFreeIndex (s.freeIndex + 1)))
    else f .residual (f .recycle (s.withFreeIndex (s.freeIndex + 1)))
  else f .recycle (f .residual s)

/-- The test of R69 in both packers, at the closing of the tailgate. -/
def startPackers (s : State) : State := packersInTurn (mayStart .residual s && mayStart .recycle s) tryStart s

/-- Whether a packer starts a cycle when it leaves HALTED (R69, R80). -/
def startsOnResume (st : Stream) (s : State) : Bool :=
  decide ((s.packer st).state = .halted) && decide ((s.packer st).mode ≠ .step) && decide (0 < (s.packer st).pending)
    && s.body.tailgate.reading

/-- A taken Resume Body (R36): RUNNING, a grant evaluation (R53, R61), the HALTED packers to IDLE (R80). -/
def resumeBodyTaken (s : State) : State :=
  packersInTurn (startsOnResume .residual s && startsOnResume .recycle s) unhaltPacker
    (evaluateGrants (s.withBody { s.body with state := .running }))

/-! ### Conversions (R93, R94, R99, R100) -/

/-- A valid ring result written and handed on (R90, R91); an invalid one is written nowhere. -/
def takeRingResult (ch : Fin 12) (r : Option Int) (s : State) : State :=
  match validResult ch r with
  | some v => handReading ch v (writeSlot ch v s)
  | none => s

/-- A ring conversion completes (R93, R94, R99; the order is that of log 17). -/
def completeRing (r : Option Int) (s : State) : State :=
  let ch := s.scan.ringPos
  let s1 := takeRingResult ch r s
  let s2 := if ch = s.scan.ringEnd then endPass s1 else s1
  afterRing (s2.withScan { s2.scan with ringPos := nextInRing s.scan ch })

/-- An inserted conversion of a lifter's load cell completes (R100); the next ring conversion follows (R93). -/
def completeInserted (l : Lifter) (r : Option Int) (s : State) : State :=
  let s1 :=
    match validResult (loadCell l) r with
    | some v => addSample l v (writeSlot (loadCell l) v s)
    | none => s
  s1.withScan { s1.scan with converter := .ring }

/-- The effects of the expiry of a channel's freshness timer (R95). -/
def expireChannel (ch : Fin 12) (s : State) : State :=
  let s1 := latchAll .sensorStale (s.withSlot ch { s.slot ch with fresh := false, timer := none })
  if channelFresh s ch then handStale ch s1 else s1

/-- The end of a weigh computation (R109): window consumed, head removed, last result, result to the sequencer, next
computation. -/
def endComputation (s : State) : State :=
  match s.weigh.computation, s.weigh.queue with
  | some c, l :: rest =>
    let result := computeResult c (clockTime s)
    let s1 := s.withBuffer l .empty
    let s2 := s1.withWeigh
      { s1.weigh with queue := rest, computation := none, last := s1.weigh.last.set l (some result) }
    startComputation (takeResult l result.outcome result.mass s2)
  | _, _ => s

/-! ### The scan ring (R97) -/

/-- A slot at a taken Set Scan Ring (R97 steps 3 to 5): the channel left, joined or stayed. -/
def slotAfterRing (before after : Bool) (now : Nat) (x : Slot) : Slot :=
  match before, after with
  | true, true => x
  | false, true => { x with fresh := false, timer := some now }
  | _, false => { x with fresh := false, timer := none }

/-- A taken Set Scan Ring (R97). -/
def replaceRing (start stop : Fin 12) (s : State) : State :=
  let sc := { s.scan with ringStart := start, ringEnd := stop, ringPos := start, converter := .ring }
  s.withScan
    { sc with
      slots := Vector.ofFn fun ch => slotAfterRing (inRing s.scan ch) (inRing sc ch) s.bodyTimer (s.slot ch) }

/-! ### Settings (R210, R212, R215) -/

/-- The settings of the settings block as they stand (R210, R215). -/
def currentSettings (s : State) : Settings :=
  { lifters := { left := s.lifters.left.settings, right := s.lifters.right.settings }
    banks := s.banks
    packModes := { residual := s.packers.residual.mode, recycle := s.packers.recycle.mode }
    packers := { residual := s.packers.residual.settings, recycle := s.packers.recycle.settings }
    limits := { residual := s.compartments.residual.limit, recycle := s.compartments.recycle.limit }
    bodyLimit := s.bodyLimit
    threshold := s.tags.threshold
    untaggedAllow := s.tags.untaggedAllow
    unknownAllow := s.tags.unknownAllow
    ringStart := s.scan.ringStart
    ringEnd := s.scan.ringEnd
    masks := { cab := s.ports.cab.mask, route := s.ports.route.mask, chassis := s.ports.chassis.mask }
    map := s.access.map }

/-- The settings handed to their owners at the power-on load (R212): selections from the initial selections, the
ring to the scan unit, which begins scanning (R105), the masks to the ports, the map to the access map. -/
def applySettings (x : Settings) (s : State) : State :=
  let s1 := s.withLifters
    { left := { s.lifters.left with settings := x.lifters.left, selection := x.lifters.left.initialSelection }
      right := { s.lifters.right with settings := x.lifters.right, selection := x.lifters.right.initialSelection } }
  let s2 := (s1.withBanks x.banks).withPackers
    { residual := { s.packers.residual with mode := x.packModes.residual, settings := x.packers.residual }
      recycle := { s.packers.recycle with mode := x.packModes.recycle, settings := x.packers.recycle } }
  let s3 := (s2.withCompartments
    { residual := { s.compartments.residual with limit := x.limits.residual }
      recycle := { s.compartments.recycle with limit := x.limits.recycle } }).withBodyLimit x.bodyLimit
  let s4 := s3.withTags
    { s.tags with threshold := x.threshold, untaggedAllow := x.untaggedAllow, unknownAllow := x.unknownAllow }
  let s5 := s4.withScan
    (beginScanning { s.scan with ringStart := x.ringStart, ringEnd := x.ringEnd } s.bodyTimer)
  let s6 := s5.withPorts
    { cab := s.ports.cab.setMask x.masks.cab
      route := s.ports.route.setMask x.masks.route
      chassis := s.ports.chassis.setMask x.masks.chassis }
  evaluateLimits (s6.withAccess { s.access with map := x.map })

end Sys2Proof.Machine
end

