-- ==== Sys2Proof/Machine/Operands.lean ====
section
/-! DEFINITION. The operand forms: how the bytes of a request's payload are read as its arguments (R216, R217, R219).
A value outside its list is none. -/

namespace Sys2Proof.Machine

/-! ### Quantities -/

/-- A payload byte, 0 beyond the payload's end (where no length-checked request reads). -/
def byteAt (d : List Byte) (i : Nat) : Nat := (d.getD i 0).toNat

/-- Bytes as an unsigned quantity, most significant first (R216). -/
def beNat (d : List Byte) : Nat := d.foldl (fun n b => n * 256 + b.toNat) 0

/-- The unsigned quantity in n bytes from byte i on. -/
def beAt (d : List Byte) (i n : Nat) : Nat := beNat ((d.drop i).take n)

/-- A two's complement quantity of n bytes (R217). -/
def signedOf (n v : Nat) : Int := if 2 ^ (8 * n - 1) ≤ v then (v : Int) - (2 ^ (8 * n) : Nat) else v

/-- The signed quantity in n bytes from byte i on. -/
def signedAt (d : List Byte) (i n : Nat) : Int := signedOf n (beAt d i n)

/-- v when it lies within a range. -/
def within (low high v : Nat) : Option Nat := if low ≤ v ∧ v ≤ high then some v else none

/-! ### Enumerations (R217) -/

/-- A lifter: 0 LEFT, 1 RIGHT. -/
def lifterArg : Nat → Option Lifter
  | 0 => some .left
  | 1 => some .right
  | _ => none

/-- A stream or compartment: 0 RESIDUAL, 1 RECYCLE. -/
def streamArg : Nat → Option Stream
  | 0 => some .residual
  | 1 => some .recycle
  | _ => none

/-- A bank: 0 TWO_WHEEL, 1 FOUR_WHEEL. -/
def profileArg : Nat → Option Profile
  | 0 => some .twoWheel
  | 1 => some .fourWheel
  | _ => none

/-- A profile selection: 0 TWO_WHEEL, 1 FOUR_WHEEL, 2 AUTO (R28). -/
def selectionArg : Nat → Option Selection
  | 0 => some .twoWheel
  | 1 => some .fourWheel
  | 2 => some .auto
  | _ => none

/-- A pack mode: 0 SINGLE, 1 CONTINUOUS, 2 STEP (R68). -/
def modeArg : Nat → Option PackMode
  | 0 => some .single
  | 1 => some .continuous
  | 2 => some .step
  | _ => none

/-- An engine state: 0 OFF, 1 IDLE, 2 HIGH (R219). -/
def engineArg : Nat → Option EngineState
  | 0 => some .off
  | 1 => some .idle
  | 2 => some .high
  | _ => none

/-- A two-valued enumeration whose first value, 0, means yes: fitted YES, park brake ON, reverse YES, policy ALLOW,
right GRANTED (R217, R219; log 12). -/
def firstMeansYes : Nat → Option Bool
  | 0 => some true
  | 1 => some false
  | _ => none

/-- A port: 0 CAB, 1 ROUTE, 2 CHASSIS (R193; log 35). -/
def portArg : Nat → Option Port
  | 0 => some .cab
  | 1 => some .route
  | 2 => some .chassis
  | _ => none

/-- A request class: the fourteen of R198, numbered from 0 (log 35). -/
def classArg (v : Nat) : Option (Fin 14) := if h : v < 14 then some ⟨v, h⟩ else none

/-- A channel number. -/
def channelArg (v : Nat) : Option (Fin 12) := if h : v < 12 then some ⟨v, h⟩ else none

/-- An optional stream: its presence byte and its stream byte (R3, R217; log 15). -/
def optionalStreamArg (presence v : Nat) : Option (Option Stream) :=
  match presence with
  | 0 => some none
  | 1 => (streamArg v).map some
  | _ => none

/-- A tag: 1 to 2^40-1 (R147). -/
def tagArg (v : Nat) : Option Nat := if v = 0 then none else some v

/-- An event set: bits 26 to 31 must be 0 (R217). -/
def eventSetArg (v : Nat) : Option EventSet := if v < 2 ^ 26 then some (BitVec.ofNat 26 v) else none

/-- A calibration item (R216). -/
def itemArg : Nat → Option CalItem
  | 0 => some .zeroOffset
  | 1 => some .span
  | 2 => some .pitchZero
  | 3 => some .rollZero
  | 4 => some (.pitchEntry 0)
  | 5 => some (.pitchEntry 1)
  | 6 => some (.pitchEntry 2)
  | 7 => some (.pitchEntry 3)
  | 8 => some (.pitchEntry 4)
  | 9 => some (.pitchEntry 5)
  | 10 => some (.pitchEntry 6)
  | 11 => some (.pitchEntry 7)
  | 12 => some (.pitchEntry 8)
  | 13 => some (.division .twoWheel)
  | 14 => some (.division .fourWheel)
  | 15 => some (.maximum .twoWheel)
  | 16 => some (.maximum .fourWheel)
  | 17 => some .stabilityBand
  | 18 => some .driftLimit
  | 19 => some .windowSize
  | _ => none

end Sys2Proof.Machine
end

