-- ==== Sys2Proof/Machine/Encode.lean ====
section
/-! DEFINITION. How the B40 writes fields into answers (R216, R217): quantities, enumerations, sets, optional fields
and lists, and the answer codes with their reasons. The layouts of whole answers are in Answers.lean. -/

namespace Sys2Proof.Machine

/-! ### Quantities -/

/-- v in n bytes, most significant first (R216). -/
def beBytes : Nat → Nat → List Byte
  | 0, _ => []
  | n + 1, v => BitVec.ofNat 8 (v / 256 ^ n) :: beBytes n v

/-- v in n bytes in two's complement (R217). -/
def signedBytes (n : Nat) (v : Int) : List Byte := beBytes n (v % ((2 ^ (8 * n) : Nat) : Int)).toNat

/-- One byte. -/
def oneByte (v : Nat) : List Byte := [BitVec.ofNat 8 v]

/-- Yes or no: 0 no, 1 yes (R217). -/
def yesNo (b : Bool) : List Byte := if b then [1] else [0]

/-- A two-valued enumeration whose first value, 0, means yes (R217; log 12). -/
def firstYes (b : Bool) : List Byte := if b then [0] else [1]

/-- An optional field: the presence byte, then the field, or zeros in the field's place (R217). -/
def optionalField {α : Type} (width : Nat) (enc : α → List Byte) : Option α → List Byte
  | some v => 1 :: enc v
  | none => 0 :: List.replicate width 0

/-- A list of varying length: its count byte, then its items (R217). -/
def listField {α : Type} (enc : α → List Byte) (xs : List α) : List Byte :=
  BitVec.ofNat 8 xs.length :: xs.flatMap enc

/-- A set of a fixed list of names in one byte, bit n for the nth name (R217). -/
def setByte (bits : List Bool) : List Byte :=
  oneByte (bits.reverse.foldl (fun n b => 2 * n + b.toNat) 0)

/-! ### Enumerations, numbered from 0 in the order of the owning rule (R217) -/

/-- A lifter's byte. -/
def lifterCode : Lifter → Nat
  | .left => 0
  | .right => 1

/-- A stream's byte. -/
def streamCode : Stream → Nat
  | .residual => 0
  | .recycle => 1

/-- A profile's byte. -/
def profileCode : Profile → Nat
  | .twoWheel => 0
  | .fourWheel => 1

/-- A profile selection's byte (R28). -/
def selectionCode : Selection → Nat
  | .twoWheel => 0
  | .fourWheel => 1
  | .auto => 2

/-- A phase's byte, in the order of the lifter states of R1, where IDLE is 0. -/
def phaseCode : Phase → Nat
  | .raiseWeigh => 1
  | .grossWeigh => 2
  | .raiseDump => 3
  | .dumpDwell => 4
  | .shake => 5
  | .lowerWeigh => 6
  | .tareWeigh => 7
  | .lowerRest => 8
  | .held => 9
  | .returning => 10
  | .fault => 11

/-- A lifter state's byte (R1). -/
def lifterStateCode (ph : Option Phase) : Nat := (ph.map phaseCode).getD 0

/-- A lifter fault cause's byte (R11). -/
def liftFaultCode : LiftFaultCause → Nat
  | .phaseTimeout => 0
  | .angleStale => 1

/-- A weigh outcome's byte (R8). -/
def outcomeCode : WeighOutcome → Nat
  | .ok => 0
  | .unstable => 1
  | .tilt => 2
  | .overRange => 3
  | .zeroDrift => 4
  | .sensor => 5
  | .timeout => 6
  | .noCalibration => 7

/-- A lift start's source (R6). -/
def sourceCode : StartSource → Nat
  | .port .cab => 0
  | .port .route => 1
  | .port .chassis => 2
  | .rear => 3

/-- A body state's byte (R32). -/
def bodyStateCode : BodyState → Nat
  | .starting => 0
  | .running => 1
  | .halted => 2

/-- An engine state's byte (R40). -/
def engineCode : EngineState → Nat
  | .off => 0
  | .idle => 1
  | .high => 2

/-- A consumer's byte, in the order of R50. -/
def consumerCode : Consumer → Nat
  | .lifter .left => 0
  | .lifter .right => 1
  | .packer .residual => 2
  | .packer .recycle => 3

/-- A pack mode's byte (R66). -/
def modeCode : PackMode → Nat
  | .single => 0
  | .continuous => 1
  | .step => 2

/-- A stroke phase's byte, in the order of the remembered phase's values in R66. -/
def strokeCode : StrokePhase → Nat
  | .extending => 0
  | .dwell => 1
  | .retracting => 2

/-- A packer state's byte (R66). -/
def packerStateCode : PackerState → Nat
  | .idle => 0
  | .stroke ph => strokeCode ph + 1
  | .paused _ => 4
  | .held _ _ => 5
  | .halted => 6
  | .fault => 7

/-- A pause point's byte (R66). -/
def pauseCode : PausePoint → Nat
  | .extended => 0
  | .retracted => 1

/-- A packer fault cause's byte (R73). -/
def packFaultCode : PackFaultCause → Nat
  | .extendTimeout => 0
  | .retractTimeout => 1
  | .pressureStale => 2
  | .strokeStale => 3

/-- A fill state's byte (R82). -/
def fillCode : FillState → Nat
  | .opened => 0
  | .nearFull => 1
  | .full => 2

/-- A disposition's byte (R141). -/
def dispositionCode : Disposition → Nat
  | .invalid => 0
  | .starting => 1
  | .lowQuality => 2
  | .bound => 3
  | .accepted => 4

/-- A record status's number, in the order of R164. -/
def statusCode : RecordStatus → Nat
  | .aborted => 0
  | .abortedReset => 1
  | .unbilledUnsealed => 2
  | .unbilledNoIdentity => 3
  | .unbilledNoTag => 4
  | .unbilledUnknownTag => 5
  | .unbilledUnweighed => 6
  | .billed => 7

/-- A flow record's byte (R50). -/
def recordCode : FlowRecord → Nat
  | .none => 0
  | .waiting _ _ => 1
  | .granted _ => 2

/-- A buffer state's byte (R98). -/
def bufferCode : Buffer → Nat
  | .empty => 0
  | .filling _ _ => 1
  | .held _ _ _ => 2

/-- A service state's byte (R193). -/
def serviceCode : Service → Nat
  | .idle => 0
  | .waiting _ _ => 1
  | .answering _ => 1

/-! ### Answer codes and reasons (R197, R216) -/

/-- The value of a reason (R216). -/
def reasonCode : Reason → Nat
  | .notFitted => 1
  | .bodyNotRunning => 2
  | .tailgateOpen => 3
  | .vehicleDataStale => 4
  | .speed => 5
  | .stepOccupied => 6
  | .tagSuspended => 7
  | .tailgate => 8
  | .quota => 9
  | .compartmentFull => 10
  | .payloadLimit => 11
  | .journalFull => 12
  | .untaggedRefused => 13
  | .unknownTagRefused => 14
  | .estop => 15
  | .step => 17
  | .estopActive => 18
  | .notStepMode => 19
  | .parkBrake => 20
  | .lifterBusy => 21
  | .packerBusy => 22
  | .tailgateNotCycled => 23
  | .storeFailed => 24

/-- An answer: its code, with the reason or the data that goes with it (R197). -/
inductive Reply where
  | ok (data : List Byte)
  | accessDenied
  | notReady
  | badArgument
  | busy
  | refused (r : Reason)
  | notFound (data : List Byte)
  | full (data : List Byte)
  | sealClosed
  | locked
deriving DecidableEq, Repr

/-- The payload of an answer (R216). -/
def replyBytes : Reply → List Byte
  | .ok data => 0x00 :: data
  | .accessDenied => [0x01]
  | .notReady => [0x02]
  | .badArgument => [0x03]
  | .busy => [0x04]
  | .refused r => [0x05, BitVec.ofNat 8 (reasonCode r)]
  | .notFound data => 0x06 :: data
  | .full data => 0x07 :: data
  | .sealClosed => [0x08]
  | .locked => [0x09]

end Sys2Proof.Machine
end

