-- ==== Sys2Proof/Machine/RecordLayout.lean ====
section
/-! DEFINITION. The layouts of the journal record, the account entry and the tariff entry (R218, R219). -/

namespace Sys2Proof.Machine

/-! ### The journal record (R218) -/

/-- An optional field of a record: its bytes, or zeros; presence is in byte 39 (R218). -/
def bareField {α : Type} (width : Nat) (enc : α → List Byte) : Option α → List Byte
  | some v => enc v
  | none => List.replicate width 0

/-- Byte 4: lifter, profile and stream (R218). -/
def recordByte4 (r : Record) : List Byte :=
  oneByte (lifterCode r.lifter + 2 * profileCode r.profile + 4 * streamCode r.stream)

/-- Byte 28: status in the high four bits, weigh outcome in the low four (R218). -/
def recordByte28 (r : Record) : List Byte := oneByte (16 * statusCode r.status + outcomeCode r.outcome)

/-- The flags, bit n the flag of order n + 1 in R170. -/
def flagsByte (f : RecordFlags) : List Byte :=
  setByte
    [f.accountChanged, f.negativeNetClamped, f.belowMin, f.minApplied, f.capApplied, f.windowRetried,
      f.timeUnsynced]

/-- Byte 39: which optional fields are present (R218). -/
def presenceByte (r : Record) : List Byte :=
  setByte
    [r.tag.isSome, r.account.isSome, r.gross.isSome, r.tare.isSome, r.net.isSome, r.charge.isSome,
      r.abortPhase.isSome, r.odometer.isSome]

/-- A record as delivered, 51 bytes (R218). -/
def recordBytes (r : Record) : List Byte :=
  beBytes 4 r.sequence ++ recordByte4 r ++ beBytes 4 r.loadNumber
    ++ bareField 5 (beBytes 5) r.tag
    ++ bareField 4 (beBytes 4) (r.account.map AccountPart.account)
    ++ bareField 1 (beBytes 1) (r.account.map AccountPart.tariffClass)
    ++ bareField 3 (signedBytes 3) r.gross
    ++ bareField 3 (signedBytes 3) r.tare
    ++ bareField 3 (beBytes 3) r.net
    ++ recordByte28 r
    ++ beBytes 3 r.dumpedMass
    ++ bareField 3 (beBytes 3) (r.charge.map Charge.cents)
    ++ bareField 2 (beBytes 2) (r.charge.map Charge.used)
    ++ bareField 1 (fun ph => oneByte (phaseCode ph)) r.abortPhase
    ++ flagsByte r.flags ++ presenceByte r ++ beBytes 4 r.startTime ++ beBytes 4 r.completionTime
    ++ bareField 3 (beBytes 3) r.odometer

/-- A record delivered as DAMAGED (R188, R218): its sequence, status 8, every other byte 0. -/
def damagedBytes (sequence : Nat) : List Byte :=
  beBytes 4 sequence ++ List.replicate 24 0 ++ [0x80] ++ List.replicate 22 0

/-- A delivery's 51 bytes. -/
def deliveryBytes : Delivery → List Byte
  | .record r => recordBytes r
  | .damaged n => damagedBytes n

/-! ### The account entry and the tariff entry (R219) -/

/-- Byte 9 of an account entry (R219). -/
def entryByte9 (e : AccountEntry) : List Byte :=
  oneByte (streamCode e.stream + 2 * profileCode e.profile + 4 * e.suspended.toNat)

/-- An account entry, 15 bytes (R219). -/
def entryBytes (e : AccountEntry) : List Byte :=
  beBytes 5 e.tag ++ beBytes 4 e.account ++ entryByte9 e ++ oneByte e.tariffClass ++ oneByte e.quota
    ++ oneByte e.lifts ++ beBytes 2 e.allowance

/-- Whether an account entry's fields are within the ranges of R147. -/
def entryInRange (e : AccountEntry) : Bool :=
  decide (1 ≤ e.tag) && decide (1 ≤ e.account) && decide (e.account ≤ 99999999) && decide (e.tariffClass ≤ 15)
    && decide (e.quota ≤ 15)

/-- The entry a Put Account carries (R149, R219), none when a field is out of range or a bit of byte 9 has no name. -/
def entryArg (d : List Byte) : Option AccountEntry :=
  let marks := byteAt d 9
  let e : AccountEntry :=
    { tag := beAt d 0 5
      account := beAt d 5 4
      stream := if marks % 2 = 1 then .recycle else .residual
      profile := if marks / 2 % 2 = 1 then .fourWheel else .twoWheel
      tariffClass := byteAt d 10
      suspended := decide (marks / 4 % 2 = 1)
      quota := byteAt d 11
      lifts := byteAt d 12
      allowance := beAt d 13 2 }
  if marks < 8 ∧ entryInRange e then some e else none

/-- A tariff entry, 10 bytes (R219). -/
def tariffBytes (cls : Nat) (t : Tariff) : List Byte :=
  oneByte cls ++ beBytes 2 t.residualRate ++ beBytes 2 t.recycleRate ++ beBytes 2 t.minimum ++ beBytes 3 t.cap

/-- The class and the values a Put Tariff carries, checked in the order of R162; the rates fill their bytes. -/
def tariffArg (d : List Byte) : Option (Fin 16 × Tariff) :=
  let t : Tariff := ⟨beAt d 1 2, beAt d 3 2, beAt d 5 2, beAt d 7 3⟩
  if h : 1 ≤ byteAt d 0 ∧ byteAt d 0 < 16 then
    if t.minimum ≤ 9999 ∧ t.cap ≤ 99999 ∧ t.minimum ≤ t.cap then some (⟨byteAt d 0, h.2⟩, t) else none
  else none

end Sys2Proof.Machine
end

