-- ==== Sys2Proof/Machine/Link.lean ====
section
/-! DEFINITION. The ports (chapter 11): the classes and rights of the request kinds, the four checks of a port, serving
a request and answering it, bad frames and overruns. -/

namespace Sys2Proof.Machine

/-- The class of a request kind (R198). -/
def kindClass : Kind → RequestClass
  | .startLift => .lift
  | .stopLift => .lift
  | .resumeLift => .lift
  | .abortLift => .lift
  | .selectProfile => .lift
  | .setBank => .lift
  | .setLifterDefaults => .lift
  | .setTagThreshold => .lift
  | .packCycle => .pack
  | .packStop => .pack
  | .packStep => .pack
  | .packResume => .pack
  | .setPackMode => .pack
  | .setPackerSettings => .pack
  | .setPayloadLimits => .pack
  | .unloadComplete => .pack
  | .resumeBody => .body
  | .bodyReset => .body
  | .saveSettings => .body
  | .readAccount => .accounts
  | .putAccount => .accounts
  | .deleteAccount => .accounts
  | .clearAccounts => .accounts
  | .setRoutePolicy => .accounts
  | .clearCounters => .accounts
  | .readTariff => .tariff
  | .putTariff => .tariff
  | .readJournal => .journalRead
  | .journalStatus => .journalRead
  | .acknowledgeJournal => .journalAck
  | .readCalibration => .calibration
  | .readCounter => .calibration
  | .writeCalibration => .calibration
  | .readIdentity => .identity
  | .writeIdentity => .identity
  | .vehicleData => .vehicle
  | .bodyStatus => .status
  | .lifterStatus => .status
  | .flowStatus => .status
  | .compartmentStatus => .status
  | .weighStatus => .status
  | .tagStatus => .status
  | .integrityStatus => .status
  | .linkStatus => .status
  | .readEvents => .events
  | .clearEvents => .events
  | .setEventMask => .events
  | .scanStatus => .scan
  | .setScanRing => .scan
  | .readAccess => .map
  | .setAccess => .map
  | .lockMap => .map

/-- Whether a request kind is a read of its class (R198). -/
def kindReads : Kind → Bool
  | .startLift => false
  | .stopLift => false
  | .resumeLift => false
  | .abortLift => false
  | .selectProfile => false
  | .setBank => false
  | .setLifterDefaults => false
  | .setTagThreshold => false
  | .packCycle => false
  | .packStop => false
  | .packStep => false
  | .packResume => false
  | .setPackMode => false
  | .setPackerSettings => false
  | .setPayloadLimits => false
  | .unloadComplete => false
  | .resumeBody => false
  | .bodyReset => false
  | .saveSettings => false
  | .readAccount => true
  | .putAccount => false
  | .deleteAccount => false
  | .clearAccounts => false
  | .setRoutePolicy => false
  | .clearCounters => false
  | .readTariff => true
  | .putTariff => false
  | .readJournal => true
  | .journalStatus => true
  | .acknowledgeJournal => false
  | .readCalibration => true
  | .readCounter => true
  | .writeCalibration => false
  | .readIdentity => true
  | .writeIdentity => false
  | .vehicleData => false
  | .bodyStatus => true
  | .lifterStatus => true
  | .flowStatus => true
  | .compartmentStatus => true
  | .weighStatus => true
  | .tagStatus => true
  | .integrityStatus => true
  | .linkStatus => true
  | .readEvents => true
  | .clearEvents => false
  | .setEventMask => false
  | .scanStatus => true
  | .setScanRing => false
  | .readAccess => true
  | .setAccess => false
  | .lockMap => false

/-- A class's place in the order of R198, from 0. -/
def classIndex : RequestClass → Fin 14
  | .lift => 0
  | .pack => 1
  | .body => 2
  | .accounts => 3
  | .tariff => 4
  | .journalRead => 5
  | .journalAck => 6
  | .calibration => 7
  | .identity => 8
  | .vehicle => 9
  | .status => 10
  | .events => 11
  | .scan => 12
  | .map => 13

/-- Whether a kind is taken while the body is STARTING (R214). -/
def takenWhileStarting : Kind → Bool
  | .startLift => false
  | .stopLift => false
  | .resumeLift => false
  | .abortLift => false
  | .selectProfile => false
  | .setBank => false
  | .setLifterDefaults => false
  | .setTagThreshold => false
  | .packCycle => false
  | .packStop => false
  | .packStep => false
  | .packResume => false
  | .setPackMode => false
  | .setPackerSettings => false
  | .setPayloadLimits => false
  | .unloadComplete => false
  | .resumeBody => false
  | .bodyReset => false
  | .saveSettings => false
  | .readAccount => false
  | .putAccount => false
  | .deleteAccount => false
  | .clearAccounts => false
  | .setRoutePolicy => false
  | .clearCounters => false
  | .readTariff => false
  | .putTariff => false
  | .readJournal => false
  | .journalStatus => false
  | .acknowledgeJournal => false
  | .readCalibration => false
  | .readCounter => false
  | .writeCalibration => false
  | .readIdentity => false
  | .writeIdentity => false
  | .vehicleData => true
  | .bodyStatus => true
  | .lifterStatus => true
  | .flowStatus => true
  | .compartmentStatus => true
  | .weighStatus => true
  | .tagStatus => true
  | .integrityStatus => true
  | .linkStatus => true
  | .readEvents => true
  | .clearEvents => true
  | .setEventMask => false
  | .scanStatus => true
  | .setScanRing => false
  | .readAccess => true
  | .setAccess => false
  | .lockMap => false

/-- The payload length of each kind but Write Identity (R216), which carries its first position and 1 to 16
characters. -/
def fixedLength : Kind → Nat
  | .startLift => 3
  | .stopLift => 1
  | .resumeLift => 1
  | .abortLift => 1
  | .selectProfile => 2
  | .setBank => 15
  | .setLifterDefaults => 6
  | .setTagThreshold => 1
  | .packCycle => 1
  | .packStop => 1
  | .packStep => 1
  | .packResume => 1
  | .setPackMode => 2
  | .setPackerSettings => 8
  | .setPayloadLimits => 12
  | .unloadComplete => 1
  | .resumeBody => 0
  | .bodyReset => 0
  | .saveSettings => 0
  | .readAccount => 6
  | .putAccount => 15
  | .deleteAccount => 5
  | .clearAccounts => 0
  | .setRoutePolicy => 2
  | .clearCounters => 0
  | .readTariff => 1
  | .putTariff => 10
  | .readJournal => 5
  | .journalStatus => 0
  | .acknowledgeJournal => 4
  | .readCalibration => 1
  | .readCounter => 0
  | .writeCalibration => 5
  | .readIdentity => 0
  | .writeIdentity => 2
  | .vehicleData => 12
  | .bodyStatus => 0
  | .lifterStatus => 1
  | .flowStatus => 0
  | .compartmentStatus => 1
  | .weighStatus => 0
  | .tagStatus => 0
  | .integrityStatus => 0
  | .linkStatus => 0
  | .readEvents => 0
  | .clearEvents => 4
  | .setEventMask => 4
  | .scanStatus => 0
  | .setScanRing => 2
  | .readAccess => 0
  | .setAccess => 4
  | .lockMap => 0

/-- Whether a payload length is one that a kind allows (R196 check 4, R216). -/
def lengthAllowed (k : Kind) (n : Nat) : Bool :=
  if k = .writeIdentity then decide (2 ≤ n) && decide (n ≤ 17) else decide (n = fixedLength k)

/-- A port's rights for a class (R199). -/
def rightsOf (s : State) (p : Port) (c : RequestClass) : Rights := (s.access.map.get p).get (classIndex c)

/-- Whether a port has the right a kind needs (R199). -/
def rightGranted (s : State) (p : Port) (k : Kind) : Bool :=
  if kindReads k then (rightsOf s p (kindClass k)).read else (rightsOf s p (kindClass k)).write

/-- Checks 2 to 4 of a port in their order (R196): the answer of the first that fails. -/
def portChecks (k : Kind) (p : Port) (payload : List Byte) (s : State) : Option Reply :=
  if !rightGranted s p k then some .accessDenied
  else if s.body.state = .starting ∧ ¬ takenWhileStarting k then some .notReady
  else if !lengthAllowed k payload.length then some .badArgument
  else none

/-- A port takes a request (R195): HUNTING, IN_SERVICE with it. -/
def takeRequest (p : Port) (number kind : Byte) (s : State) : State :=
  s.withPort p { s.port p with receive := .hunting, service := .waiting number kind }

/-- The answer to the request a port has in service begins to be sent (R197). -/
def answerPort (p : Port) (r : Reply) (s : State) : State :=
  match (s.port p).service with
  | .waiting number kind => s.withPort p { s.port p with service := .answering ⟨number, kind, replyBytes r⟩ }
  | _ => s

/-- A port's answer frame, while one is being sent (R197). -/
def answerFrame (x : PortState) : Option (List Byte) :=
  match x.service with
  | .answering a => some (frameBytes a.number a.kind a.payload)
  | _ => none

/-- An overrun (R195): discarded, counted, LINK_ERROR in the port's own set. -/
def overrunPort (p : Port) (s : State) : State :=
  latchPort p .linkError
    (s.withPort p { s.port p with receive := .hunting, overruns := saturatingSucc top16 (s.port p).overruns })

/-- A bad frame (R194): discarded, counted, LINK_ERROR in the port's own set. -/
def badFramePort (p : Port) (s : State) : State :=
  latchPort p .linkError
    (s.withPort p { s.port p with receive := .hunting, errors := saturatingSucc top16 (s.port p).errors })

/-- The reply of an owning block, which is absent when it comes at the end of an EEPROM write, and the state it
leaves. -/
abbrev Decision := State × Option Reply

/-- A request refused by its port (R196): an ACCESS_DENIED also sets ACCESS_VIOLATION in that port (R199). -/
def refuseAtPort (p : Port) (r : Reply) (s : State) : State :=
  answerPort p r (if r = .accessDenied then latchPort p .accessViolation s else s)

/-- A request decided by its owner and answered, unless the answer comes later (R197). -/
def finishRequest (p : Port) (d : Decision) : State :=
  match d.2 with
  | some r => answerPort p r d.1
  | none => d.1

/-- A good frame of a catalogue kind at a port (R195, R196): an overrun while IN_SERVICE, else taken, checked, and
decided by its owner, which finds the port IN_SERVICE with it (log 40). Nothing is received while the reset line holds
the B40 (log 20). -/
def serve (k : Kind) (p : Port) (number : Byte) (payload : List Byte) (owner : State → Decision) (s : State) :
    State :=
  if s.resetHeld then s
  else if (s.port p).service ≠ .idle then overrunPort p s
  else
    match portChecks k p payload s with
    | some r => refuseAtPort p r (takeRequest p number k.code s)
    | none => finishRequest p (owner (takeRequest p number k.code s))

/-- What a command ends in. -/
abbrev Result := Host.Outcome State Fault Refusal

/-- A decision that changes nothing. -/
def declined (r : Reply) (s : State) : Decision := (s, some r)

/-- A decision OK without data. -/
def taken (s : State) : Decision := (s, some (.ok []))

/-- A settings write in flight (R215). -/
def isSettingsJob : WriteJob → Bool
  | .settings _ _ => true
  | _ => false

/-- A counter write handed over or in progress (R131). -/
def isCounterJob : WriteJob → Bool
  | .counter _ _ _ _ _ => true
  | _ => false

/-- A commit handed over or in progress (R130). -/
def isCommitJob : WriteJob → Bool
  | .commit _ => true
  | _ => false

/-- An identity write handed over or in progress (R137). -/
def isIdentityJob : WriteJob → Bool
  | .identity _ _ => true
  | _ => false

/-- Whether a Save Settings write is in flight (R215). -/
def savingSettings (s : State) : Bool := s.loader.writes.any isSettingsJob

end Sys2Proof.Machine
end

