-- ==== Sys2Proof/Machine/Storage.lean ====
section
/-! DEFINITION. The settings loader (chapter 12) and what hangs on its writes in the calibration store (chapter 7):
writes in flight, their ends, and the load after a reset. -/

namespace Sys2Proof.Machine

/-! ### Calibration items (R128) -/

/-- A calibration with a new value in one item. -/
def setItem (x : CalItems) (item : CalItem) (v : Int) : CalItems :=
  match item with
  | .zeroOffset => { x with zeroOffset := v }
  | .span => { x with span := v.toNat }
  | .pitchZero => { x with pitchZero := v.toNat }
  | .rollZero => { x with rollZero := v.toNat }
  | .pitchEntry k => { x with pitchTable := x.pitchTable.set k.val v.toNat k.isLt }
  | .division b => { x with division := x.division.set b v.toNat }
  | .maximum b => { x with maximum := x.maximum.set b v.toNat }
  | .stabilityBand => { x with stabilityBand := v.toNat }
  | .driftLimit => { x with driftLimit := v.toNat }
  | .windowSize => { x with windowSize := v.toNat }

/-- Whether a value lies between two bounds. -/
def between (low high v : Int) : Bool := decide (low ≤ v) && decide (v ≤ high)

/-- The divisions a bank may have, in grams (R128). -/
def divisions : List Int := [100, 200, 500, 1000, 2000]

/-- Whether a value is within an item's range (R128, R131 check 3). The lower bound of a maximum, 100 times the
bank's division, is check 4. -/
def itemInRange (item : CalItem) (v : Int) : Bool :=
  match item with
  | .zeroOffset => between (-524288) 524287 v
  | .span => between 1 1048575 v
  | .pitchZero => between 0 4095 v
  | .rollZero => between 0 4095 v
  | .pitchEntry _ => between 58982 72090 v
  | .division _ => divisions.contains v
  | .maximum _ => between 0 1000000 v
  | .stabilityBand => between 1 65535 v
  | .driftLimit => between 100 50000 v
  | .windowSize => between 16 64 v

/-- Check 4 of R131: Max stays at least 100 times the division of its bank. -/
def divisionFits (x : CalItems) (item : CalItem) (v : Int) : Bool :=
  match item with
  | .maximum b => decide (100 * (x.division.get b : Int) ≤ v)
  | .division b => decide (100 * v ≤ (x.maximum.get b : Int))
  | _ => true

/-- s with a new calibration for a lifter. -/
def State.withCal (s : State) (l : Lifter) (x : LifterCal) : State :=
  s.withCalib { s.calib with cal := s.calib.cal.set l x }

/-- s with new writes in flight. -/
def State.withWrites (s : State) (v : List WriteJob) : State := s.withLoader { s.loader with writes := v }

/-- s with a new EEPROM. -/
def State.withEeprom (s : State) (v : Eeprom) : State := s.withLoader { s.loader with eeprom := v }

/-! ### The writes in flight (R211) -/

/-- The copy a commit takes of a lifter's items (R134): none for a COMMITTED part. -/
def commitCopy (x : LifterCal) : Option CalItems := if x.committed then none else some x.items

/-- A commit that begins takes its copies now, and forgets the writes taken before (R134). -/
def copyForCommit (s : State) : State :=
  match s.loader.writes with
  | .commit _ :: rest =>
    (s.withCalib
      { s.calib with
        cal :=
          { left := { s.calib.cal.left with takenSinceCommit := false }
            right := { s.calib.cal.right with takenSinceCommit := false } } }).withWrites
      (.commit ⟨commitCopy s.calib.cal.left, commitCopy s.calib.cal.right⟩ :: rest)
  | _ => s

/-- The time at which the write at the head begins (R211); none with no write in flight. -/
def headStart (q : List WriteJob) (now : Nat) : Timer := if q.isEmpty then none else some now

/-- Begins the write at the head (R211): its 5 ms run from now. -/
def beginHead (s : State) : State :=
  copyForCommit (s.withLoader { s.loader with writeStart := headStart s.loader.writes s.bodyTimer })

/-- A write handed to the settings loader (R211): it begins at once when no other is in flight. -/
def handWrite (j : WriteJob) (s : State) : State :=
  match s.loader.writes with
  | [] => beginHead (s.withWrites [j])
  | q => s.withWrites (q ++ [j])

/-- The write at the head has ended: the next one begins (R211). -/
def nextWrite (s : State) : State := beginHead (s.withWrites s.loader.writes.tail)

/-- What a part holds after a write of it that failed or was cut off, as a free value decides (R209, R211; log 7): a
part that fails its check, the part as it was, or the part as written. -/
def brokenPart {α : Type} (free : Nat) (old : Part α) (new : α) : Part α :=
  match free % 3 with
  | 0 => { old with good := false }
  | 1 => old
  | _ => ⟨new, true⟩

/-- A calibration part after a commit that failed or was cut off; a part that was not to be written stays. -/
def brokenCalPart (free : Nat) (old : Part CalItems) (copy : Option CalItems) : Part CalItems :=
  match copy with
  | some x => brokenPart free old x
  | none => old

/-- The EEPROM after the write at the head failed or was cut off (log 7). -/
def brokenEeprom (j : WriteJob) (free : Nat → Nat) (e : Eeprom) : Eeprom :=
  match j with
  | .counter _ _ _ _ n => { e with counter := brokenPart (free 0) e.counter n }
  | .commit copies =>
    { e with
      calibration :=
        { left := brokenCalPart (free 0) e.calibration.left copies.left
          right := brokenCalPart (free 1) e.calibration.right copies.right } }
  | .identity _ x => { e with identity := brokenPart (free 0) e.identity x }
  | .settings _ x => { e with settings := brokenPart (free 0) e.settings x }

/-- A write that failed or was cut off: two fresh free values decide what its parts hold (log 7). -/
def breakWrite (j : WriteJob) (s : State) : State :=
  (s.withEeprom (brokenEeprom j (fun k => Config.freeNat (s.freeIndex + k)) s.loader.eeprom)).withFreeIndex
    (s.freeIndex + 2)

/-! ### The ends of the writes -/

/-- The write whose end may come (R211): the one at the head, once it has lasted 5 ms (log 33). -/
def endingWrite (s : State) : Option WriteJob :=
  if expired s s.loader.writeStart writeMs then s.loader.writes.head? else none

/-- A Write Calibration is taken (R132): item, UNCOMMITTED mark, drift flag (R124). -/
def takeCalibration (l : Lifter) (item : CalItem) (v : Int) (s : State) : State :=
  (s.withCal l
    { s.calib.cal.get l with
      items := setItem (s.calib.cal.get l).items item v, committed := false, takenSinceCommit := true }).withDrift l
    ⟨false, 0, none⟩

/-- The counter becomes the value written, in the store and in the EEPROM (R132, R133). -/
def storeCounter (n : Nat) (s : State) : State :=
  (s.withCalib { s.calib with counter := n }).withEeprom { s.loader.eeprom with counter := ⟨n, true⟩ }

/-- The end of a counter write (R132). -/
def endCounterWrite (success : Bool) (p : Port) (l : Lifter) (item : CalItem) (v : Int) (n : Nat) (s : State) :
    State :=
  if success then
    if s.calib.sealSwitch.reading then answerPort p (.ok []) (takeCalibration l item v (storeCounter n s))
    else answerPort p .sealClosed (storeCounter n s)
  else answerPort p (.refused .storeFailed) s

/-- A part written by a commit that succeeded (R134). -/
def markCommitted (copy : Option CalItems) (x : LifterCal) : LifterCal :=
  if copy.isSome ∧ ¬ x.takenSinceCommit then { x with committed := true, valid := true } else x

/-- A part after a successful write. -/
def writtenPart (copy : Option CalItems) (old : Part CalItems) : Part CalItems :=
  match copy with
  | some x => ⟨x, true⟩
  | none => old

/-- A commit ends with success (R134). -/
def commitSucceeds (copies : PerLifter (Option CalItems)) (s : State) : State :=
  (s.withCalib
    { s.calib with
      cal :=
        { left := markCommitted copies.left s.calib.cal.left
          right := markCommitted copies.right s.calib.cal.right }
      lastCommit := some true }).withEeprom
    { s.loader.eeprom with
      calibration :=
        { left := writtenPart copies.left s.loader.eeprom.calibration.left
          right := writtenPart copies.right s.loader.eeprom.calibration.right } }

/-- A commit ends with failure (R134). -/
def commitFails (s : State) : State :=
  latchAll .calibrationInvalid (s.withCalib { s.calib with lastCommit := some false })

/-- Whether a lifter is UNCOMMITTED (R130, R134). -/
def someUncommitted (s : State) : Bool := !s.calib.cal.left.committed || !s.calib.cal.right.committed

/-- A commit owed at the end of a commit (R134): handed over when a lifter is UNCOMMITTED, else dropped. -/
def settleOwed (s : State) : State :=
  if s.calib.commitOwed then
    let s1 := s.withCalib { s.calib with commitOwed := false }
    if someUncommitted s1 then handWrite (.commit ⟨none, none⟩) s1 else s1
  else s

/-- The end of a commit (R134). -/
def endCommit (success : Bool) (copies : PerLifter (Option CalItems)) (s : State) : State :=
  settleOwed (if success then commitSucceeds copies s else commitFails s)

/-- The end of an identity write (R137). -/
def endIdentityWrite (success : Bool) (p : Port) (content : Vector (Option Byte) 16) (s : State) : State :=
  if success then
    answerPort p (.ok [])
      ((s.withCalib { s.calib with identity := content }).withEeprom
        { s.loader.eeprom with identity := ⟨content, true⟩ })
  else answerPort p (.refused .storeFailed) s

/-- The end of a settings write (R215). -/
def endSettingsWrite (success : Bool) (p : Port) (content : Settings) (s : State) : State :=
  if success then answerPort p (.ok []) (s.withEeprom { s.loader.eeprom with settings := ⟨content, true⟩ })
  else answerPort p (.refused .storeFailed) s

/-! ### The seal's closing (R130) -/

/-- OPEN to CLOSED (R130): a commit handed or owed when a lifter is UNCOMMITTED. -/
def sealCloses (s : State) : State :=
  if someUncommitted s then
    if s.loader.writes.any isCommitJob then s.withCalib { s.calib with commitOwed := true }
    else handWrite (.commit ⟨none, none⟩) s
  else s

/-! ### The load (R212) -/

/-- The settings block read (R212 order 1). -/
def loadSettings (ok : Bool) (s : State) : State :=
  if ok then applySettings s.loader.eeprom.settings.content s
  else latchAll .settingsFallback (applySettings defaultSettings s)

/-- A calibration part read (R129, R212 orders 2 and 3). -/
def loadCalibration (l : Lifter) (ok : Bool) (s : State) : State :=
  if ok then s.withCal l ⟨(s.loader.eeprom.calibration.get l).content, true, true, false⟩
  else latchAll .calibrationInvalid (s.withCal l ⟨defaultCalItems, false, true, false⟩)

/-- The identity block read (R212 order 4). -/
def loadIdentity (ok : Bool) (s : State) : State :=
  s.withCalib { s.calib with identity := if ok then s.loader.eeprom.identity.content else emptyIdentity }

/-- The counter block read (R133, R212 order 5). -/
def loadCounter (ok : Bool) (s : State) : State :=
  s.withCalib { s.calib with counter := if ok then s.loader.eeprom.counter.content else failedCounter }

/-- The part of the EEPROM a load reads next. -/
def State.withLoad (s : State) (x : LoadState) : State := s.withLoader { s.loader with load := x }

/-- A read of the part in turn ends (R210, R212): acknowledged or not, its outcome handed to its owner, the next part
in turn; after the counter block the body leaves STARTING. -/
def readPart (acknowledged : Bool) (s : State) : State :=
  match s.loader.load with
  | .reading .settings =>
    (loadSettings (acknowledged && s.loader.eeprom.settings.good) s).withLoad (.reading (.calibration .left))
  | .reading (.calibration .left) =>
    (loadCalibration .left (acknowledged && s.loader.eeprom.calibration.left.good) s).withLoad
      (.reading (.calibration .right))
  | .reading (.calibration .right) =>
    (loadCalibration .right (acknowledged && s.loader.eeprom.calibration.right.good) s).withLoad
      (.reading .identity)
  | .reading .identity =>
    (loadIdentity (acknowledged && s.loader.eeprom.identity.good) s).withLoad (.reading .counter)
  | .reading .counter =>
    leaveStarting (loadCounter (acknowledged && s.loader.eeprom.counter.good) s)
  | _ => s

end Sys2Proof.Machine
end

