-- ==== Sys2Proof/Machine/AccountRequests.lean ====
section
/-! DEFINITION. The ACCOUNTS and TARIFF classes (R149 to R153, R162, R163, R189). -/

namespace Sys2Proof.Machine

/-- The count of entries in two bytes (R216). -/
def countBytes (s : State) : List Byte := beBytes 2 s.tags.table.length

/-- The answer of a Read Account that found an entry (R151, R219). -/
def entryReply (i : Nat) (e : AccountEntry) (s : State) : Decision :=
  (s, some (.ok (entryBytes e ++ beBytes 2 i ++ countBytes s)))

/-- An answer NOT_FOUND with the count (R216). -/
def missingReply (s : State) : Decision := (s, some (.notFound (countBytes s)))

/-- Read Account by tag (R151, R186). -/
def readByTag (tag : Nat) (s : State) : Decision :=
  match lookupTag tag s with
  | (.found i e, s1) => entryReply i e s1
  | (.absent _, s1) => missingReply s1

/-- Read Account by index (R151, R187). -/
def readByIndex (i : Nat) (s : State) : Decision :=
  match readIndex i s with
  | (some e, s1) => entryReply i e s1
  | (none, s1) => missingReply s1

/-- Read Account (R151, R216): selector 0 by tag, 1 by index. -/
def decideReadAccount (d : List Byte) (s : State) : Decision :=
  match byteAt d 0 with
  | 0 =>
    match tagArg (beAt d 1 5) with
    | some tag => readByTag tag s
    | none => declined .badArgument s
  | 1 =>
    match within 0 4095 (beAt d 4 2) with
    | some i => readByIndex i s
    | none => declined .badArgument s
  | _ => declined .badArgument s

/-- READ_ACCOUNT. -/
def execReadAccount (p : Port) (number : Byte) (d : List Byte) (s : State) : Result :=
  .next (serve .readAccount p number d (decideReadAccount d) s)

/-- The table's answer to an entry put (R149, R186, R219): the mark 0 REPLACED or 1 INSERTED, and the count. -/
def putEntry (e : AccountEntry) (s : State) : Decision :=
  match lookupTag e.tag s with
  | (.found i _, s1) =>
    let s2 := writeEntry i e s1
    (s2, some (.ok (0 :: countBytes s2)))
  | (.absent i, s1) =>
    if s1.tags.table.length < tableCapacity then
      let s2 := insertEntry i e s1
      (s2, some (.ok (1 :: countBytes s2)))
    else (s1, some (.full (countBytes s1)))

/-- Put Account (R149). -/
def decidePutAccount (d : List Byte) (s : State) : Decision :=
  match entryArg d with
  | some e => putEntry e s
  | none => declined .badArgument s

/-- PUT_ACCOUNT. -/
def execPutAccount (p : Port) (number : Byte) (d : List Byte) (s : State) : Result :=
  .next (serve .putAccount p number d (decidePutAccount d) s)

/-- The removal of an entry by its tag (R150, R186). -/
def deleteEntry (tag : Nat) (s : State) : Decision :=
  match lookupTag tag s with
  | (.found i _, s1) =>
    let s2 := s1.withTable (s1.tags.table.eraseIdx i)
    (s2, some (.ok (countBytes s2)))
  | (.absent _, s1) => missingReply s1

/-- Delete Account (R150). -/
def decideDeleteAccount (d : List Byte) (s : State) : Decision :=
  match tagArg (beAt d 0 5) with
  | some tag => deleteEntry tag s
  | none => declined .badArgument s

/-- DELETE_ACCOUNT. -/
def execDeleteAccount (p : Port) (number : Byte) (d : List Byte) (s : State) : Result :=
  .next (serve .deleteAccount p number d (decideDeleteAccount d) s)

/-- Clear Accounts (R152). -/
def decideClearAccounts (s : State) : Decision :=
  if !s.lifterIdle .left || !s.lifterIdle .right then declined .busy s else taken (s.withTable [])

/-- CLEAR_ACCOUNTS. -/
def execClearAccounts (p : Port) (number : Byte) (d : List Byte) (s : State) : Result :=
  .next (serve .clearAccounts p number d decideClearAccounts s)

/-- Set Route Policy (R153): untagged, then unknown-tag. -/
def decideSetRoutePolicy (d : List Byte) (s : State) : Decision :=
  match firstMeansYes (byteAt d 0), firstMeansYes (byteAt d 1) with
  | some untagged, some unknown =>
    if savingSettings s then declined .busy s
    else taken (s.withTags { s.tags with untaggedAllow := untagged, unknownAllow := unknown })
  | _, _ => declined .badArgument s

/-- SET_ROUTE_POLICY. -/
def execSetRoutePolicy (p : Port) (number : Byte) (d : List Byte) (s : State) : Result :=
  .next (serve .setRoutePolicy p number d (decideSetRoutePolicy d) s)

/-- Clear Counters (R189): the two correction counters and the cross-read counter. -/
def decideClearCounters (s : State) : Decision :=
  taken ((s.withIntegrity ⟨0, 0⟩).withTags { s.tags with crossReads := 0 })

/-- CLEAR_COUNTERS. -/
def execClearCounters (p : Port) (number : Byte) (d : List Byte) (s : State) : Result :=
  .next (serve .clearCounters p number d decideClearCounters s)

/-- Read Tariff (R163, R219): the ten bytes and the exempt mark. -/
def decideReadTariff (d : List Byte) (s : State) : Decision :=
  match within 0 15 (byteAt d 0) with
  | some cls => declined (.ok (tariffBytes cls (tariffOf s cls) ++ yesNo (decide (cls = 0)))) s
  | none => declined .badArgument s

/-- READ_TARIFF. -/
def execReadTariff (p : Port) (number : Byte) (d : List Byte) (s : State) : Result :=
  .next (serve .readTariff p number d (decideReadTariff d) s)

/-- Put Tariff (R162). -/
def decidePutTariff (d : List Byte) (s : State) : Decision :=
  match tariffArg d with
  | some (cls, t) => taken (s.withTags { s.tags with tariffs := s.tags.tariffs.set cls.val t cls.isLt })
  | none => declined .badArgument s

/-- PUT_TARIFF. -/
def execPutTariff (p : Port) (number : Byte) (d : List Byte) (s : State) : Result :=
  .next (serve .putTariff p number d (decidePutTariff d) s)

end Sys2Proof.Machine
end

