-- ==== Sys2Proof/Machine/Resets.lean ====
section
/-! DEFINITION. The resets (R209): power-on reset and the external reset line (R31, R48, R64, R87, R105, R126, R139,
R159, R181, R191, R207), and the body reset (R30, R49, R65, R88, R106, R127, R140, R160, R182, R192, R208). -/

namespace Sys2Proof.Machine

/-! ### Power-on reset and the reset line -/

/-- A write in progress is cut off, and every write in flight is dropped (R209, R211). -/
def cutWrites (s : State) : State :=
  match s.loader.writes with
  | [] => s
  | j :: _ => (breakWrite j s).withWrites []

/-- Every block in its power-on state, the readings taken from the lines as they stand. The queue of waiting commands,
the lines and buttons, and the EEPROM are outside the reset (log 20, log 28). -/
def powerOnState (held : Bool) (load : LoadState) (s : State) : State :=
  let s1 := cutWrites s
  { State.reset with
    pending := s.pending
    freeIndex := s1.freeIndex
    resetHeld := held
    lifters :=
      { left := powerOnLifter defaultLifterSettings.left s.lifters.left.startPressed s.lifters.left.stopPressed
        right := powerOnLifter defaultLifterSettings.right s.lifters.right.startPressed s.lifters.right.stopPressed }
    body :=
      powerOnBody s.body.estop.line s.body.tailgate.line s.body.steps.left.line s.body.steps.right.line
    calib := powerOnCalStore s.calib.sealSwitch.line
    loader := ⟨[], none, load, s1.loader.eeprom⟩ }

/-- POWER_ON_RESET (R209): the power-on load begins at its end, unless the reset line holds the B40. -/
def execPowerOnReset (s : State) : Result :=
  .next (powerOnState s.resetHeld (if s.resetHeld then .none else .reading .settings) s)

/-- RESET_LINE_ASSERT (R209): every block is held in its power-on state; a load in progress is abandoned. -/
def execResetLineAssert (s : State) : Result := .next (powerOnState true .none s)

/-- RESET_LINE_RELEASE (R209, R212): the readings taken afresh, the power-on load begins. -/
def execResetLineRelease (s : State) : Result :=
  .next (if s.resetHeld then powerOnState false (.reading .settings) s else s)

/-- LOAD_PART_READ (R212). -/
def execLoadPartRead (acknowledged : Bool) (s : State) : Result :=
  .next (if s.resetHeld then s else readPart acknowledged s)

/-! ### Body reset -/

/-- A compaction controller after a body reset (R88). -/
def resetPacker (k : Packer) : Packer :=
  { stopPacker k with state := .idle, pending := 0, stopRequested := false }

/-- The body supervisor after a body reset (R49). -/
def resetBody (b : Body) : Body :=
  { b with
    state := .starting
    vehicle := none
    lastAccepted := none
    fresh := false
    clockSeconds := 0
    clockMillis := 0 }

/-- The sensor scan unit after a body reset (R106): scanning restarts at once. -/
def resetScan (sc : Scan) (now : Nat) : Scan :=
  beginScanning { sc with pass := 0, buffers := ⟨.empty, .empty⟩, pointer := .left } now

/-- A drift monitor after a body reset (R127): the disabled flag is kept. -/
def resetDrift (d : DriftMonitor) : DriftMonitor := { d with count := 0, lastCheck := none }

/-- The weigh engine after a body reset (R127). -/
def resetWeigh (w : Weigh) : Weigh :=
  { w with queue := [], computation := none, drift := ⟨resetDrift w.drift.left, resetDrift w.drift.right⟩ }

/-- The two lifters' valves off and their pending tags gone (R30, R160). -/
def resetLifters (s : State) : State :=
  ((s.withValves .left false false).withValves .right false false).withTags
    { s.tags with pendingTags := ⟨none, none⟩ }

/-- A port after the clearing of its latched set and the latching of BODY_RESET (R208). -/
def resetPort (x : PortState) : PortState := (x.setLatched 0).latch .bodyReset

/-- The ports after a body reset (R208). -/
def resetPorts (p : PerPort PortState) : PerPort PortState := ⟨resetPort p.cab, resetPort p.route, resetPort p.chassis⟩

/-- Step 2 of R209: every block's body-reset state, the lift contexts already ended. -/
def resetBlocks (s : State) : State :=
  let s1 := resetLifters s
  let s2 := (s1.withBody (resetBody s1.body)).withFlow resetFlow
  let s3 := s2.withPackers ⟨resetPacker s2.packers.residual, resetPacker s2.packers.recycle⟩
  evaluateInhibit ((s3.withScan (resetScan s3.scan s3.bodyTimer)).withWeigh (resetWeigh s3.weigh))

/-- A body reset (R209): the lifts in flight ended, LEFT first, the blocks reset, the latches cleared and BODY_RESET
latched, the body-reset pass begun. -/
def bodyResetState (s : State) : State :=
  let s1 := resetBlocks (resetLift .right (resetLift .left s))
  (s1.withPorts (resetPorts s1.ports)).withLoad (.pass s1.bodyTimer)

/-- The body-reset pass's timer (R213). -/
def passTimer (x : Loader) : Timer :=
  match x.load with
  | .pass since => some since
  | _ => none

/-- BODY_RESET_PASS_END (R213); without a pass, or before its 20 ms, it has no effect (log 3). -/
def execBodyResetPassEnd (s : State) : Result :=
  .next (if ¬ s.resetHeld ∧ expired s (passTimer s.loader) bodyResetPassMs then leaveStarting s else s)

end Sys2Proof.Machine
end

