-- ==== Sys2Proof/Machine/BodyRequests.lean ====
section
/-! DEFINITION. The BODY class (R36, R209, R215) and Vehicle Data (R41). -/

namespace Sys2Proof.Machine

/-- Resume Body (R36); while STARTING the port has answered. -/
def decideResumeBody (s : State) : Decision :=
  if s.body.state = .halted then
    if s.body.estop.reading then declined (.refused .estopActive) s else taken (resumeBodyTaken s)
  else taken s

/-- RESUME_BODY. -/
def execResumeBody (p : Port) (number : Byte) (d : List Byte) (s : State) : Result :=
  .next (serve .resumeBody p number d decideResumeBody s)

/-- Body Reset (R209). -/
def decideBodyReset (s : State) : Decision := taken (bodyResetState s)

/-- BODY_RESET. -/
def execBodyReset (p : Port) (number : Byte) (d : List Byte) (s : State) : Result :=
  .next (serve .bodyReset p number d decideBodyReset s)

/-- The three checks of Save Settings (R215): all of them answer BUSY. -/
def mayNotSave (s : State) : Bool :=
  !s.lifterIdle .left || !s.lifterIdle .right || decide (s.packers.residual.state ≠ .idle)
    || decide (s.packers.recycle.state ≠ .idle) || savingSettings s

/-- Save Settings (R215): accepted, its answer follows the end of the write. -/
def decideSaveSettings (p : Port) (s : State) : Decision :=
  if mayNotSave s then declined .busy s else (handWrite (.settings p (currentSettings s)) s, none)

/-- SAVE_SETTINGS. -/
def execSaveSettings (p : Port) (number : Byte) (d : List Byte) (s : State) : Result :=
  .next (serve .saveSettings p number d (decideSaveSettings p) s)

/-- The fields a Vehicle Data carries (R41, R219), when each is within its range or set. -/
def vehicleArg (d : List Byte) : Option VehicleData :=
  match within 0 2550 (beAt d 0 2), engineArg (byteAt d 2), firstMeansYes (byteAt d 3), firstMeansYes (byteAt d 4) with
  | some speed, some engine, some park, some reverse =>
    some ⟨speed, engine, park, reverse, beAt d 5 4, beAt d 9 3⟩
  | _, _, _, _ => none

/-- Vehicle Data (R41). -/
def decideVehicleData (d : List Byte) (s : State) : Decision :=
  match vehicleArg d with
  | some v => taken (acceptVehicle v s)
  | none => declined .badArgument s

/-- VEHICLE_DATA. -/
def execVehicleData (p : Port) (number : Byte) (d : List Byte) (s : State) : Result :=
  .next (serve .vehicleData p number d (decideVehicleData d) s)

/-- SETTINGS_WRITE_END (R215): the end of the write in progress, when that is a settings write. -/
def execSettingsWriteEnd (success : Bool) (s : State) : Result :=
  .next
    (match endingWrite s with
    | some (.settings p x) =>
      nextWrite (endSettingsWrite success p x (if success then s else breakWrite (.settings p x) s))
    | _ => s)

end Sys2Proof.Machine
end

