-- ==== Sys2Proof/Machine/CalibrationRequests.lean ====
section
/-! DEFINITION. The CALIBRATION and IDENTITY classes (chapter 7) and the ends of their EEPROM writes. -/

namespace Sys2Proof.Machine

/-! ### Reading -/

/-- The twenty items in the order of R216, each in the bytes its range needs (R217). -/
def itemsBytes (x : CalItems) : List Byte :=
  signedBytes 3 x.zeroOffset ++ beBytes 3 x.span ++ beBytes 2 x.pitchZero ++ beBytes 2 x.rollZero
    ++ x.pitchTable.toList.flatMap (beBytes 3)
    ++ beBytes 2 x.division.twoWheel ++ beBytes 2 x.division.fourWheel
    ++ beBytes 3 x.maximum.twoWheel ++ beBytes 3 x.maximum.fourWheel
    ++ beBytes 2 x.stabilityBand ++ beBytes 2 x.driftLimit ++ oneByte x.windowSize

/-- Whether a counter write or a commit is handed over or in progress (R136). -/
def calibrationWriteInFlight (s : State) : Bool :=
  s.loader.writes.any fun j => isCounterJob j || isCommitJob j

/-- The data of Read Calibration (R136). -/
def calibrationBytes (l : Lifter) (s : State) : List Byte :=
  let x := s.calib.cal.get l
  itemsBytes x.items ++ firstYes x.valid ++ firstYes x.committed ++ firstYes (!s.calib.sealSwitch.reading)
    ++ yesNo (calibrationWriteInFlight s) ++ yesNo s.calib.commitOwed
    ++ optionalField 1 firstYes s.calib.lastCommit ++ beBytes 2 s.calib.counter

/-- Read Calibration (R136). -/
def decideReadCalibration (d : List Byte) (s : State) : Decision :=
  match lifterArg (byteAt d 0) with
  | some l => declined (.ok (calibrationBytes l s)) s
  | none => declined .badArgument s

/-- READ_CALIBRATION. -/
def execReadCalibration (p : Port) (number : Byte) (d : List Byte) (s : State) : Result :=
  .next (serve .readCalibration p number d (decideReadCalibration d) s)

/-- Read Counter (R133). -/
def decideReadCounter (s : State) : Decision := declined (.ok (beBytes 2 s.calib.counter)) s

/-- READ_COUNTER. -/
def execReadCounter (p : Port) (number : Byte) (d : List Byte) (s : State) : Result :=
  .next (serve .readCounter p number d decideReadCounter s)

/-- The data of Read Identity (R138). -/
def identityBytes (s : State) : List Byte :=
  s.calib.identity.toList.flatMap (optionalField 1 fun c => [c]) ++ yesNo (identityComplete s)

/-- Read Identity (R138). -/
def decideReadIdentity (s : State) : Decision := declined (.ok (identityBytes s)) s

/-- READ_IDENTITY. -/
def execReadIdentity (p : Port) (number : Byte) (d : List Byte) (s : State) : Result :=
  .next (serve .readIdentity p number d decideReadIdentity s)

/-! ### Write Calibration -/

/-- A Write Calibration that meets a closed seal (R131 check 1): SEAL_VIOLATION is set. -/
def refuseSealed (s : State) : Decision := (latchAll .sealViolation s, some .sealClosed)

/-- Checks 3 to 5 of Write Calibration and its acceptance (R131, R132): the counter write is handed over. -/
def writeItem (p : Port) (l : Lifter) (item : CalItem) (v : Int) (s : State) : Decision :=
  if !itemInRange item v then declined .badArgument s
  else if !divisionFits (s.calib.cal.get l).items item v then declined .badArgument s
  else if s.loader.writes.any isCounterJob then declined .busy s
  else (handWrite (.counter p l item v (saturatingSucc top16 s.calib.counter)) s, none)

/-- Write Calibration (R131). -/
def decideWriteCalibration (p : Port) (d : List Byte) (s : State) : Decision :=
  if !s.calib.sealSwitch.reading then refuseSealed s
  else
    match lifterArg (byteAt d 0), itemArg (byteAt d 1) with
    | some l, some item => writeItem p l item (signedAt d 2 3) s
    | _, _ => declined .badArgument s

/-- WRITE_CALIBRATION. -/
def execWriteCalibration (p : Port) (number : Byte) (d : List Byte) (s : State) : Result :=
  .next (serve .writeCalibration p number d (decideWriteCalibration p d) s)

/-! ### Write Identity -/

/-- Whether a character may be written (R137 check 2). -/
def identityChar (c : Byte) : Bool := decide (0x20 ≤ c.toNat) && decide (c.toNat ≤ 0x7E)

/-- The identity with characters written from a position on. -/
def addCharacters (x : Vector (Option Byte) 16) (first : Nat) (chars : List Byte) : Vector (Option Byte) 16 :=
  Vector.ofFn fun i =>
    if first ≤ i.val ∧ i.val < first + chars.length then chars[i.val - first]? else x.get i

/-- Whether a named position already holds a written character (R137 check 3). -/
def alreadyWritten (x : Vector (Option Byte) 16) (first n : Nat) : Bool :=
  ((x.toList.drop first).take n).any Option.isSome

/-- Write Identity (R137). -/
def decideWriteIdentity (p : Port) (d : List Byte) (s : State) : Decision :=
  let first := byteAt d 0
  let chars := d.drop 1
  if 16 < first + chars.length then declined .badArgument s
  else if !chars.all identityChar then declined .badArgument s
  else if alreadyWritten s.calib.identity first chars.length then declined .locked s
  else if s.loader.writes.any isIdentityJob then declined .busy s
  else (handWrite (.identity p (addCharacters s.calib.identity first chars)) s, none)

/-- WRITE_IDENTITY. -/
def execWriteIdentity (p : Port) (number : Byte) (d : List Byte) (s : State) : Result :=
  .next (serve .writeIdentity p number d (decideWriteIdentity p d) s)

/-! ### The ends of the writes -/

/-- COUNTER_WRITE_END (R132): the end of the write in progress, when that is a counter write. -/
def execCounterWriteEnd (success : Bool) (s : State) : Result :=
  .next
    (match endingWrite s with
    | some (.counter p l item v n) =>
      nextWrite
        (endCounterWrite success p l item v n (if success then s else breakWrite (.counter p l item v n) s))
    | _ => s)

/-- COMMIT_END (R134): the end of the write in progress, when that is a commit. -/
def execCommitEnd (success : Bool) (s : State) : Result :=
  .next
    (match endingWrite s with
    | some (.commit copies) =>
      nextWrite (endCommit success copies (if success then s else breakWrite (.commit copies) s))
    | _ => s)

/-- IDENTITY_WRITE_END (R137): the end of the write in progress, when that is an identity write. -/
def execIdentityWriteEnd (success : Bool) (s : State) : Result :=
  .next
    (match endingWrite s with
    | some (.identity p x) =>
      nextWrite (endIdentityWrite success p x (if success then s else breakWrite (.identity p x) s))
    | _ => s)

end Sys2Proof.Machine
end

