-- ==== Sys2Proof/Machine/EventRequests.lean ====
section
/-! DEFINITION. The EVENTS, SCAN and MAP classes (R97, R104, R200, R201, R203, R204). -/

namespace Sys2Proof.Machine

/-! ### Events (R203, R204) -/

/-- An event set in four bytes (R217). -/
def eventSetBytes (x : EventSet) : List Byte := beBytes 4 x.toNat

/-- The data of Read Events (R203). -/
def readEventsBytes (x : PortState) : List Byte :=
  eventSetBytes x.latched ++ eventSetBytes x.mask ++ yesNo x.attention

/-- Read Events (R203). -/
def decideReadEvents (p : Port) (s : State) : Decision := declined (.ok (readEventsBytes (s.port p))) s

/-- READ_EVENTS. -/
def execReadEvents (p : Port) (number : Byte) (d : List Byte) (s : State) : Result :=
  .next (serve .readEvents p number d (decideReadEvents p) s)

/-- A port after a Clear Events (R203). -/
def clearLatches (x : PortState) (named : EventSet) : PortState := x.setLatched (x.latched &&& ~~~named)

/-- Clear Events (R203). -/
def decideClearEvents (p : Port) (d : List Byte) (s : State) : Decision :=
  match eventSetArg (beAt d 0 4) with
  | some named =>
    let x := clearLatches (s.port p) named
    (s.withPort p x, some (.ok (eventSetBytes x.latched)))
  | none => declined .badArgument s

/-- CLEAR_EVENTS. -/
def execClearEvents (p : Port) (number : Byte) (d : List Byte) (s : State) : Result :=
  .next (serve .clearEvents p number d (decideClearEvents p d) s)

/-- Set Event Mask (R204). -/
def decideSetEventMask (p : Port) (d : List Byte) (s : State) : Decision :=
  match eventSetArg (beAt d 0 4) with
  | some mask =>
    if savingSettings s then declined .busy s else taken (s.withPort p ((s.port p).setMask mask))
  | none => declined .badArgument s

/-- SET_EVENT_MASK. -/
def execSetEventMask (p : Port) (number : Byte) (d : List Byte) (s : State) : Result :=
  .next (serve .setEventMask p number d (decideSetEventMask p d) s)

/-! ### Scan (R97, R104) -/

/-- The slot's value in three signed bytes and its pass number in two (R217). -/
def slotResultBytes (x : SlotResult) : List Byte := signedBytes 3 x.value ++ beBytes 2 x.pass

/-- One channel's part of Scan Status (R217). -/
def channelBytes (sc : Scan) (ch : Fin 12) : List Byte :=
  yesNo (inRing sc ch) ++ optionalField 5 slotResultBytes (sc.slots.get ch).result
    ++ firstYes (sc.slots.get ch).fresh

/-- A buffer's window size N, 0 for an EMPTY buffer (R217). -/
def bufferSize : Buffer → Nat
  | .empty => 0
  | .filling n _ => n
  | .held n _ _ => n

/-- A buffer's sample count, 0 for an EMPTY buffer (R217). -/
def bufferCount : Buffer → Nat
  | .empty => 0
  | .filling _ x => x.length
  | .held _ x _ => x.length

/-- One lifter's part of Scan Status (R217). -/
def bufferBytes (b : Buffer) : List Byte :=
  oneByte (bufferCode b) ++ oneByte (bufferSize b) ++ oneByte (bufferCount b)

/-- The twelve channels in their order. -/
def allChannels : List (Fin 12) := [0, 1, 2, 3, 4, 5, 6, 7, 8, 9, 10, 11]

/-- The data of Scan Status (R104, R217). -/
def scanStatusBytes (sc : Scan) : List Byte :=
  oneByte sc.ringStart.val ++ oneByte sc.ringEnd.val ++ beBytes 2 sc.pass
    ++ allChannels.flatMap (channelBytes sc) ++ bufferBytes sc.buffers.left ++ bufferBytes sc.buffers.right
    ++ oneByte (lifterCode sc.pointer)

/-- Scan Status (R104). -/
def decideScanStatus (s : State) : Decision := declined (.ok (scanStatusBytes s.scan)) s

/-- SCAN_STATUS. -/
def execScanStatus (p : Port) (number : Byte) (d : List Byte) (s : State) : Result :=
  .next (serve .scanStatus p number d decideScanStatus s)

/-- Whether Set Scan Ring is answered BUSY (R97). -/
def ringBusy (s : State) : Bool :=
  savingSettings s || !s.lifterIdle .left || !s.lifterIdle .right
    || decide (s.packers.residual.state ≠ .idle) || decide (s.packers.recycle.state ≠ .idle)

/-- Set Scan Ring (R97). -/
def decideSetScanRing (d : List Byte) (s : State) : Decision :=
  match channelArg (byteAt d 0), channelArg (byteAt d 1) with
  | some start, some stop => if ringBusy s then declined .busy s else taken (replaceRing start stop s)
  | _, _ => declined .badArgument s

/-- SET_SCAN_RING. -/
def execSetScanRing (p : Port) (number : Byte) (d : List Byte) (s : State) : Result :=
  .next (serve .setScanRing p number d (decideSetScanRing d) s)

/-! ### The access map (R200, R201) -/

/-- One port's rights, both of each class (R200; log 12). -/
def portRightsBytes (x : Vector Rights 14) : List Byte :=
  x.toList.flatMap fun r => firstYes r.read ++ firstYes r.write

/-- The data of Read Access (R200). -/
def accessBytes (a : Access) : List Byte :=
  portRightsBytes a.map.cab ++ portRightsBytes a.map.route ++ portRightsBytes a.map.chassis ++ firstYes a.locked

/-- Read Access (R200). -/
def decideReadAccess (s : State) : Decision := declined (.ok (accessBytes s.access)) s

/-- READ_ACCESS. -/
def execReadAccess (p : Port) (number : Byte) (d : List Byte) (s : State) : Result :=
  .next (serve .readAccess p number d decideReadAccess s)

/-- The map with the rights of one entry replaced (R200). -/
def replaceRights (m : AccessMap) (p : Port) (c : Fin 14) (r : Rights) : AccessMap :=
  m.set p ((m.get p).set c.val r c.isLt)

/-- The entry and the rights a Set Access names (R200 check 2). -/
def rightsArg (d : List Byte) : Option (Port × Fin 14 × Rights) :=
  match portArg (byteAt d 0), classArg (byteAt d 1), firstMeansYes (byteAt d 2), firstMeansYes (byteAt d 3) with
  | some p, some c, some r, some w => some (p, c, ⟨r, w⟩)
  | _, _, _, _ => none

/-- Set Access (R200). -/
def decideSetAccess (d : List Byte) (s : State) : Decision :=
  if s.access.locked then declined .locked s
  else
    match rightsArg d with
    | some (q, c, r) =>
      if savingSettings s then declined .busy s
      else taken (s.withAccess { s.access with map := replaceRights s.access.map q c r })
    | none => declined .badArgument s

/-- SET_ACCESS. -/
def execSetAccess (p : Port) (number : Byte) (d : List Byte) (s : State) : Result :=
  .next (serve .setAccess p number d (decideSetAccess d) s)

/-- Lock Map (R201). -/
def decideLockMap (s : State) : Decision :=
  if s.access.locked then declined .locked s else taken (s.withAccess { s.access with locked := true })

/-- LOCK_MAP. -/
def execLockMap (p : Port) (number : Byte) (d : List Byte) (s : State) : Result :=
  .next (serve .lockMap p number d decideLockMap s)

end Sys2Proof.Machine
end

