-- ==== Sys2Proof/Machine/Inputs.lean ====
section
/-! DEFINITION. The direct lines: the five settling inputs (R33 to R39, R130), the rear hand controls (R25, R26) and
the tag readers (R141 to R145). -/

namespace Sys2Proof.Machine

/-! ### Settling lines (R33) -/

/-- A line that changes its level (R33; log 4): while it differs from the reading, the 10 ms run afresh from each
change. -/
def changeLine (level : Bool) (now : Nat) (x : Debounced) : Debounced :=
  if x.line = level then x
  else { x with line := level, settling := if level = x.reading then none else some now }

/-- Whether a reading becomes a level now (R33): its line stands at that level, opposite to the reading, and has held
it for 10 ms. -/
def readingDue (level : Bool) (s : State) (x : Debounced) : Bool :=
  x.line == level && x.reading != level && expired s x.settling settlingMs

/-- Whether a reading's change to a level is taken (R33): it is due, and the reset line does not hold the block (log
4, log 20). -/
def readingChanges (level : Bool) (s : State) (x : Debounced) : Bool := !s.resetHeld && readingDue level s x

/-- A line's new level, held under the reset line: the reading follows at once (R33; log 20). -/
def lineUpdate (s : State) (level : Bool) (x : Debounced) : Debounced :=
  if s.resetHeld then settled level else changeLine level s.bodyTimer x

/-- INPUT_LINE_CHANGE (R33, R130). -/
def execInputLineChange (change : LineChange) (s : State) : Result :=
  .next
    (match change with
    | .estop active => s.withBody { s.body with estop := lineUpdate s active s.body.estop }
    | .tailgate closed =>
      evaluateInhibit (s.withBody { s.body with tailgate := lineUpdate s closed s.body.tailgate })
    | .step l occupied =>
      s.withBody { s.body with steps := s.body.steps.set l (lineUpdate s occupied (s.body.steps.get l)) }
    | .sealSwitch opened =>
      s.withCalib { s.calib with sealSwitch := lineUpdate s opened s.calib.sealSwitch })

/-- ESTOP_READING_ACTIVE (R33, R34, R35). -/
def execEstopReadingActive (s : State) : Result :=
  .next
    (if readingChanges true s s.body.estop then
      let s1 := s.withBody { s.body with estop := settled true }
      if s.body.state = .running then enterHalted s1 else s1
    else s)

/-- ESTOP_READING_RELEASED (R33, R35). -/
def execEstopReadingReleased (s : State) : Result :=
  .next
    (if readingChanges false s s.body.estop then s.withBody { s.body with estop := settled false } else s)

/-- TAILGATE_READING_NOT_CLOSED (R33, R37). -/
def execTailgateReadingNotClosed (s : State) : Result :=
  .next
    (if readingChanges false s s.body.tailgate then
      let s1 := holdBoth .tailgate (s.withBody { s.body with tailgate := settled false })
      evaluateInhibit (holdPacker .recycle false (holdPacker .residual false s1))
    else s)

/-- TAILGATE_READING_CLOSED (R33, R37, R38, R69). -/
def execTailgateReadingClosed (s : State) : Result :=
  .next
    (if readingChanges true s s.body.tailgate then
      let s1 := s.withBody { s.body with tailgate := settled true, tailgateCycled := ⟨true, true⟩ }
      evaluateInhibit (startPackers s1)
    else s)

/-- STEP_READING_OCCUPIED (R33, R39). -/
def execStepReadingOccupied (l : Lifter) (s : State) : Result :=
  .next
    (if readingChanges true s (s.body.steps.get l) then
      holdLifter l .step (s.withBody { s.body with steps := s.body.steps.set l (settled true) })
    else s)

/-- STEP_READING_FREE (R33, R39). -/
def execStepReadingFree (l : Lifter) (s : State) : Result :=
  .next
    (if readingChanges false s (s.body.steps.get l) then
      s.withBody { s.body with steps := s.body.steps.set l (settled false) }
    else s)

/-- SEAL_READING_OPEN (R130). -/
def execSealReadingOpen (s : State) : Result :=
  .next
    (if readingChanges true s s.calib.sealSwitch then
      latchAll .sealOpened (s.withCalib { s.calib with sealSwitch := settled true })
    else s)

/-- SEAL_READING_CLOSED (R130). -/
def execSealReadingClosed (s : State) : Result :=
  .next
    (if readingChanges false s s.calib.sealSwitch then
      sealCloses (s.withCalib { s.calib with sealSwitch := settled false })
    else s)

/-! ### Rear hand controls (R25, R26) -/

/-- A resume asked for by a rear start press (R26): a refused one changes nothing. -/
def resumeFromRear (l : Lifter) (s : State) : State :=
  match resumeLifter l s with
  | .taken s1 => s1
  | _ => s

/-- A rear start press taken (R26): a start in IDLE, a resume in HELD, ignored elsewhere. -/
def startPress (l : Lifter) (s : State) : State :=
  match s.phase l with
  | none => (startLifter l none .rear s).2
  | some .held => resumeFromRear l s
  | some _ => s

/-- REAR_START_PRESS (R26). A press of a button that is already pressed is none (log 23). -/
def execRearStartPress (l : Lifter) (s : State) : Result :=
  .next
    (if (s.lifter l).startPressed then s
    else
      let s1 := s.withLifter l { s.lifter l with startPressed := true }
      if s.resetHeld ∨ (s.lifter l).stopPressed then s1 else startPress l s1)

/-- REAR_STOP_PRESS (R25, R26). -/
def execRearStopPress (l : Lifter) (s : State) : Result :=
  .next
    (if (s.lifter l).stopPressed then s
    else
      let s1 := s.withLifter l { s.lifter l with stopPressed := true }
      if s.resetHeld then s1 else holdLifter l .operator s1)

/-- REAR_BUTTON_RELEASE (R26). -/
def execRearButtonRelease (l : Lifter) (b : RearButton) (s : State) : Result :=
  .next
    (match b with
    | .start => s.withLifter l { s.lifter l with startPressed := false }
    | .stop => s.withLifter l { s.lifter l with stopPressed := false })

/-! ### Tag reads (R141, R143) -/

/-- Whether a tag is bound to a lifter's context (R155). -/
def bindsTag (s : State) (tag : Nat) (l : Lifter) : Bool := ((s.context l).bind LiftContext.tag) == some tag

/-- The disposition of a read (R141). -/
def dispositionOf (s : State) (checksumOk : Bool) (tag quality : Nat) : Disposition :=
  if !checksumOk || decide (tag = 0) then .invalid
  else if s.body.state = .starting then .starting
  else if quality < s.tags.threshold then .lowQuality
  else if bindsTag s tag .left || bindsTag s tag .right then .bound
  else .accepted

/-- Whether a tag is pending on a lifter. -/
def isPending (x : TagUnit) (tag : Nat) (l : Lifter) : Bool :=
  match x.pendingTags.get l with
  | some t => decide (t.tag = tag)
  | none => false

/-- An accepted read (R143): taken from the other lifter's slot, then into this lifter's. -/
def acceptTag (l : Lifter) (tag quality now : Nat) (x : TagUnit) : TagUnit :=
  let crossed := isPending x tag (otherLifter l)
  let others := if crossed then x.pendingTags.set (otherLifter l) none else x.pendingTags
  { x with
    pendingTags := others.set l (some ⟨tag, quality, now⟩)
    crossReads := if crossed then saturatingSucc top16 x.crossReads else x.crossReads }

/-- What the last read shows of a frame: no tag and no quality after a checksum failure (R141). -/
def shownRead (checksumOk : Bool) (tag quality : Nat) : Option (Nat × Nat) :=
  if checksumOk then some (tag, quality) else none

/-- A read taken by the unit (R141, R143). -/
def takeRead (l : Lifter) (checksumOk : Bool) (tag quality : Nat) (s : State) : State :=
  let disposition := dispositionOf s checksumOk tag quality
  let x := { s.tags with
    lastReads := s.tags.lastReads.set l (some ⟨disposition, shownRead checksumOk tag quality, s.bodyTimer⟩) }
  s.withTags (if disposition = .accepted then acceptTag l tag quality s.bodyTimer x else x)

/-- TAG_READ (R141). -/
def execTagRead (l : Lifter) (checksumOk : Bool) (tag : BitVec 40) (quality : BitVec 4) (s : State) : Result :=
  .next (if s.resetHeld then s else takeRead l checksumOk tag.toNat quality.toNat s)

end Sys2Proof.Machine
end

