-- ==== Sys2Proof/Machine/JournalRequests.lean ====
section
/-! DEFINITION. The JOURNAL_READ and JOURNAL_ACK classes (R176 to R180). -/

namespace Sys2Proof.Machine

/-- The number of records one answer holds (R218). -/
def answerRecords : Nat := 2

/-- The index of the first record delivered (R177), none when none is. -/
def firstDelivered (j : Journal) (n : Nat) : Option Nat :=
  match classify j n with
  | .held i => some i
  | .older => if j.slots = [] then none else some 0
  | .newer => none

/-- The records a Read Journal delivers (R177), and the state the reads leave. -/
def journalRead (n count : Nat) (s : State) : List Delivery × State :=
  match firstDelivered s.journal n with
  | some i => deliverFrom (min count answerRecords) i s
  | none => ([], s)

/-- Read Journal (R177, R218). -/
def decideReadJournal (d : List Byte) (s : State) : Decision :=
  match within 1 sequenceCount (beAt d 0 4), within 1 8 (byteAt d 4) with
  | some n, some count =>
    let r := journalRead n count s
    (r.2, some (.ok (optionalField 4 (beBytes 4) (newestSeq s.journal) ++ listField deliveryBytes r.1)))
  | _, _ => declined .badArgument s

/-- READ_JOURNAL. -/
def execReadJournal (p : Port) (number : Byte) (d : List Byte) (s : State) : Result :=
  .next (serve .readJournal p number d (decideReadJournal d) s)

/-- The lifters that hold a reservation (R180): LEFT before RIGHT, whichever was made first (log 44). -/
def reservedLifters (j : Journal) : List Lifter :=
  (if j.reservations.left then [.left] else []) ++ (if j.reservations.right then [.right] else [])

/-- The data of Journal Status (R180). The oldest and the newest sequence are two optional fields, each with its own
presence byte (log 13), and the reservations are listed LEFT before RIGHT (log 44). -/
def journalStatusBytes (j : Journal) : List Byte :=
  optionalField 4 (beBytes 4) (oldestSeq j) ++ optionalField 4 (beBytes 4) (newestSeq j)
    ++ beBytes 2 j.slots.length ++ listField (fun l => oneByte (lifterCode l)) (reservedLifters j)
    ++ beBytes 2 (journalCount j) ++ beBytes 2 (journalSlots - journalCount j) ++ beBytes 4 j.nextSequence

/-- Journal Status (R180). -/
def decideJournalStatus (s : State) : Decision := declined (.ok (journalStatusBytes s.journal)) s

/-- JOURNAL_STATUS. -/
def execJournalStatus (p : Port) (number : Byte) (d : List Byte) (s : State) : Result :=
  .next (serve .journalStatus p number d decideJournalStatus s)

/-- Acknowledge Journal for a sequence that is not 0 (R178): the answer gives the number removed. -/
def acknowledge (n : Nat) (s : State) : Decision :=
  match classify s.journal n with
  | .held i => (s.withSlots (s.journal.slots.drop (i + 1)), some (.ok (beBytes 2 (i + 1))))
  | .older => declined (.ok (beBytes 2 0)) s
  | .newer => declined .badArgument s

/-- Acknowledge Journal (R176, R178). -/
def decideAcknowledgeJournal (d : List Byte) (s : State) : Decision :=
  match within 1 sequenceCount (beAt d 0 4) with
  | some n => acknowledge n s
  | none => declined .badArgument s

/-- ACKNOWLEDGE_JOURNAL. -/
def execAcknowledgeJournal (p : Port) (number : Byte) (d : List Byte) (s : State) : Result :=
  .next (serve .acknowledgeJournal p number d (decideAcknowledgeJournal d) s)

end Sys2Proof.Machine
end

