-- ==== Sys2Proof/Machine/LiftRequests.lean ====
section
/-! DEFINITION. The LIFT class (chapter 1, with Set Tag Threshold of R142): what each request decides, and the meaning
of each command. Arguments are tested before the state (log 14). -/

namespace Sys2Proof.Machine

/-- Start Lift (R3 to R7). -/
def decideStartLift (p : Port) (d : List Byte) (s : State) : Decision :=
  match lifterArg (byteAt d 0), optionalStreamArg (byteAt d 1) (byteAt d 2) with
  | some l, some arg =>
    if s.lifterIdle l then
      match startLifter l arg (.port p) s with
      | (some r, s1) => (s1, some (.refused r))
      | (none, s1) => taken s1
    else declined .busy s
  | _, _ => declined .badArgument s

/-- START_LIFT. -/
def execStartLift (p : Port) (number : Byte) (d : List Byte) (s : State) : Result :=
  .next (serve .startLift p number d (decideStartLift p d) s)

/-- Stop Lift (R25). -/
def decideStopLift (d : List Byte) (s : State) : Decision :=
  match lifterArg (byteAt d 0) with
  | some l => taken (holdLifter l .operator s)
  | none => declined .badArgument s

/-- STOP_LIFT. -/
def execStopLift (p : Port) (number : Byte) (d : List Byte) (s : State) : Result :=
  .next (serve .stopLift p number d (decideStopLift d) s)

/-- Resume Lift (R21, R24). -/
def decideResumeLift (d : List Byte) (s : State) : Decision :=
  match lifterArg (byteAt d 0) with
  | some l =>
    match resumeLifter l s with
    | .notHeld => declined .busy s
    | .refused r => declined (.refused r) s
    | .taken s1 => taken s1
  | none => declined .badArgument s

/-- RESUME_LIFT. -/
def execResumeLift (p : Port) (number : Byte) (d : List Byte) (s : State) : Result :=
  .next (serve .resumeLift p number d (decideResumeLift d) s)

/-- Abort Lift (R22). -/
def decideAbortLift (d : List Byte) (s : State) : Decision :=
  match lifterArg (byteAt d 0) with
  | some l =>
    match abortLifter l s with
    | .idle => taken s
    | .refused => declined (.refused .bodyNotRunning) s
    | .taken s1 => taken s1
  | none => declined .badArgument s

/-- ABORT_LIFT. -/
def execAbortLift (p : Port) (number : Byte) (d : List Byte) (s : State) : Result :=
  .next (serve .abortLift p number d (decideAbortLift d) s)

/-- Select Profile (R28). -/
def decideSelectProfile (d : List Byte) (s : State) : Decision :=
  match lifterArg (byteAt d 0), selectionArg (byteAt d 1) with
  | some l, some x => taken (s.withLifter l { s.lifter l with selection := x })
  | _, _ => declined .badArgument s

/-- SELECT_PROFILE. -/
def execSelectProfile (p : Port) (number : Byte) (d : List Byte) (s : State) : Result :=
  .next (serve .selectProfile p number d (decideSelectProfile d) s)

/-- Whether a bank's values are within the ranges of R27, its dump angle at least 300 ddeg above its weigh angle. -/
def bankInRange (b : Bank) : Bool :=
  decide (100 ≤ b.weighAngle ∧ b.weighAngle ≤ 600) && decide (900 ≤ b.dumpAngle ∧ b.dumpAngle ≤ 1600)
    && decide (100 ≤ b.dumpDwell ∧ b.dumpDwell ≤ 5000) && decide (b.shakeCount ≤ 5)
    && decide (1000 ≤ b.raiseTimeout ∧ b.raiseTimeout ≤ 15000)
    && decide (1000 ≤ b.lowerTimeout ∧ b.lowerTimeout ≤ 15000) && decide (b.nominalMass ≤ 600000)
    && decide (b.weighAngle + 300 ≤ b.dumpAngle)

/-- The bank a Set Bank gives (R27), when its values are within their ranges. -/
def bankArg (d : List Byte) : Option Bank :=
  let b : Bank := ⟨beAt d 1 2, beAt d 3 2, beAt d 5 2, byteAt d 7, beAt d 8 2, beAt d 10 2, beAt d 12 3⟩
  if bankInRange b then some b else none

/-- Whether a lifter's context uses a bank (R27). -/
def usesBank (s : State) (b : Profile) (l : Lifter) : Bool := ((s.context l).map LiftContext.bank) == some b

/-- Set Bank (R27). -/
def decideSetBank (d : List Byte) (s : State) : Decision :=
  match profileArg (byteAt d 0), bankArg d with
  | some b, some x =>
    if usesBank s b .left || usesBank s b .right || savingSettings s then declined .busy s
    else taken (s.withBanks (s.banks.set b x))
  | _, _ => declined .badArgument s

/-- SET_BANK. -/
def execSetBank (p : Port) (number : Byte) (d : List Byte) (s : State) : Result :=
  .next (serve .setBank p number d (decideSetBank d) s)

/-- The lifter settings a Set Lifter Defaults gives (R2), in the order of R2's table. -/
def lifterSettingsArg (d : List Byte) : Option LifterSettings :=
  match firstMeansYes (byteAt d 1), streamArg (byteAt d 2), profileArg (byteAt d 3), selectionArg (byteAt d 4),
    within 0 200 (byteAt d 5) with
  | some fitted, some st, some b, some sel, some rest => some ⟨fitted, st, b, sel, rest⟩
  | _, _, _, _, _ => none

/-- Set Lifter Defaults (R2). -/
def decideSetLifterDefaults (d : List Byte) (s : State) : Decision :=
  match lifterArg (byteAt d 0), lifterSettingsArg d with
  | some l, some x =>
    if !s.lifterIdle l || savingSettings s then declined .busy s
    else taken (s.withLifter l { s.lifter l with settings := x })
  | _, _ => declined .badArgument s

/-- SET_LIFTER_DEFAULTS. -/
def execSetLifterDefaults (p : Port) (number : Byte) (d : List Byte) (s : State) : Result :=
  .next (serve .setLifterDefaults p number d (decideSetLifterDefaults d) s)

/-- Set Tag Threshold (R142). -/
def decideSetTagThreshold (d : List Byte) (s : State) : Decision :=
  match within 0 15 (byteAt d 0) with
  | some v =>
    if savingSettings s then declined .busy s else taken (s.withTags { s.tags with threshold := v })
  | none => declined .badArgument s

/-- SET_TAG_THRESHOLD. -/
def execSetTagThreshold (p : Port) (number : Byte) (d : List Byte) (s : State) : Result :=
  .next (serve .setTagThreshold p number d (decideSetTagThreshold d) s)

end Sys2Proof.Machine
end

