-- ==== Sys2Proof/Machine/LinkEvents.lean ====
section
/-! DEFINITION. What the links themselves bring: frames of no known kind, bad frames, overruns and the ends of answers
(R194 to R196). Nothing is received while the reset line holds the B40 (log 20). -/

namespace Sys2Proof.Machine

/-- UNKNOWN_KIND_REQUEST (R196 check 1): answered BAD_ARGUMENT, or an overrun while IN_SERVICE. -/
def execUnknownKindRequest (p : Port) (number kind : Byte) (_payload : List Byte) (s : State) : Result :=
  .next
    (if s.resetHeld then s
    else if (s.port p).service ≠ .idle then overrunPort p s
    else refuseAtPort p .badArgument (takeRequest p number kind s))

/-- BAD_FRAME (R194). -/
def execBadFrame (p : Port) (_cause : BadFrameCause) (s : State) : Result :=
  .next (if s.resetHeld then s else badFramePort p s)

/-- The gap timer of a port: it runs from the last character while a frame comes in (R194). -/
def gapTimer (x : PortState) : Timer :=
  match x.receive with
  | .hunting => none
  | .receiving _ last => some last

/-- FRAME_GAP_TIMEOUT (R194): the frame coming in is bad; without one, or before its 2 ms, no effect (log 3). -/
def execFrameGapTimeout (p : Port) (s : State) : Result :=
  .next (if ¬ s.resetHeld ∧ expired s (gapTimer (s.port p)) frameGapMs then badFramePort p s else s)

/-- OVERRUN (R195): only a port IN_SERVICE has one (log 19). -/
def execOverrun (p : Port) (s : State) : Result :=
  .next (if (s.port p).service = .idle then s else overrunPort p s)

/-- Whether an answer is being sent. -/
def isAnswering : Service → Bool
  | .answering _ => true
  | _ => false

/-- ANSWER_SENT (R195): the port is IDLE again. -/
def execAnswerSent (p : Port) (s : State) : Result :=
  .next (if isAnswering (s.port p).service then s.withPort p { s.port p with service := .idle } else s)

end Sys2Proof.Machine
end

