-- ==== Sys2Proof/Machine/PackRequests.lean ====
section
/-! DEFINITION. The PACK class (chapter 4): what each request decides, and the meaning of each command. Arguments are
tested before the state (log 14). -/

namespace Sys2Proof.Machine

/-- Pack Cycle (R74). -/
def decidePackCycle (d : List Byte) (s : State) : Decision :=
  match streamArg (byteAt d 0) with
  | some st =>
    if (s.packer st).pending < 3 then taken (addCycle st s) else (addCycle st s, some (.full []))
  | none => declined .badArgument s

/-- PACK_CYCLE. -/
def execPackCycle (p : Port) (number : Byte) (d : List Byte) (s : State) : Result :=
  .next (serve .packCycle p number d (decidePackCycle d) s)

/-- RETRACTING entered with a stop requested (R76). -/
def retractForStop (st : Stream) (s : State) : State :=
  enterStroke st .retracting (s.withPacker st { s.packer st with stopRequested := true })

/-- An extend cut short by Pack Stop (R76): valve closed, flow given back, RETRACTING, no judgment. -/
def cutExtend (st : Stream) (s : State) : State :=
  retractForStop st (giveBackFlow (.packer st) (s.withPacker st (stopPacker (s.packer st))))

/-- The phase a HELD packer remembers after a Pack Stop (R76): always RETRACTING. -/
def stopHeld (st : Stream) (r : PackHoldReasons) (s : State) : State :=
  if s.body.tailgate.reading then retractForStop st s
  else s.withPacker st { s.packer st with stopRequested := true, state := .held .retracting r }

/-- A packer in FAULT at a Pack Stop (R76): IDLE while the body is RUNNING, HALTED while it is HALTED. -/
def stopFaulted (st : Stream) (s : State) : State :=
  if s.body.state = .halted then s.withPacker st { s.packer st with state := .halted } else packerToIdle st s

/-- The effect of a Pack Stop by the packer's state, the pending count already 0 (R76). -/
def stopByState (st : Stream) (s : State) : State :=
  match (s.packer st).state with
  | .idle => s
  | .stroke .extending => cutExtend st s
  | .stroke .dwell => s.withPacker st { s.packer st with stopRequested := true }
  | .stroke .retracting => s.withPacker st { s.packer st with stopRequested := true }
  | .paused .extended => retractForStop st s
  | .paused .retracted => packerToIdle st s
  | .held _ r => stopHeld st r s
  | .halted => s
  | .fault => stopFaulted st s

/-- Pack Stop (R76). -/
def decidePackStop (d : List Byte) (s : State) : Decision :=
  match streamArg (byteAt d 0) with
  | some st => taken (stopByState st (s.withPacker st { s.packer st with pending := 0 }))
  | none => declined .badArgument s

/-- PACK_STOP. -/
def execPackStop (p : Port) (number : Byte) (d : List Byte) (s : State) : Result :=
  .next (serve .packStop p number d (decidePackStop d) s)

/-- A Pack Step that a closed tailgate lets go on (R77). -/
def stepWithTailgate (s : State) (s' : State) : Decision :=
  if s.body.tailgate.reading then taken s' else declined (.refused .tailgateOpen) s

/-- Pack Step of a STEP packer, by its state (R77). -/
def stepByState (st : Stream) (s : State) : Decision :=
  match (s.packer st).state with
  | .idle => stepWithTailgate s (startCycle st s)
  | .paused .extended => stepWithTailgate s (enterStroke st .retracting s)
  | .paused .retracted => stepWithTailgate s (startCycle st s)
  | .stroke _ => declined .busy s
  | .held _ _ => declined .busy s
  | .fault => declined .busy s
  | .halted => declined (.refused .bodyNotRunning) s

/-- Pack Step (R77). A packer that is not in STEP mode is refused NOT_STEP_MODE before its state is looked at, so
also in FAULT and HALTED, where R73 and R80 name another answer: the model's choice (log 39). -/
def decidePackStep (d : List Byte) (s : State) : Decision :=
  match streamArg (byteAt d 0) with
  | some st =>
    if (s.packer st).mode ≠ .step then declined (.refused .notStepMode) s else stepByState st s
  | none => declined .badArgument s

/-- PACK_STEP. -/
def execPackStep (p : Port) (number : Byte) (d : List Byte) (s : State) : Result :=
  .next (serve .packStep p number d (decidePackStep d) s)

/-- Pack Resume (R79). -/
def decidePackResume (d : List Byte) (s : State) : Decision :=
  match streamArg (byteAt d 0) with
  | some st =>
    match (s.packer st).state with
    | .held ph _ =>
      if s.body.tailgate.reading then taken (enterStroke st ph s) else declined (.refused .tailgateOpen) s
    | _ => declined .busy s
  | none => declined .badArgument s

/-- PACK_RESUME. -/
def execPackResume (p : Port) (number : Byte) (d : List Byte) (s : State) : Result :=
  .next (serve .packResume p number d (decidePackResume d) s)

/-- A new pack mode (R68): a change from STEP makes the test of R69. -/
def changeMode (st : Stream) (m : PackMode) (s : State) : State :=
  let s1 := s.withPacker st { s.packer st with mode := m }
  if (s.packer st).mode = .step then tryStart st s1 else s1

/-- Set Pack Mode (R68). -/
def decideSetPackMode (d : List Byte) (s : State) : Decision :=
  match streamArg (byteAt d 0), modeArg (byteAt d 1) with
  | some st, some m =>
    if (s.packer st).state ≠ .idle ∨ savingSettings s then declined .busy s else taken (changeMode st m s)
  | _, _ => declined .badArgument s

/-- SET_PACK_MODE. -/
def execSetPackMode (p : Port) (number : Byte) (d : List Byte) (s : State) : Result :=
  .next (serve .setPackMode p number d (decideSetPackMode d) s)

/-- The packer settings a Set Packer Settings gives (R67), when they are within their ranges. -/
def packerSettingsArg (d : List Byte) : Option PackerSettings :=
  let x : PackerSettings := ⟨beAt d 1 2, beAt d 3 2, beAt d 5 2, byteAt d 7⟩
  if x.retracted ≤ 4095 ∧ x.fullStroke ≤ 4095 ∧ x.pressureLimit ≤ 4095 ∧ x.liftCycles ≤ 3
      ∧ x.retracted + 400 ≤ x.fullStroke then some x else none

/-- Set Packer Settings (R67). -/
def decideSetPackerSettings (d : List Byte) (s : State) : Decision :=
  match streamArg (byteAt d 0), packerSettingsArg d with
  | some st, some x =>
    if (s.packer st).state ≠ .idle ∨ savingSettings s then declined .busy s
    else taken (s.withPacker st { s.packer st with settings := x })
  | _, _ => declined .badArgument s

/-- SET_PACKER_SETTINGS. -/
def execSetPackerSettings (p : Port) (number : Byte) (d : List Byte) (s : State) : Result :=
  .next (serve .setPackerSettings p number d (decideSetPackerSettings d) s)

/-- The three limits a Set Payload Limits gives (R84): RESIDUAL, RECYCLE, body. -/
def limitsArg (d : List Byte) : Option (Nat × Nat × Nat) :=
  match within 1000 20000000 (beAt d 0 4), within 1000 20000000 (beAt d 4 4), within 1000 30000000 (beAt d 8 4) with
  | some a, some b, some c => some (a, b, c)
  | _, _, _ => none

/-- New payload limits (R84), the limit-reached flags re-evaluated. -/
def changeLimits (residual recycle bodyLimit : Nat) (s : State) : State :=
  evaluateLimits
    ((s.withCompartments
      { residual := { s.compartments.residual with limit := residual }
        recycle := { s.compartments.recycle with limit := recycle } }).withBodyLimit bodyLimit)

/-- Set Payload Limits (R84). -/
def decideSetPayloadLimits (d : List Byte) (s : State) : Decision :=
  match limitsArg d with
  | some (a, b, c) => if savingSettings s then declined .busy s else taken (changeLimits a b c s)
  | none => declined .badArgument s

/-- SET_PAYLOAD_LIMITS. -/
def execSetPayloadLimits (p : Port) (number : Byte) (d : List Byte) (s : State) : Result :=
  .next (serve .setPayloadLimits p number d (decideSetPayloadLimits d) s)

/-- The first condition of Unload Complete that fails (R85). -/
def unloadRefusal (st : Stream) (s : State) : Option Reason :=
  if ¬ s.body.fresh then some .vehicleDataStale
  else if speedAbove 0 s then some .speed
  else if ¬ parkBrakeOn s.body then some .parkBrake
  else if ¬ s.lifterIdle .left ∨ ¬ s.lifterIdle .right then some .lifterBusy
  else if (s.packer st).state ≠ .idle then some .packerBusy
  else if ¬ s.body.tailgateCycled.get st then some .tailgateNotCycled
  else none

/-- The load number after a load number (R85): 2^32-1 is followed by 1. -/
def nextLoad (n : Nat) : Nat := if n = sequenceCount then 1 else n + 1

/-- A taken Unload Complete (R85). -/
def unload (st : Stream) (s : State) : State :=
  let s1 := s.withCompartment st
    { s.compartment st with payload := 0, fill := .opened, loadNumber := nextLoad (s.compartment st).loadNumber }
  let s2 := s1.withPacker st { s1.packer st with shortStrokes := 0 }
  evaluateLimits (s2.withBody { s2.body with tailgateCycled := s2.body.tailgateCycled.set st false })

/-- Unload Complete (R85). -/
def decideUnloadComplete (d : List Byte) (s : State) : Decision :=
  match streamArg (byteAt d 0) with
  | some st =>
    match unloadRefusal st s with
    | some r => declined (.refused r) s
    | none => taken (unload st s)
  | none => declined .badArgument s

/-- UNLOAD_COMPLETE. -/
def execUnloadComplete (p : Port) (number : Byte) (d : List Byte) (s : State) : Result :=
  .next (serve .unloadComplete p number d (decideUnloadComplete d) s)

end Sys2Proof.Machine
end

