-- ==== Sys2Proof/Machine/StatusRequests.lean ====
section
/-! DEFINITION. The STATUS class (R29, R47, R63, R86, R125, R158, R190, R206): the data of each status answer, every
field in the order of its owning rule and encoded by R217 (log 12, log 13), and the meanings. A status changes
nothing. -/

namespace Sys2Proof.Machine

/-- The milliseconds since a stamp, saturating at 65,535 (R47, R158). -/
def ageBytes (s : State) (since : Nat) : List Byte := beBytes 2 (min top16 (elapsed s since))

/-! ### Body Status (R47) -/

/-- The effective speed, 65,535 while above every threshold (R40, R217). -/
def effectiveSpeed (b : Body) : Nat :=
  match b.vehicle with
  | some v => if b.fresh then v.speed else top16
  | none => top16

/-- The effective reverse selected: 0 YES, 1 NO, 2 unknown (R40, R217). -/
def reverseCode (b : Body) : Nat :=
  match b.vehicle with
  | some v => if b.fresh then (if v.reverse then 0 else 1) else 2
  | none => 2

/-- The inhibit reasons in one byte (R46). -/
def inhibitByte (r : InhibitReasons) : List Byte := setByte [r.leftLifter, r.rightLifter, r.tailgate]

/-- The data of Body Status (R47). That the body payload, a sum without a stated range, is sent in 4 bytes is the
model's choice (log 42). -/
def bodyStatusBytes (s : State) : List Byte :=
  oneByte (bodyStateCode s.body.state)
    ++ firstYes s.body.estop.reading ++ firstYes s.body.tailgate.reading
    ++ firstYes s.body.steps.left.reading ++ firstYes s.body.steps.right.reading
    ++ yesNo s.body.inhibitLine ++ inhibitByte s.body.inhibitReasons
    ++ firstYes s.body.fresh ++ optionalField 2 (ageBytes s) s.body.lastAccepted
    ++ beBytes 2 (effectiveSpeed s.body) ++ oneByte (engineCode (effectiveEngine s.body))
    ++ firstYes (parkBrakeOn s.body) ++ oneByte (reverseCode s.body)
    ++ beBytes 4 s.body.clockSeconds ++ yesNo s.body.fresh
    ++ optionalField 3 (beBytes 3) (recordOdometer s)
    ++ beBytes 4 s.compartments.residual.payload ++ beBytes 4 s.compartments.recycle.payload
    ++ beBytes 4 (bodyPayload s) ++ yesNo s.flow.line

/-- Body Status (R47). -/
def decideBodyStatus (s : State) : Decision := declined (.ok (bodyStatusBytes s)) s

/-- BODY_STATUS. -/
def execBodyStatus (p : Port) (number : Byte) (d : List Byte) (s : State) : Result :=
  .next (serve .bodyStatus p number d decideBodyStatus s)

/-! ### Lifter Status (R29) -/

/-- The remembered phase while HELD (R29). -/
def heldPhase (c : LiftContext) : Option Phase := if c.phase = .held then c.remembered else none

/-- The hold reasons in one byte (R8). -/
def reasonsByte (r : HoldReasons) : List Byte :=
  setByte [r.operator, r.speed, r.tailgate, r.step, r.estop, r.flow]

/-- The abort phase while RETURNING (R29). -/
def returningPhase (c : LiftContext) : Option Phase := if c.phase = .returning then c.abortPhase else none

/-- A phase in one byte (R1). -/
def phaseByte (ph : Phase) : List Byte := oneByte (phaseCode ph)

/-- The last refusal's reason, source and time (R6). -/
def refusalBytes (r : LastRefusal) : List Byte :=
  oneByte (reasonCode r.reason) ++ oneByte (sourceCode r.source) ++ beBytes 4 r.time

/-- The last fault's cause, phase and time (R11). -/
def faultBytes (f : LastFault) : List Byte :=
  oneByte (liftFaultCode f.cause) ++ phaseByte f.phase ++ beBytes 4 f.time

/-- The account part's account number and tariff class (R8). -/
def accountBytes (a : AccountPart) : List Byte := beBytes 4 a.account ++ oneByte a.tariffClass

/-- The context's stream, bank, tag and account part (R29). -/
def contextBytes (c : LiftContext) : List Byte :=
  oneByte (streamCode c.stream) ++ oneByte (profileCode c.bank) ++ optionalField 5 (beBytes 5) c.tag
    ++ optionalField 5 accountBytes c.account

/-- The data of Lifter Status (R29). That the pending tag's age is sent in 2 bytes and saturates at 65,535 ms, as R158
gives it for Tag Status, is the model's choice (log 43). -/
def lifterStatusBytes (l : Lifter) (s : State) : List Byte :=
  let u := s.lifter l
  oneByte (lifterStateCode (s.phase l))
    ++ optionalField 1 phaseByte (u.context.bind heldPhase)
    ++ reasonsByte ((u.context.map LiftContext.reasons).getD {})
    ++ optionalField 1 phaseByte (u.context.bind returningPhase)
    ++ oneByte (selectionCode u.selection)
    ++ optionalField 2 (fun t => ageBytes s t.stamp) (s.tags.pendingTags.get l)
    ++ optionalField 6 refusalBytes u.lastRefusal ++ optionalField 6 faultBytes u.lastFault
    ++ optionalField 14 contextBytes u.context

/-- Lifter Status (R29). -/
def decideLifterStatus (d : List Byte) (s : State) : Decision :=
  match lifterArg (byteAt d 0) with
  | some l => declined (.ok (lifterStatusBytes l s)) s
  | none => declined .badArgument s

/-- LIFTER_STATUS. -/
def execLifterStatus (p : Port) (number : Byte) (d : List Byte) (s : State) : Result :=
  .next (serve .lifterStatus p number d (decideLifterStatus d) s)

/-! ### Flow Status (R63) -/

/-- The demand or the units of a flow record. -/
def recordFlow : FlowRecord → Nat
  | .none => 0
  | .waiting demand _ => demand
  | .granted units => units

/-- The milliseconds a waiting record has waited, 0 otherwise. -/
def recordWait (s : State) : FlowRecord → Nat
  | .waiting _ since => elapsed s since
  | _ => 0

/-- One consumer's record (R63): its state, the demand or the units in one byte, the milliseconds waited in two, 0
where the state has none of them. The layout is the model's (log 38). -/
def flowRecordBytes (s : State) (c : Consumer) : List Byte :=
  let r := s.flow.records.get c
  oneByte (recordCode r) ++ oneByte (recordFlow r) ++ beBytes 2 (recordWait s r)

/-- The data of Flow Status (R63). -/
def flowStatusBytes (s : State) : List Byte :=
  oneByte s.flow.supply ++ oneByte (engineCode s.flow.engine) ++ oneByte (grantedUnits s.flow)
    ++ allConsumers.flatMap (flowRecordBytes s)
    ++ listField (fun c => oneByte (consumerCode c)) s.flow.waiting ++ yesNo s.flow.line

/-- Flow Status (R63). -/
def decideFlowStatus (s : State) : Decision := declined (.ok (flowStatusBytes s)) s

/-- FLOW_STATUS. -/
def execFlowStatus (p : Port) (number : Byte) (d : List Byte) (s : State) : Result :=
  .next (serve .flowStatus p number d decideFlowStatus s)

/-! ### Compartment Status (R86) -/

/-- The pause point, present in PAUSED (R66). -/
def pauseOf : PackerState → Option PausePoint
  | .paused x => some x
  | _ => none

/-- The remembered phase and hold reasons, present in HELD (R66). -/
def heldOf : PackerState → Option (StrokePhase × PackHoldReasons)
  | .held ph r => some (ph, r)
  | _ => none

/-- A packer's remembered phase and hold reasons (R66). -/
def packHoldBytes (x : StrokePhase × PackHoldReasons) : List Byte :=
  oneByte (strokeCode x.1) ++ setByte [x.2.tailgate, x.2.flow]

/-- A packer's last fault (R66, R73). -/
def packFaultBytes (f : PackLastFault) : List Byte :=
  oneByte (packFaultCode f.cause) ++ oneByte (strokeCode f.phase) ++ beBytes 4 f.time

/-- The four packer settings (R67). -/
def packerSettingsBytes (x : PackerSettings) : List Byte :=
  beBytes 2 x.retracted ++ beBytes 2 x.fullStroke ++ beBytes 2 x.pressureLimit ++ oneByte x.liftCycles

/-- The data of Compartment Status (R86). Whether the packer waits for its grant or holds it is the state of its
flow record, NONE when it does neither: the model's coding (log 38). -/
def compartmentStatusBytes (st : Stream) (s : State) : List Byte :=
  let k := s.packer st
  let x := s.compartment st
  oneByte (packerStateCode k.state) ++ oneByte (recordCode (s.flow.records.get (.packer st)))
    ++ oneByte (modeCode k.mode) ++ oneByte k.pending ++ beBytes 2 k.dropped ++ yesNo k.stopRequested
    ++ optionalField 1 (fun y => oneByte (pauseCode y)) (pauseOf k.state)
    ++ optionalField 2 packHoldBytes (heldOf k.state)
    ++ optionalField 6 packFaultBytes k.lastFault
    ++ oneByte k.shortStrokes ++ oneByte (fillCode x.fill)
    ++ beBytes 4 x.payload ++ beBytes 4 x.loadNumber ++ beBytes 4 x.limit ++ yesNo x.limitReached
    ++ yesNo (s.body.tailgateCycled.get st) ++ packerSettingsBytes k.settings

/-- Compartment Status (R86). -/
def decideCompartmentStatus (d : List Byte) (s : State) : Decision :=
  match streamArg (byteAt d 0) with
  | some st => declined (.ok (compartmentStatusBytes st s)) s
  | none => declined .badArgument s

/-- COMPARTMENT_STATUS. -/
def execCompartmentStatus (p : Port) (number : Byte) (d : List Byte) (s : State) : Result :=
  .next (serve .compartmentStatus p number d (decideCompartmentStatus d) s)

/-! ### Weigh Status (R125) -/

/-- A pitch and a roll in cdeg (R119, R217). -/
def tiltBytes (x : Int × Int) : List Byte := signedBytes 2 x.1 ++ signedBytes 2 x.2

/-- A lifter's last result (R119). -/
def lastResultBytes (r : LastResult) : List Byte :=
  oneByte (outcomeCode r.outcome) ++ optionalField 4 (signedBytes 4) r.mass ++ optionalField 4 tiltBytes r.tilt
    ++ optionalField 3 (beBytes 3) r.spread ++ optionalField 3 (beBytes 3) r.factor ++ oneByte r.size
    ++ beBytes 4 r.time

/-- A last drift check: its value and pass number (R123). -/
def driftCheckBytes (x : Int × Nat) : List Byte := signedBytes 4 x.1 ++ beBytes 2 x.2

/-- A lifter's part of Weigh Status (R125). -/
def weighLifterBytes (s : State) (l : Lifter) : List Byte :=
  let m := s.weigh.drift.get l
  yesNo m.disabled ++ oneByte m.count ++ optionalField 6 driftCheckBytes m.lastCheck
    ++ optionalField 24 lastResultBytes (s.weigh.last.get l)

/-- The data of Weigh Status (R125). The time of the head's computation stands in one byte under a presence byte,
absent when the queue is empty: the model's layout (log 38). -/
def weighStatusBytes (s : State) : List Byte :=
  listField (fun l => oneByte (lifterCode l)) s.weigh.queue
    ++ optionalField 1 (fun c => oneByte (elapsed s c.startedAt)) s.weigh.computation
    ++ weighLifterBytes s .left ++ weighLifterBytes s .right

/-- Weigh Status (R125). -/
def decideWeighStatus (s : State) : Decision := declined (.ok (weighStatusBytes s)) s

/-- WEIGH_STATUS. -/
def execWeighStatus (p : Port) (number : Byte) (d : List Byte) (s : State) : Result :=
  .next (serve .weighStatus p number d decideWeighStatus s)

/-! ### Tag Status (R158) -/

/-- A pending tag: tag, quality and age (R158). -/
def pendingTagBytes (s : State) (t : PendingTag) : List Byte :=
  beBytes 5 t.tag ++ oneByte t.quality ++ ageBytes s t.stamp

/-- A tag and a quality. -/
def readBytes (x : Nat × Nat) : List Byte := beBytes 5 x.1 ++ oneByte x.2

/-- A last read: disposition, tag and quality, age (R158). -/
def lastReadBytes (s : State) (r : LastRead) : List Byte :=
  oneByte (dispositionCode r.disposition) ++ optionalField 6 readBytes r.read ++ ageBytes s r.time

/-- The tag bound to a lifter's context (R155). -/
def boundTag (s : State) (l : Lifter) : Option Nat := (s.context l).bind LiftContext.tag

/-- The data of Tag Status (R158). -/
def tagStatusBytes (s : State) : List Byte :=
  beBytes 2 s.tags.table.length ++ beBytes 2 tableCapacity ++ firstYes s.tags.untaggedAllow
    ++ firstYes s.tags.unknownAllow ++ oneByte s.tags.threshold ++ beBytes 2 s.tags.crossReads
    ++ optionalField 8 (pendingTagBytes s) s.tags.pendingTags.left
    ++ optionalField 8 (pendingTagBytes s) s.tags.pendingTags.right
    ++ optionalField 10 (lastReadBytes s) s.tags.lastReads.left
    ++ optionalField 10 (lastReadBytes s) s.tags.lastReads.right
    ++ optionalField 5 (beBytes 5) (boundTag s .left) ++ optionalField 5 (beBytes 5) (boundTag s .right)

/-- Tag Status (R158). -/
def decideTagStatus (s : State) : Decision := declined (.ok (tagStatusBytes s)) s

/-- TAG_STATUS. -/
def execTagStatus (p : Port) (number : Byte) (d : List Byte) (s : State) : Result :=
  .next (serve .tagStatus p number d decideTagStatus s)

/-! ### Integrity Status (R190) and Link Status (R206) -/

/-- The data of Integrity Status (R190). -/
def integrityStatusBytes (s : State) : List Byte :=
  oneByte s.integrity.accountCorrections ++ oneByte s.integrity.journalCorrections
    ++ beBytes 2 (damagedSlots s.journal)

/-- Integrity Status (R190). -/
def decideIntegrityStatus (s : State) : Decision := declined (.ok (integrityStatusBytes s)) s

/-- INTEGRITY_STATUS. -/
def execIntegrityStatus (p : Port) (number : Byte) (d : List Byte) (s : State) : Result :=
  .next (serve .integrityStatus p number d decideIntegrityStatus s)

/-- One port's part of Link Status (R206). -/
def linkPortBytes (x : PortState) : List Byte :=
  beBytes 2 x.errors ++ beBytes 2 x.overruns ++ oneByte (serviceCode x.service) ++ yesNo x.attention

/-- The data of Link Status (R206). -/
def linkStatusBytes (s : State) : List Byte :=
  linkPortBytes s.ports.cab ++ linkPortBytes s.ports.route ++ linkPortBytes s.ports.chassis

/-- Link Status (R206). The asking port is IN_SERVICE with this request and shows so: the model's reading (log 40). -/
def decideLinkStatus (s : State) : Decision := declined (.ok (linkStatusBytes s)) s

/-- LINK_STATUS. -/
def execLinkStatus (p : Port) (number : Byte) (d : List Byte) (s : State) : Result :=
  .next (serve .linkStatus p number d decideLinkStatus s)

end Sys2Proof.Machine
end

