-- ==== Sys2Proof/Machine/TimerEvents.lean ====
section
/-! DEFINITION. What the body timer brings about: the expiries of the lifters', the body's, the arbiter's and the
packers' timers. An expiry acts when its timer runs and has run its duration, and has no effect otherwise: a timer that
another command stopped or started anew has not expired (log 3). -/

namespace Sys2Proof.Machine

/-! ### Lifters -/

/-- The time limit of a phase from its grant (R9). -/
def phaseLimit (s : State) (c : LiftContext) : Nat :=
  match c.phase with
  | .raiseWeigh => (s.banks.get c.bank).raiseTimeout
  | .raiseDump => (s.banks.get c.bank).raiseTimeout
  | .lowerWeigh => (s.banks.get c.bank).lowerTimeout
  | .lowerRest => (s.banks.get c.bank).lowerTimeout
  | _ => returnLimitMs

/-- A command on a lifter's context, without effect in IDLE. -/
def onContext (l : Lifter) (f : LiftContext → State → State) (s : State) : State :=
  match s.context l with
  | some c => f c s
  | none => s

/-- The motion phases that have a time limit: SHAKE has none (R9, R17). -/
def isTimed (ph : Phase) : Bool := isMotion ph && decide (ph ≠ .shake)

/-- LIFT_PHASE_TIMEOUT (R11): a motion phase runs out of its time limit. -/
def execLiftPhaseTimeout (l : Lifter) (s : State) : Result :=
  .next
    (onContext l
      (fun c s =>
        if isTimed c.phase ∧ expired s c.phaseTimer (phaseLimit s c) then faultLifter l .phaseTimeout s else s)
      s)

/-- RETURN_TIME_LIMIT (R23): RETURNING ends in completion. -/
def execReturnTimeLimit (l : Lifter) (s : State) : Result :=
  .next
    (onContext l
      (fun c s => if c.phase = .returning ∧ expired s c.phaseTimer returnLimitMs then endMotion l s else s) s)

/-- SETTLE_EXPIRY (R12): the capture window is armed. -/
def execSettleExpiry (l : Lifter) (s : State) : Result :=
  .next
    (onContext l
      (fun c s =>
        if expired s c.settleTimer settleMs then armWindow l (s.mapContext l fun c => { c with settleTimer := none })
        else s)
      s)

/-- WEIGH_PHASE_LIMIT_EXPIRY (R14): the window is withdrawn, the phase fails with TIMEOUT. -/
def execWeighPhaseLimitExpiry (l : Lifter) (s : State) : Result :=
  .next
    (onContext l
      (fun c s =>
        if expired s c.limitTimer weighLimitMs then
          endWeigh l ((withdrawWindow l s).mapContext l fun c => { c with outcome := .timeout })
        else s)
      s)

/-- DUMP_DWELL_EXPIRY (R16): the lift-triggered cycles, then SHAKE or the state after it. -/
def execDumpDwellExpiry (l : Lifter) (s : State) : Result :=
  .next
    (onContext l
      (fun c s =>
        if expired s c.dwellTimer (s.banks.get c.bank).dumpDwell then
          enterShake l (giveLiftCycles l (s.mapContext l fun c => { c with dwellTimer := none }))
        else s)
      s)

/-- A lower pulse's successor raise pulse, with the shakes done so far (R17). -/
def nextShake (l : Lifter) (shakesDone : Nat) (s : State) : State :=
  (s.withValves l true false).mapContext l fun c =>
    { c with shakesDone := shakesDone, pulse := some (.raise, s.bodyTimer) }

/-- The last lower pulse ends (R17): valves off, grant released, the state after SHAKE entered. -/
def endShake (l : Lifter) (shakesDone : Nat) (s : State) : State :=
  let s1 := (s.withValves l false false).mapContext l fun c => { stopTimers c with shakesDone := shakesDone }
  let s2 := releaseGrant (.lifter l) s1
  match s2.context l with
  | some c => enterMotion l (afterShake c) s2
  | none => s2

/-- The end of a shake pulse in progress (R17). -/
def endPulse (l : Lifter) (c : LiftContext) (v : Valve) (s : State) : State :=
  match v with
  | .raise => (s.withValves l false true).mapContext l fun c => { c with pulse := some (.lower, s.bodyTimer) }
  | .lower =>
    if c.shakesDone + 1 = (s.banks.get c.bank).shakeCount then endShake l (c.shakesDone + 1) s
    else nextShake l (c.shakesDone + 1) s

/-- The end of a shake pulse that has run its 150 ms (R17). -/
def pulseExpiry (l : Lifter) (c : LiftContext) (s : State) : State :=
  match c.pulse with
  | some x => if expired s (some x.2) shakePulseMs then endPulse l c x.1 s else s
  | none => s

/-- SHAKE_PULSE_END (R17). -/
def execShakePulseEnd (l : Lifter) (s : State) : Result := .next (onContext l (pulseExpiry l) s)

/-! ### The body and the flow arbiter -/

/-- The freshness timer of the vehicle data: it runs while the data is FRESH (R42). -/
def freshnessTimer (b : Body) : Timer := if b.fresh then b.lastAccepted else none

/-- VEHICLE_FRESHNESS_EXPIRY (R42): an acceptance taken first has restarted the timer. -/
def execVehicleFreshnessExpiry (s : State) : Result :=
  .next (if expired s (freshnessTimer s.body) vehicleFreshMs then expireVehicle s else s)

/-- The route clock's next second (R44): 2^32-1 is followed by 0. -/
def nextSecond (n : Nat) : Nat := (n + 1) % 4294967296

/-- Whether the route clock's remainder has reached 1,000 (R44; log 1). -/
def secondFull (b : Body) : Bool := decide (secondMs ≤ b.clockMillis)

/-- ROUTE_CLOCK_SECOND (R44): when the remainder has reached 1,000, it returns to 0 and the count increases by one; it
has no effect before (log 3). -/
def execRouteClockSecond (s : State) : Result :=
  .next
    (if !s.resetHeld && secondFull s.body then
      s.withBody { s.body with clockSeconds := nextSecond s.body.clockSeconds, clockMillis := 0 }
    else s)

/-- The wait timer of a consumer (R52). -/
def waitTimer (f : Flow) (c : Consumer) : Timer :=
  match f.records.get c with
  | .waiting _ since => some since
  | _ => none

/-- FLOW_WAIT_TIMEOUT (R57). The withdrawal and the grants that follow it are one evaluation with one test of the
engine-speed request line (log 37). -/
def execFlowWaitTimeout (c : Consumer) (s : State) : Result :=
  .next
    (if expired s (waitTimer s.flow c) flowWaitMs then
      evaluateGrants (holdConsumer c (latchAll .flowTimeout (dropRecord c s)))
    else s)

/-! ### Packers -/

/-- The duration of a packer's phase timer (R70 to R72). -/
def strokeLimit : StrokePhase → Nat
  | .extending => extendMs
  | .dwell => packDwellMs
  | .retracting => retractMs

/-- Whether the timer of a phase of its stroke has run out for a packer (R70 to R72). -/
def strokeTimerOut (st : Stream) (ph : StrokePhase) (s : State) : Bool :=
  decide ((s.packer st).state = .stroke ph) && expired s (s.packer st).timer (strokeLimit ph)

/-- EXTEND_TIMER_EXPIRY (R70, R73). -/
def execExtendTimerExpiry (st : Stream) (s : State) : Result :=
  .next (if strokeTimerOut st .extending s then faultPacker st .extendTimeout .extending s else s)

/-- What follows the dwell (R71), its valve closed and its units released. -/
def afterDwell (st : Stream) (s : State) : State :=
  let k := s.packer st
  if k.mode = .step ∧ ¬ k.stopRequested then s.withPacker st { k with state := .paused .extended }
  else enterStroke st .retracting s

/-- PACK_DWELL_EXPIRY (R71). -/
def execPackDwellExpiry (st : Stream) (s : State) : Result :=
  .next
    (if strokeTimerOut st .dwell s then
      afterDwell st (releaseGrant (.packer st) (s.withPacker st (stopPacker (s.packer st))))
    else s)

/-- RETRACT_TIMER_EXPIRY (R72, R73). -/
def execRetractTimerExpiry (st : Stream) (s : State) : Result :=
  .next (if strokeTimerOut st .retracting s then faultPacker st .retractTimeout .retracting s else s)

/-! ### The converter and the weigh engine -/

/-- RING_CONVERSION_COMPLETE (R93): without a ring conversion in progress it has no effect (log 22). -/
def execRingConversionComplete (r : Option Int) (s : State) : Result :=
  .next (if s.scan.converter = .ring then completeRing r s else s)

/-- INSERTED_CONVERSION_COMPLETE (R100): without an inserted conversion in progress it has no effect (log 22). -/
def execInsertedConversionComplete (r : Option Int) (s : State) : Result :=
  .next
    (match s.scan.converter with
    | .inserted l => completeInserted l r s
    | _ => s)

/-- CHANNEL_FRESHNESS_EXPIRY (R95): a valid result taken first has restarted the timer. -/
def execChannelFreshnessExpiry (ch : Fin 12) (s : State) : Result :=
  .next (if expired s (s.slot ch).timer channelFreshMs then expireChannel ch s else s)

/-- The timer of the computation in progress (R109). -/
def computationTimer (w : Weigh) : Timer := w.computation.map Computation.startedAt

/-- WEIGH_COMPUTATION_END (R109): a withdrawal taken first has ended the computation, and the one that then started
still takes its 2 ms (R103, R110). -/
def execWeighComputationEnd (s : State) : Result :=
  .next (if expired s (computationTimer s.weigh) computationMs then endComputation s else s)

end Sys2Proof.Machine
end

