-- ==== Sys2Proof/Machine/Dispatch.lean ====
section
/-! DEFINITION. One arm per command, each a direct call of its meaning. -/

namespace Sys2Proof.Machine

/-- The meaning of a command: its effect on everything but the queue of waiting commands (log 28). -/
def exec (i : Instr) (s : State) : Host.Outcome State Fault Refusal :=
  match i with
  | .startLift port number payload => Sys2Proof.Machine.execStartLift port number payload s
  | .stopLift port number payload => Sys2Proof.Machine.execStopLift port number payload s
  | .resumeLift port number payload => Sys2Proof.Machine.execResumeLift port number payload s
  | .abortLift port number payload => Sys2Proof.Machine.execAbortLift port number payload s
  | .selectProfile port number payload => Sys2Proof.Machine.execSelectProfile port number payload s
  | .setBank port number payload => Sys2Proof.Machine.execSetBank port number payload s
  | .setLifterDefaults port number payload => Sys2Proof.Machine.execSetLifterDefaults port number payload s
  | .setTagThreshold port number payload => Sys2Proof.Machine.execSetTagThreshold port number payload s
  | .packCycle port number payload => Sys2Proof.Machine.execPackCycle port number payload s
  | .packStop port number payload => Sys2Proof.Machine.execPackStop port number payload s
  | .packStep port number payload => Sys2Proof.Machine.execPackStep port number payload s
  | .packResume port number payload => Sys2Proof.Machine.execPackResume port number payload s
  | .setPackMode port number payload => Sys2Proof.Machine.execSetPackMode port number payload s
  | .setPackerSettings port number payload => Sys2Proof.Machine.execSetPackerSettings port number payload s
  | .setPayloadLimits port number payload => Sys2Proof.Machine.execSetPayloadLimits port number payload s
  | .unloadComplete port number payload => Sys2Proof.Machine.execUnloadComplete port number payload s
  | .resumeBody port number payload => Sys2Proof.Machine.execResumeBody port number payload s
  | .bodyReset port number payload => Sys2Proof.Machine.execBodyReset port number payload s
  | .saveSettings port number payload => Sys2Proof.Machine.execSaveSettings port number payload s
  | .readAccount port number payload => Sys2Proof.Machine.execReadAccount port number payload s
  | .putAccount port number payload => Sys2Proof.Machine.execPutAccount port number payload s
  | .deleteAccount port number payload => Sys2Proof.Machine.execDeleteAccount port number payload s
  | .clearAccounts port number payload => Sys2Proof.Machine.execClearAccounts port number payload s
  | .setRoutePolicy port number payload => Sys2Proof.Machine.execSetRoutePolicy port number payload s
  | .clearCounters port number payload => Sys2Proof.Machine.execClearCounters port number payload s
  | .readTariff port number payload => Sys2Proof.Machine.execReadTariff port number payload s
  | .putTariff port number payload => Sys2Proof.Machine.execPutTariff port number payload s
  | .readJournal port number payload => Sys2Proof.Machine.execReadJournal port number payload s
  | .journalStatus port number payload => Sys2Proof.Machine.execJournalStatus port number payload s
  | .acknowledgeJournal port number payload => Sys2Proof.Machine.execAcknowledgeJournal port number payload s
  | .readCalibration port number payload => Sys2Proof.Machine.execReadCalibration port number payload s
  | .readCounter port number payload => Sys2Proof.Machine.execReadCounter port number payload s
  | .writeCalibration port number payload => Sys2Proof.Machine.execWriteCalibration port number payload s
  | .readIdentity port number payload => Sys2Proof.Machine.execReadIdentity port number payload s
  | .writeIdentity port number payload => Sys2Proof.Machine.execWriteIdentity port number payload s
  | .vehicleData port number payload => Sys2Proof.Machine.execVehicleData port number payload s
  | .bodyStatus port number payload => Sys2Proof.Machine.execBodyStatus port number payload s
  | .lifterStatus port number payload => Sys2Proof.Machine.execLifterStatus port number payload s
  | .flowStatus port number payload => Sys2Proof.Machine.execFlowStatus port number payload s
  | .compartmentStatus port number payload => Sys2Proof.Machine.execCompartmentStatus port number payload s
  | .weighStatus port number payload => Sys2Proof.Machine.execWeighStatus port number payload s
  | .tagStatus port number payload => Sys2Proof.Machine.execTagStatus port number payload s
  | .integrityStatus port number payload => Sys2Proof.Machine.execIntegrityStatus port number payload s
  | .linkStatus port number payload => Sys2Proof.Machine.execLinkStatus port number payload s
  | .readEvents port number payload => Sys2Proof.Machine.execReadEvents port number payload s
  | .clearEvents port number payload => Sys2Proof.Machine.execClearEvents port number payload s
  | .setEventMask port number payload => Sys2Proof.Machine.execSetEventMask port number payload s
  | .scanStatus port number payload => Sys2Proof.Machine.execScanStatus port number payload s
  | .setScanRing port number payload => Sys2Proof.Machine.execSetScanRing port number payload s
  | .readAccess port number payload => Sys2Proof.Machine.execReadAccess port number payload s
  | .setAccess port number payload => Sys2Proof.Machine.execSetAccess port number payload s
  | .lockMap port number payload => Sys2Proof.Machine.execLockMap port number payload s
  | .unknownKindRequest port number kind payload => Sys2Proof.Machine.execUnknownKindRequest port number kind payload s
  | .badFrame port cause => Sys2Proof.Machine.execBadFrame port cause s
  | .frameGapTimeout port => Sys2Proof.Machine.execFrameGapTimeout port s
  | .overrun port => Sys2Proof.Machine.execOverrun port s
  | .answerSent port => Sys2Proof.Machine.execAnswerSent port s
  | .inputLineChange change => Sys2Proof.Machine.execInputLineChange change s
  | .estopReadingActive => Sys2Proof.Machine.execEstopReadingActive s
  | .estopReadingReleased => Sys2Proof.Machine.execEstopReadingReleased s
  | .tailgateReadingNotClosed => Sys2Proof.Machine.execTailgateReadingNotClosed s
  | .tailgateReadingClosed => Sys2Proof.Machine.execTailgateReadingClosed s
  | .stepReadingOccupied lifter => Sys2Proof.Machine.execStepReadingOccupied lifter s
  | .stepReadingFree lifter => Sys2Proof.Machine.execStepReadingFree lifter s
  | .sealReadingOpen => Sys2Proof.Machine.execSealReadingOpen s
  | .sealReadingClosed => Sys2Proof.Machine.execSealReadingClosed s
  | .rearStartPress lifter => Sys2Proof.Machine.execRearStartPress lifter s
  | .rearStopPress lifter => Sys2Proof.Machine.execRearStopPress lifter s
  | .rearButtonRelease lifter button => Sys2Proof.Machine.execRearButtonRelease lifter button s
  | .tagRead lifter checksumOk tag quality => Sys2Proof.Machine.execTagRead lifter checksumOk tag quality s
  | .powerOnReset => Sys2Proof.Machine.execPowerOnReset s
  | .resetLineAssert => Sys2Proof.Machine.execResetLineAssert s
  | .resetLineRelease => Sys2Proof.Machine.execResetLineRelease s
  | .loadPartRead good => Sys2Proof.Machine.execLoadPartRead good s
  | .bodyResetPassEnd => Sys2Proof.Machine.execBodyResetPassEnd s
  | .liftPhaseTimeout lifter => Sys2Proof.Machine.execLiftPhaseTimeout lifter s
  | .returnTimeLimit lifter => Sys2Proof.Machine.execReturnTimeLimit lifter s
  | .settleExpiry lifter => Sys2Proof.Machine.execSettleExpiry lifter s
  | .weighPhaseLimitExpiry lifter => Sys2Proof.Machine.execWeighPhaseLimitExpiry lifter s
  | .dumpDwellExpiry lifter => Sys2Proof.Machine.execDumpDwellExpiry lifter s
  | .shakePulseEnd lifter => Sys2Proof.Machine.execShakePulseEnd lifter s
  | .vehicleFreshnessExpiry => Sys2Proof.Machine.execVehicleFreshnessExpiry s
  | .routeClockSecond => Sys2Proof.Machine.execRouteClockSecond s
  | .flowWaitTimeout consumer => Sys2Proof.Machine.execFlowWaitTimeout consumer s
  | .extendTimerExpiry stream => Sys2Proof.Machine.execExtendTimerExpiry stream s
  | .packDwellExpiry stream => Sys2Proof.Machine.execPackDwellExpiry stream s
  | .retractTimerExpiry stream => Sys2Proof.Machine.execRetractTimerExpiry stream s
  | .ringConversionComplete result => Sys2Proof.Machine.execRingConversionComplete result s
  | .insertedConversionComplete result => Sys2Proof.Machine.execInsertedConversionComplete result s
  | .channelFreshnessExpiry channel => Sys2Proof.Machine.execChannelFreshnessExpiry channel s
  | .weighComputationEnd => Sys2Proof.Machine.execWeighComputationEnd s
  | .counterWriteEnd success => Sys2Proof.Machine.execCounterWriteEnd success s
  | .commitEnd success => Sys2Proof.Machine.execCommitEnd success s
  | .identityWriteEnd success => Sys2Proof.Machine.execIdentityWriteEnd success s
  | .settingsWriteEnd success => Sys2Proof.Machine.execSettingsWriteEnd success s

end Sys2Proof.Machine
end

