-- ==== Sys2Proof/Machine/Timers.lean ====
section
/-! DEFINITION. The body timer (00_scope.md): what the B40 does by itself while no command waits. A due expiry is put
into the queue; when none is due, a millisecond passes (log 1, log 2). -/

namespace Sys2Proof.Machine

/-- A command when its condition holds. -/
def dueWhen (b : Bool) (i : Instr) : List Instr := if b then [i] else []

/-! ### Settling lines (R33, R130) -/

/-- The two reading changes of a settling line, to true and to false, when they are due. -/
def dueLine (s : State) (x : Debounced) (rise fall : Instr) : List Instr :=
  dueWhen (readingDue true s x) rise ++ dueWhen (readingDue false s x) fall

/-- The reading changes of the five settling lines that are due. -/
def dueLines (s : State) : List Instr :=
  dueLine s s.body.estop .estopReadingActive .estopReadingReleased
    ++ dueLine s s.body.tailgate .tailgateReadingClosed .tailgateReadingNotClosed
    ++ dueLine s s.body.steps.left (.stepReadingOccupied .left) (.stepReadingFree .left)
    ++ dueLine s s.body.steps.right (.stepReadingOccupied .right) (.stepReadingFree .right)
    ++ dueLine s s.calib.sealSwitch .sealReadingOpen .sealReadingClosed

/-! ### Lifters (R9, R11, R12, R14, R16, R17, R23) -/

/-- The expiries of a lift context that are due. -/
def dueContext (s : State) (l : Lifter) (c : LiftContext) : List Instr :=
  dueWhen (isTimed c.phase && expired s c.phaseTimer (phaseLimit s c)) (.liftPhaseTimeout l)
    ++ dueWhen (decide (c.phase = .returning) && expired s c.phaseTimer returnLimitMs) (.returnTimeLimit l)
    ++ dueWhen (expired s c.settleTimer settleMs) (.settleExpiry l)
    ++ dueWhen (expired s c.limitTimer weighLimitMs) (.weighPhaseLimitExpiry l)
    ++ dueWhen (expired s c.dwellTimer (s.banks.get c.bank).dumpDwell) (.dumpDwellExpiry l)
    ++ dueWhen (expired s (c.pulse.map Prod.snd) shakePulseMs) (.shakePulseEnd l)

/-- The expiries of a lifter that are due. -/
def dueLifter (s : State) (l : Lifter) : List Instr :=
  match s.context l with
  | some c => dueContext s l c
  | none => []

/-! ### The body, the flow arbiter and the packers (R42, R44, R57, R70 to R72, R213) -/

/-- The expiries of a packer that are due. -/
def duePacker (s : State) (st : Stream) : List Instr :=
  dueWhen (strokeTimerOut st .extending s) (.extendTimerExpiry st)
    ++ dueWhen (strokeTimerOut st .dwell s) (.packDwellExpiry st)
    ++ dueWhen (strokeTimerOut st .retracting s) (.retractTimerExpiry st)

/-! ### Sensors (R95, R109) -/

/-- The freshness expiry of a channel when it is due. -/
def dueChannel (s : State) (ch : Fin 12) : List Instr :=
  dueWhen (expired s (s.slot ch).timer channelFreshMs) (.channelFreshnessExpiry ch)

/-- The twelve channels. -/
def channels : List (Fin 12) := [0, 1, 2, 3, 4, 5, 6, 7, 8, 9, 10, 11]

/-! ### Links (R194) -/

/-- The end of the gap within a frame when it is due. -/
def dueGap (s : State) (p : Port) : List Instr :=
  dueWhen (expired s (gapTimer (s.port p)) frameGapMs) (.frameGapTimeout p)

/-- Every expiry that is due. -/
def dueExpiries (s : State) : List Instr :=
  dueLines s ++ dueLifter s .left ++ dueLifter s .right
    ++ dueWhen (expired s (freshnessTimer s.body) vehicleFreshMs) .vehicleFreshnessExpiry
    ++ dueWhen (secondFull s.body) .routeClockSecond
    ++ allConsumers.flatMap (fun c => dueWhen (expired s (waitTimer s.flow c) flowWaitMs) (.flowWaitTimeout c))
    ++ duePacker s .residual ++ duePacker s .recycle
    ++ channels.flatMap (dueChannel s)
    ++ dueWhen (expired s (computationTimer s.weigh) computationMs) .weighComputationEnd
    ++ dueWhen (expired s (passTimer s.loader) bodyResetPassMs) .bodyResetPassEnd
    ++ dueGap s .cab ++ dueGap s .route ++ dueGap s .chassis

/-! ### The tick -/

/-- A millisecond of the body timer and of the route clock's remainder (R44). -/
def passMillisecond (s : State) : State :=
  (s.withBodyTimer (s.bodyTimer + 1)).withBody { s.body with clockMillis := s.body.clockMillis + 1 }

/-- Which of several due expiries is taken first: a free value decides (log 2). -/
def chooseDue (due : List Instr) (first : Instr) (s : State) : State :=
  (s.withPending (s.pending ++ [due.getD (Config.freeNat s.freeIndex % due.length) first])).withFreeIndex
    (s.freeIndex + 1)

/-- What the B40 does while no command waits (log 1); the reset line holds everything still. -/
def tick (s : State) : State :=
  if s.resetHeld then s
  else
    match dueExpiries s with
    | [] => passMillisecond s
    | [i] => s.withPending (s.pending ++ [i])
    | i :: rest => chooseDue (i :: rest) i s

end Sys2Proof.Machine
end

