-- ==== Sys2Proof/Machine/Receive.lean ====
section
/-! DEFINITION. Reception (R194): what a port does with one received character. The table has no row for a character; as the
outside puts a command into the queue, it hands a port a character with receiveByte, and a frame that is complete or bad
puts its own command into the queue (log 18). -/

namespace Sys2Proof.Machine

/-- The bytes of the frame coming in, from its start byte on; none while HUNTING (R193). -/
def bytesTaken : Receive → List Byte
  | .hunting => []
  | .receiving bytes _ => bytes

/-- A frame ends, good or bad (R194): the port is HUNTING again, and the frame's command waits. -/
def frameEnds (p : Port) (i : Instr) (s : State) : State :=
  (s.withPort p { s.port p with receive := .hunting }).withPending (s.pending ++ [i])

/-- A frame goes on with one more byte (R194): the port is RECEIVING, and the 2 ms to the next character run afresh.
-/
def frameGoesOn (p : Port) (b : Byte) (s : State) : State :=
  s.withPort p { s.port p with receive := .receiving (bytesTaken (s.port p).receive ++ [b]) s.bodyTimer }

/-- A character received by a port, with whether its stop bit was valid (R194). Nothing is received while the reset
line holds the B40 (log 20). -/
def receiveByte (p : Port) (b : Byte) (stop : Bool) (s : State) : State :=
  if s.resetHeld then s
  else
    match judgeFrame p ((bytesTaken (s.port p).receive).map (fun x => (x, true)) ++ [(b, stop)]) with
    | .hunted => s
    | .incomplete => frameGoesOn p b s
    | .bad cause => frameEnds p (.badFrame p cause) s
    | .good i => frameEnds p i s

/-- Characters received by a port one after another, each with a valid stop bit. -/
def receiveBytes (p : Port) (bytes : List Byte) (s : State) : State :=
  bytes.foldl (fun s b => receiveByte p b true s) s

end Sys2Proof.Machine
end

