-- ==== Sys2Proof/Safety.lean ====
section
/-! DEFINITION. The terms statements are made in: when a request reaches its owner and what an answered port looks
like, what a command may leave changed besides its own effect, and the laws of the device that every step keeps. -/

namespace Sys2Proof.Safety

open Sys2Proof.Machine

/-! ### Requests and answers (R195 to R197) -/

/-- A good frame of kind k with payload d reaches its owner: the port is IDLE and all four checks of R196 pass. -/
structure Accepts (k : Kind) (p : Port) (d : List Byte) (s : State) : Prop where
  awake : s.resetHeld = false
  idle : (s.port p).service = .idle
  right : rightGranted s p k = true
  started : s.body.state = .starting → takenWhileStarting k = true
  length : lengthAllowed k d.length = true

/-- s with the answer to request number n of kind byte kb being sent by port p (R197). -/
def sent (p : Port) (n kb : Byte) (r : Reply) (s : State) : State :=
  s.withPort p { s.port p with receive := .hunting, service := .answering ⟨n, kb, replyBytes r⟩ }

/-- s with the answer to a request of kind k being sent by port p (R197). -/
def replied (p : Port) (n : Byte) (k : Kind) (r : Reply) (s : State) : State := sent p n k.code r s

/-- s with a request of kind k in service at port p, waiting for the end of an EEPROM write (R195). -/
def awaiting (p : Port) (n : Byte) (k : Kind) (s : State) : State :=
  s.withPort p { s.port p with receive := .hunting, service := .waiting n k.code }

/-- An event latched in all three ports. -/
def LatchedAll (e : Event) (s : State) : Prop := ∀ p, (s.port p).latched.holds e = true

/-- Whether a timer runs and has run for its whole duration (log 3). -/
def due (s : State) (t : Timer) (limit : Nat) : Bool := t.any fun since => decide (since + limit ≤ s.bodyTimer)

/-- The wait timer of a flow record (R52). -/
def waitOf : FlowRecord → Timer
  | .waiting _ since => some since
  | _ => none

/-- The gap timer of a port (R194): it runs while a frame comes in, from its last character. -/
def gapOf : Receive → Timer
  | .receiving _ last => some last
  | .hunting => none

/-- Whether a reading becomes a level now (R33): its line stands at that level, opposite to the reading, and has held
it for 10 ms. -/
def settledTo (level : Bool) (s : State) (x : Debounced) : Bool :=
  decide (x.line = level) && decide (x.reading ≠ level) && due s x.settling 10

/-- Whether the row of an expiry is due: the timer it names runs and has run for its whole duration, and a line that
settles stands opposite to its reading (R9, R11, R12, R14, R16, R17, R23, R33, R42, R44, R57, R70 to R72, R95, R109,
R130, R194, R213). No other row is due by time alone. -/
def isDue (s : State) : Instr → Bool
  | .estopReadingActive => settledTo true s s.body.estop
  | .estopReadingReleased => settledTo false s s.body.estop
  | .tailgateReadingClosed => settledTo true s s.body.tailgate
  | .tailgateReadingNotClosed => settledTo false s s.body.tailgate
  | .stepReadingOccupied l => settledTo true s (s.body.steps.get l)
  | .stepReadingFree l => settledTo false s (s.body.steps.get l)
  | .sealReadingOpen => settledTo true s s.calib.sealSwitch
  | .sealReadingClosed => settledTo false s s.calib.sealSwitch
  | .routeClockSecond => decide (1000 ≤ s.body.clockMillis)
  | .liftPhaseTimeout l => (s.context l).any fun c =>
    match c.phase with
    | .raiseWeigh | .raiseDump => due s c.phaseTimer (s.banks.get c.bank).raiseTimeout
    | .lowerWeigh | .lowerRest => due s c.phaseTimer (s.banks.get c.bank).lowerTimeout
    | _ => false
  | .returnTimeLimit l => (s.context l).any fun c => decide (c.phase = .returning) && due s c.phaseTimer 4000
  | .settleExpiry l => (s.context l).any fun c => due s c.settleTimer 200
  | .weighPhaseLimitExpiry l => (s.context l).any fun c => due s c.limitTimer 1500
  | .dumpDwellExpiry l => (s.context l).any fun c => due s c.dwellTimer (s.banks.get c.bank).dumpDwell
  | .shakePulseEnd l => (s.context l).any fun c => due s (c.pulse.map Prod.snd) 150
  | .vehicleFreshnessExpiry => s.body.fresh && due s s.body.lastAccepted 500
  | .flowWaitTimeout x => due s (waitOf (s.flow.records.get x)) 3000
  | .extendTimerExpiry st => decide ((s.packer st).state = .stroke .extending) && due s (s.packer st).timer 8000
  | .packDwellExpiry st => decide ((s.packer st).state = .stroke .dwell) && due s (s.packer st).timer 500
  | .retractTimerExpiry st => decide ((s.packer st).state = .stroke .retracting) && due s (s.packer st).timer 6000
  | .channelFreshnessExpiry ch => due s (s.slot ch).timer 20
  | .weighComputationEnd => due s (s.weigh.computation.map Computation.startedAt) 2
  | .bodyResetPassEnd =>
    match s.loader.load with
    | .pass since => decide (since + 20 ≤ s.bodyTimer)
    | _ => false
  | .frameGapTimeout p => due s (gapOf (s.port p).receive) 2
  | _ => false

/-! ### What a command leaves as it was -/

/-- A lift context without what a grant starts: the phase timer and the shake pulse (R9, R17). -/
def bareContext (c : LiftContext) : LiftContext := { c with phaseTimer := none, pulse := none }

/-- A lifter without its valves and without what a grant starts. -/
def bareLifter (u : LifterUnit) : LifterUnit :=
  { u with raiseValve := false, lowerValve := false, context := u.context.map bareContext }

/-- Two lifters that differ at most by a grant to the second (R9, R53). -/
def LifterUpToGrant (u v : LifterUnit) : Prop := bareLifter v = bareLifter u

/-- A packer without its valves and its timer. -/
def barePacker (k : Packer) : Packer := { k with extendValve := false, retractValve := false, timer := none }

/-- Two packers that differ at most by a grant to the second (R70, R72). -/
def PackerUpToGrant (k m : Packer) : Prop := barePacker m = barePacker k

/-- What no command of a lifter, a packer or a line changes: the queue, the clocks, the settings outside lifters and
packers, the calibration with its store, the access map and the EEPROM. -/
structure SameGround (s t : State) : Prop where
  pending : t.pending = s.pending
  resetHeld : t.resetHeld = s.resetHeld
  bodyTimer : t.bodyTimer = s.bodyTimer
  freeIndex : t.freeIndex = s.freeIndex
  banks : t.banks = s.banks
  bodyLimit : t.bodyLimit = s.bodyLimit
  calib : t.calib = s.calib
  access : t.access = s.access
  loader : t.loader = s.loader

/-- What is left as it was, besides the ground, by a command that ends no lift and gives no compartment anything: the
body, the accounts, the compartments, the journal and the integrity counters. -/
structure SameBooks (s t : State) : Prop extends SameGround s t where
  body : t.body = s.body
  compartments : t.compartments = s.compartments
  tags : t.tags = s.tags
  journal : t.journal = s.journal
  integrity : t.integrity = s.integrity

/-! ### The laws of the device -/

/-- R205: a port's attention line is asserted exactly when its latched set contains an event not in its mask. -/
def AttentionLaw (s : State) : Prop :=
  ∀ p, (s.port p).attention = true ↔ ∃ n, (s.port p).latched.getLsbD n = true ∧ (s.port p).mask.getLsbD n = false

/-- R46: the inhibit reasons are the conditions that hold, and the line is asserted while one of them holds. -/
def InhibitLaw (s : State) : Prop :=
  (s.body.inhibitReasons.leftLifter = true ↔ s.context .left ≠ none)
    ∧ (s.body.inhibitReasons.rightLifter = true ↔ s.context .right ≠ none)
    ∧ (s.body.inhibitReasons.tailgate = true ↔ s.body.tailgate.reading = false)
    ∧ (s.body.inhibitLine = true ↔
      s.context .left ≠ none ∨ s.context .right ≠ none ∨ s.body.tailgate.reading = false)

/-- R50 to R53, R62: the waiting list holds each WAITING consumer once, the supply follows the effective engine state,
at most 16 units are granted, none while the body is HALTED or the engine OFF, and the engine-speed request line is
asserted exactly while more than 8 units are granted or would be with a waiting request. -/
structure FlowLaw (s : State) : Prop where
  listed : ∀ c, c ∈ s.flow.waiting ↔ isWaiting (s.flow.records.get c) = true
  once : s.flow.waiting.Nodup
  demands : ∀ c d since, s.flow.records.get c = .waiting d since → 0 < d
  engine : s.flow.engine = effectiveEngine s.body
  supply : s.flow.supply = supplyOf s.flow.engine
  units : grantedUnits s.flow ≤ 16
  stopped : (s.body.state = .halted ∨ s.flow.engine = .off) → ∀ c, isGranted (s.flow.records.get c) = false
  line : s.flow.line = true ↔
    8 < grantedUnits s.flow ∨ ∃ c ∈ s.flow.waiting, 8 < grantedUnits s.flow + demandOf s.flow c

/-- The order in which a grant evaluation takes the waiting requests (R53, R54): those of lifters, oldest first,
then those of packers. -/
def grantOrder (f : Flow) : List Consumer := f.waiting.filter isLifter ++ f.waiting.filter fun c => !isLifter c

/-- R53, R54: while the body is RUNNING, the first waiting request in the order of grants does not fit the free
supply; while it is STARTING nothing waits for flow, no lift is in flight and no packer is in stroke. -/
structure GrantLaw (s : State) : Prop where
  blocked : s.body.state = .running → ∀ c, (grantOrder s.flow).head? = some c →
    s.flow.supply < grantedUnits s.flow + demandOf s.flow c
  starting : s.body.state = .starting →
    s.flow.waiting = [] ∧ (∀ l, s.context l = none) ∧ ∀ st ph, (s.packer st).state ≠ .stroke ph

/-- A phase in which a valve may be on (R9): a motion phase or RETURNING. -/
def moves (ph : Phase) : Prop := isMotion ph = true ∨ ph = .returning

/-- R9, R12, R14, R16, R17, R66, R70: a lifter has a flow record exactly in a phase that moves and a packer exactly
in stroke, for the demand of the phase, and the timers and pulses that start at the grant run only under a grant;
the timers of R12, R14 and R16 run only in their phases. -/
structure RequestLaw (s : State) : Prop where
  lifter : ∀ l, s.flow.records.get (.lifter l) ≠ .none ↔ ∃ ph, s.phase l = some ph ∧ moves ph
  packer : ∀ st, s.flow.records.get (.packer st) ≠ .none ↔ ∃ ph, (s.packer st).state = .stroke ph
  lifterDemand : ∀ l ph u, s.phase l = some ph →
    recordFlow (s.flow.records.get (.lifter l)) = u → 0 < u → phaseDemand ph = some u
  packerDemand : ∀ st ph u, (s.packer st).state = .stroke ph →
    recordFlow (s.flow.records.get (.packer st)) = u → 0 < u → strokeDemand ph = u
  lifterTimer : ∀ l c, s.context l = some c → c.phaseTimer.isSome = true ∨ c.pulse.isSome = true →
    isGranted (s.flow.records.get (.lifter l)) = true
  packerTimer : ∀ st, (s.packer st).timer.isSome = true → isGranted (s.flow.records.get (.packer st)) = true
  weighTimers : ∀ l c, s.context l = some c → c.settleTimer.isSome = true ∨ c.limitTimer.isSome = true →
    isWeigh c.phase = true
  dwellTimer : ∀ l c, s.context l = some c → c.dwellTimer.isSome = true → c.phase = .dumpDwell

/-- R9, R17, R66: a valve is on only under a grant, in a phase that moves, and never both of one pair. -/
structure ValveLaw (s : State) : Prop where
  lifterGrant : ∀ l, ((s.lifter l).raiseValve = true ∨ (s.lifter l).lowerValve = true) →
    isGranted (s.flow.records.get (.lifter l)) = true ∧ ∃ ph, s.phase l = some ph ∧ moves ph
  lifterOne : ∀ l, ¬ ((s.lifter l).raiseValve = true ∧ (s.lifter l).lowerValve = true)
  pulse : ∀ l c x, s.context l = some c → c.pulse = some x →
    c.phase = .shake ∧ isGranted (s.flow.records.get (.lifter l)) = true
  packerGrant : ∀ st, ((s.packer st).extendValve = true ∨ (s.packer st).retractValve = true) →
    isGranted (s.flow.records.get (.packer st)) = true ∧ ∃ ph, (s.packer st).state = .stroke ph
  packerOne : ∀ st, ¬ ((s.packer st).extendValve = true ∧ (s.packer st).retractValve = true)

/-- R1, R171: every lift context holds exactly one reservation, and records and reservations never exceed 1,024. -/
structure ReservationLaw (s : State) : Prop where
  held : ∀ l, s.journal.reservations.get l = true ↔ s.context l ≠ none
  capacity : s.journal.slots.length + (s.journal.reservations.left.toNat + s.journal.reservations.right.toNat) ≤ 1024

/-- The sequence of the record in a slot. -/
def slotSequence (w : JournalSlot) : Nat := w.stored.content.sequence

/-- R171, R174: the sequence numbers are within 1 to 2^32-1 and consecutive from the oldest record to the newest, and
the next sequence number follows the newest record's. -/
structure SequenceLaw (s : State) : Prop where
  next : 1 ≤ s.journal.nextSequence ∧ s.journal.nextSequence ≤ 4294967295
  range : ∀ w ∈ s.journal.slots, 1 ≤ slotSequence w ∧ slotSequence w ≤ 4294967295
  consecutive : ∀ i v w, s.journal.slots[i]? = some v → s.journal.slots[i + 1]? = some w →
    slotSequence w = nextSeq (slotSequence v)
  newest : ∀ w, s.journal.slots.getLast? = some w → s.journal.nextSequence = nextSeq (slotSequence w)

/-- Whether an account entry's nine fields are within their ranges (R147). -/
def entryFits (e : AccountEntry) : Prop :=
  1 ≤ e.tag ∧ e.tag < 2 ^ 40 ∧ 1 ≤ e.account ∧ e.account ≤ 99999999 ∧ e.tariffClass ≤ 15 ∧ e.quota ≤ 15
    ∧ e.lifts ≤ 255 ∧ e.allowance ≤ 65535

/-- R147, R148: the table holds 0 to 4,096 entries in ascending order of their tags, no tag twice, each field within
its range. -/
structure TableLaw (s : State) : Prop where
  size : s.tags.table.length ≤ 4096
  order : s.tags.table.Pairwise fun a b => a.content.tag < b.content.tag
  fits : ∀ w ∈ s.tags.table, entryFits w.content

/-- The tag bound to a lifter's context (R155). -/
def bound (s : State) (l : Lifter) : Option Nat := (s.context l).bind LiftContext.tag

/-- R144: a tag is bound to at most one context, a bound tag is pending on no lifter, and a tag is pending on at most
one lifter. -/
structure TagLaw (s : State) : Prop where
  boundOnce : ∀ t, ¬ (bound s .left = some t ∧ bound s .right = some t)
  notPending : ∀ l m x, s.tags.pendingTags.get m = some x → bound s l ≠ some x.tag
  pendingOnce : ∀ x y, s.tags.pendingTags.left = some x → s.tags.pendingTags.right = some y → x.tag ≠ y.tag

/-- Whether an identity holds every written character of another (R137). -/
def extendsIdentity (x y : Vector (Option Byte) 16) : Prop := ∀ i c, x.get i = some c → y.get i = some c

/-- Whether the load is reading the EEPROM (R212). -/
def reading : LoadState → Bool
  | .reading _ => true
  | _ => false

/-- R131, R137, R211, R212, R215: at most one write of each kind is in flight, and the time at which the one in
progress began is known exactly while there is one; a counter write carries the counter's
successor and an identity write every character already written; while the load reads the EEPROM the body is
STARTING, nothing is in flight and both parts are COMMITTED. -/
structure StoreLaw (s : State) : Prop where
  counters : (s.loader.writes.filter isCounterJob).length ≤ 1
  commits : (s.loader.writes.filter isCommitJob).length ≤ 1
  identities : (s.loader.writes.filter isIdentityJob).length ≤ 1
  settings : (s.loader.writes.filter isSettingsJob).length ≤ 1
  started : s.loader.writeStart.isSome = true ↔ s.loader.writes ≠ []
  counterNext : ∀ p l item v n, WriteJob.counter p l item v n ∈ s.loader.writes →
    n = min 65535 (s.calib.counter + 1)
  identityNext : ∀ p x, WriteJob.identity p x ∈ s.loader.writes → extendsIdentity s.calib.identity x
  counterRange : s.calib.counter ≤ 65535
  counterStored : s.loader.eeprom.counter.content ≤ 65535
  load : reading s.loader.load = true →
    s.body.state = .starting ∧ s.loader.writes = [] ∧ s.calib.cal.left.committed = true
      ∧ s.calib.cal.right.committed = true

/-- R84: a compartment's limit-reached flag is yes exactly while its payload is at or above its limit or the body
payload is at or above the body limit. -/
def LimitLaw (s : State) : Prop :=
  ∀ st, (s.compartment st).limitReached = true ↔
    (s.compartment st).limit ≤ (s.compartment st).payload
      ∨ s.bodyLimit ≤ s.compartments.residual.payload + s.compartments.recycle.payload

/-- R8, R44, R66, R83, R94, R122, R145, R184, R193: the counters stay within their ranges; the route clock's remainder
stands at 1,000 until its second is taken (log 1). -/
structure RangeLaw (s : State) : Prop where
  pendingCycles : ∀ st, (s.packer st).pending ≤ 3
  droppedCycles : ∀ st, (s.packer st).dropped ≤ 65535
  shortStrokes : ∀ st, (s.packer st).shortStrokes ≤ 255
  loadNumbers : ∀ st, 1 ≤ (s.compartment st).loadNumber ∧ (s.compartment st).loadNumber ≤ 4294967295
  retries : ∀ l c, s.context l = some c → c.retry ≤ 3
  linkErrors : ∀ p, (s.port p).errors ≤ 65535
  overruns : ∀ p, (s.port p).overruns ≤ 65535
  corrections : s.integrity.accountCorrections ≤ 255 ∧ s.integrity.journalCorrections ≤ 255
  crossReads : s.tags.crossReads ≤ 65535
  passes : s.scan.pass ≤ 65535
  drift : ∀ l, (s.weigh.drift.get l).count ≤ 50
  clock : s.body.clockSeconds < 2 ^ 32 ∧ s.body.clockMillis ≤ 1000

/-- Every law of the device. -/
structure Lawful (s : State) : Prop where
  attention : AttentionLaw s
  inhibit : InhibitLaw s
  flow : FlowLaw s
  requests : RequestLaw s
  grants : GrantLaw s
  valves : ValveLaw s
  reservations : ReservationLaw s
  sequences : SequenceLaw s
  table : TableLaw s
  tags : TagLaw s
  store : StoreLaw s
  limits : LimitLaw s
  ranges : RangeLaw s

/-! ### Checks in the order of a rule's table -/

/-- The reason of the first check that fails, each check given with its reason. -/
def firstFailure (checks : List (Bool × Reason)) : Option Reason := (checks.find? fun x => !x.1).map Prod.snd

/-- Whether the last received speed is at most a limit. -/
def slowEnough (limit : Nat) (s : State) : Bool := s.body.vehicle.any fun v => decide (v.speed ≤ limit)

/-- Checks 1 to 5 of lift start (R4). -/
def startChecks (l : Lifter) (s : State) : List (Bool × Reason) :=
  [ ((s.lifter l).settings.fitted, .notFitted),
    (decide (s.body.state = .running), .bodyNotRunning),
    (s.body.tailgate.reading, .tailgateOpen),
    (s.body.fresh, .vehicleDataStale),
    (slowEnough 20 s, .speed),
    (!(s.body.steps.get l).reading, .stepOccupied) ]

/-- Records and reservations (R4 check 9, R171). -/
def claimed (s : State) : Nat :=
  s.journal.slots.length + (s.journal.reservations.left.toNat + s.journal.reservations.right.toNat)

/-- Checks 7 to 9 of lift start for the stream of the lift (R4). -/
def settleChecks (st : Stream) (s : State) : List (Bool × Reason) :=
  [ (decide ((s.compartment st).fill ≠ .full), .compartmentFull),
    (decide ((s.compartment st).payload < (s.compartment st).limit)
      && decide (s.compartments.residual.payload + s.compartments.recycle.payload < s.bodyLimit), .payloadLimit),
    (decide (claimed s < 1024), .journalFull) ]

/-- The conditions of a resume from the hold reasons r, in the order ESTOP, TAILGATE, STEP, SPEED (R21). -/
def resumeChecks (l : Lifter) (r : HoldReasons) (s : State) : List (Bool × Reason) :=
  [ (!r.estop || decide (s.body.state = .running), .estop),
    (!r.tailgate || s.body.tailgate.reading, .tailgate),
    (!r.step || !(s.body.steps.get l).reading, .step),
    (!r.speed || (s.body.fresh && slowEnough 50 s), .speed) ]

/-- The conditions of Unload Complete (R85). -/
def unloadChecks (st : Stream) (s : State) : List (Bool × Reason) :=
  [ (s.body.fresh, .vehicleDataStale),
    (slowEnough 0 s, .speed),
    (s.body.vehicle.any (fun v => v.parkBrake), .parkBrake),
    ((s.context .left).isNone && (s.context .right).isNone, .lifterBusy),
    (decide ((s.packer st).state = .idle), .packerBusy),
    (s.body.tailgateCycled.get st, .tailgateNotCycled) ]

/-- Permission for an untagged lift (R154 step 1). -/
def untaggedPermission (s : State) : Permission :=
  if s.tags.untaggedAllow then .granted none none else .refused .untaggedRefused

/-- Permission for a usable tag, from the table as a plain list of entries (R154 steps 2 to 5). -/
def tagPermissionFor (tag : Nat) (s : State) : Permission :=
  match (s.tags.table.map Stored.content).find? (fun e => decide (e.tag = tag)) with
  | none => if s.tags.unknownAllow then .granted (some tag) none else .refused .unknownTagRefused
  | some e =>
    if e.suspended then .refused .tagSuspended
    else if e.quota ≠ 0 ∧ e.quota ≤ e.lifts then .refused .quota
    else .granted (some tag) (some e)

/-- Permission as R154 gives it; a pending tag is usable up to 4,000 ms (R144). -/
def permissionFor (l : Lifter) (s : State) : Permission :=
  match s.tags.pendingTags.get l with
  | none => untaggedPermission s
  | some x => if s.bodyTimer - x.stamp ≤ 4000 then tagPermissionFor x.tag s else untaggedPermission s

/-! ### The effects of lift and pack commands -/

/-- The flow record of a consumer right after it placed a request for d units: granted at once or waiting (R52,
R53). -/
def Asked (s t : State) (c : Consumer) (d : Nat) : Prop :=
  t.flow.records.get c = .granted d ∨ t.flow.records.get c = .waiting d s.bodyTimer

/-- A lifter after a grant evaluation that granted it or not (R9, R17): its phase's valve and what the grant starts.
-/
def lifterAfter (granted : Bool) (now : Nat) (u : LifterUnit) : LifterUnit :=
  match u.context.map LiftContext.phase with
  | none => u
  | some ph =>
    if granted ∧ (phaseValve ph).isSome then
      { u with
        raiseValve := decide (phaseValve ph = some .raise)
        lowerValve := decide (phaseValve ph = some .lower)
        context := u.context.map fun c =>
          if ph = .shake then { c with pulse := some (.raise, now) } else { c with phaseTimer := some now } }
    else u

/-- A packer after a grant evaluation that granted it or not (R70, R72, R79): its phase's valve and its timer. -/
def packerAfter (granted : Bool) (now : Nat) (k : Packer) : Packer :=
  match granted, k.state with
  | true, .stroke .retracting => { k with retractValve := true, timer := some now }
  | true, .stroke _ => { k with extendValve := true, timer := some now }
  | _, _ => k

/-- R53, R62: the consumers in gs, and no others, are granted with their demands and handed their grants; the rest
of the list stays, and the engine-speed request line follows, with HIGH_IDLE_CHANGE at its change. -/
structure Granted (s t : State) (gs : List Consumer) : Prop where
  records : ∀ c, t.flow.records.get c = if c ∈ gs then .granted (demandOf s.flow c) else s.flow.records.get c
  waiting : t.flow.waiting = s.flow.waiting.filter fun c => decide (c ∉ gs)
  supply : t.flow.engine = s.flow.engine ∧ t.flow.supply = s.flow.supply
  line : t.flow.line = lineWanted t.flow
  event : t.flow.line ≠ s.flow.line → LatchedAll .highIdleChange t
  quiet : t.flow.line = s.flow.line → t.ports = s.ports
  lifters : ∀ l, t.lifter l = lifterAfter (decide (Consumer.lifter l ∈ gs)) s.bodyTimer (s.lifter l)
  packers : ∀ st, t.packer st = packerAfter (decide (Consumer.packer st ∈ gs)) s.bodyTimer (s.packer st)
  rest : (((t.withFlow s.flow).withLifters s.lifters).withPackers s.packers).withPorts s.ports = s

/-- What a command for one lifter leaves of everything else: the other lifter and the packers up to grants, and the
slots, the other buffer, the drift monitors and the last results. -/
structure OthersKept (s t : State) (l : Lifter) : Prop where
  lifter : LifterUpToGrant (s.lifter (otherLifter l)) (t.lifter (otherLifter l))
  packers : ∀ st, PackerUpToGrant (s.packer st) (t.packer st)
  scan : t.scan = { s.scan with buffers := s.scan.buffers.set l (t.scan.buffers.get l) }
  drift : t.weigh.drift = s.weigh.drift
  last : t.weigh.last = s.weigh.last

/-- What a lift command leaves of its own lifter besides context and valves. -/
def SameUnit (u v : LifterUnit) : Prop :=
  v.settings = u.settings ∧ v.selection = u.selection ∧ v.lastRefusal = u.lastRefusal
    ∧ v.startPressed = u.startPressed ∧ v.stopPressed = u.stopPressed

/-- Whether a capture buffer is HELD (R98). -/
def isHeld : Buffer → Bool
  | .held _ _ _ => true
  | _ => false

/-- R108: the head of the queue q, if there is one, has come into computation with its inputs as they stand in s;
with q empty there is no computation. -/
def Begun (s t : State) (q : List Lifter) : Prop :=
  match q with
  | [] => t.weigh.computation = none
  | m :: _ =>
    match s.scan.buffers.get m, s.context m with
    | .held N samples copies, some c => t.weigh.computation = some
        { lifter := m
          bank := c.bank
          startedAt := s.bodyTimer
          calValid := (s.calib.cal.get m).valid
          items := (s.calib.cal.get m).items
          size := N
          samples := samples
          copies := copies }
    | _, _ => True

/-- R103, R110: a lifter's window withdrawn: its buffer is EMPTY, a HELD one leaves the service queue, and where it
was in computation, that ends without a result and the next one in the queue starts. -/
structure WindowGone (s t : State) (l : Lifter) : Prop where
  buffer : t.scan.buffers.get l = .empty
  unqueued : isHeld (s.scan.buffers.get l) = false → t.weigh = s.weigh
  waiting : isHeld (s.scan.buffers.get l) = true → s.weigh.queue.head? ≠ some l →
    t.weigh.queue = s.weigh.queue.filter (fun x => decide (x ≠ l)) ∧ t.weigh.computation = s.weigh.computation
  computing : isHeld (s.scan.buffers.get l) = true → s.weigh.queue.head? = some l → l ∉ s.weigh.queue.tail →
    t.weigh.queue = s.weigh.queue.tail ∧ Begun s t s.weigh.queue.tail
  results : t.weigh.last = s.weigh.last

/-- Whether a lifter is in a weigh phase (R12). -/
def weighing (s : State) (l : Lifter) : Bool := (s.context l).any fun c => isWeigh c.phase

/-- R19, R103, R110: the windows of the lifters in a weigh phase withdrawn together: their buffers are EMPTY, HELD
ones have left the service queue, and where the head of the queue has gone, its computation has ended without a
result and the head that is left, if any, has started. -/
structure WindowsGone (s t : State) : Prop where
  buffers : ∀ l, t.scan.buffers.get l = if weighing s l then .empty else s.scan.buffers.get l
  queue : t.weigh.queue = s.weigh.queue.filter fun l => !(weighing s l && isHeld (s.scan.buffers.get l))
  going : t.weigh.queue.head? = s.weigh.queue.head? → t.weigh.computation = s.weigh.computation
  next : t.weigh.queue.head? ≠ s.weigh.queue.head? → Begun s t t.weigh.queue
  results : t.weigh.last = s.weigh.last ∧ t.weigh.drift = s.weigh.drift
  scan : t.scan = { s.scan with buffers := t.scan.buffers }

/-- A lifter's entry into HELD (R19) from context c with the reasons r. -/
structure HeldAfter (s t : State) (l : Lifter) (c : LiftContext) (r : HoldReasons) : Prop where
  context : t.context l = some { stopTimers c with remembered := some c.phase, phase := .held, reasons := r }
  raiseOff : (t.lifter l).raiseValve = false
  lowerOff : (t.lifter l).lowerValve = false
  flow : t.flow.records.get (.lifter l) = .none
  window : isWeigh c.phase = true → WindowGone s t l
  buffer : isWeigh c.phase = false → t.scan = s.scan ∧ t.weigh = s.weigh
  event : LatchedAll .liftHeld t
  unit : SameUnit (s.lifter l) (t.lifter l)
  fault : (t.lifter l).lastFault = (s.lifter l).lastFault
  others : OthersKept s t l
  books : SameBooks s t

/-- What Stop Lift and a rear stop press do to their lifter (R25, with R19 and R20). -/
structure StopEffect (s t : State) (l : Lifter) : Prop where
  idle : s.context l = none → t.withPorts s.ports = s
  fault : s.phase l = some .fault → t.withPorts s.ports = s
  again : ∀ c, s.context l = some c → c.phase = .held → c.reasons.operator = true → t.withPorts s.ports = s
  added : ∀ c, s.context l = some c → c.phase = .held → c.reasons.operator = false →
    LatchedAll .liftHeld t
      ∧ t.withPorts s.ports = s.withContext l (some { c with reasons := { c.reasons with operator := true } })
  held : ∀ c, s.context l = some c → isHoldable c.phase = true → HeldAfter s t l c { operator := true }

/-- What a grant starts for a lifter in a phase (R9, R17): the raise pulse of SHAKE, the time limit of every other
phase. -/
def grantStarts (granted : Bool) (ph : Phase) (now : Nat) : Timer × Option (Valve × Nat) :=
  if granted then (if ph = .shake then (none, some (.raise, now)) else (some now, none)) else (none, none)

/-- A lifter's own side of the entry of a motion phase or RETURNING from context c (R9): its request is placed, both
valves are off and no timer runs until the grant. -/
structure MotionOwn (s t : State) (l : Lifter) (c : LiftContext) (ph : Phase) : Prop where
  context : (t.context l).map bareContext = some (bareContext { stopTimers c with phase := ph })
  timers : (t.context l).map (fun c => (c.phaseTimer, c.pulse)) =
    some (grantStarts (isGranted (t.flow.records.get (.lifter l))) ph s.bodyTimer)
  request : ∃ d, phaseDemand ph = some d ∧ Asked s t (.lifter l) d
  raise : (t.lifter l).raiseValve =
    (isGranted (t.flow.records.get (.lifter l)) && decide (phaseValve ph = some .raise))
  lower : (t.lifter l).lowerValve =
    (isGranted (t.flow.records.get (.lifter l)) && decide (phaseValve ph = some .lower))
  unit : SameUnit (s.lifter l) (t.lifter l)
  fault : (t.lifter l).lastFault = (s.lifter l).lastFault

/-- A lifter's own side of the entry into FAULT from phase ph of context c (R11). -/
structure FaultOwn (s t : State) (l : Lifter) (c : LiftContext) (cause : LiftFaultCause) (ph : Phase) : Prop where
  context : t.context l = some { stopTimers c with remembered := some ph, phase := .fault }
  raiseOff : (t.lifter l).raiseValve = false
  lowerOff : (t.lifter l).lowerValve = false
  flow : t.flow.records.get (.lifter l) = .none
  fault : (t.lifter l).lastFault = some ⟨cause, ph, s.body.clockSeconds⟩
  event : LatchedAll .liftFault t
  unit : SameUnit (s.lifter l) (t.lifter l)

/-- A lifter that enters a motion phase or RETURNING from context c (R9, R11): it asks for flow, or, when the phase is
a motion phase and the angle channel is stale, it faults at entry. -/
structure MovesOrFaults (s t : State) (l : Lifter) (c : LiftContext) (ph : Phase) : Prop where
  moves : (isMotion ph = true → channelFresh s (armAngle l) = true) → MotionOwn s t l c ph
  faults : isMotion ph = true → channelFresh s (armAngle l) = false → FaultOwn s t l c .angleStale ph

/-- The stream of a lift (R5): the entry's, else the argument's, else the lifter's default. -/
def streamFor (u : LifterUnit) (arg : Option Stream) (entry : Option AccountEntry) : Stream :=
  match entry, arg with
  | some e, _ => e.stream
  | none, some st => st
  | none, none => u.settings.defaultStream

/-- The profile bank of a lift (R5): the selection's, and with AUTO the entry's, else the lifter's default. -/
def bankFor (u : LifterUnit) (entry : Option AccountEntry) : Profile :=
  match u.selection, entry with
  | .twoWheel, _ => .twoWheel
  | .fourWheel, _ => .fourWheel
  | .auto, some e => e.profile
  | .auto, none => u.settings.defaultProfile

/-- The fields of a new lift context in RAISE_WEIGH (R7, R8), with no timer running. -/
def contextAtStart (u : LifterUnit) (arg : Option Stream) (tag : Option Nat) (entry : Option AccountEntry)
    (clock : Nat) : LiftContext :=
  { bank := bankFor u entry
    stream := streamFor u arg entry
    tag := tag
    account := entry.map fun e => ⟨e.account, e.tariffClass⟩
    phase := .raiseWeigh
    remembered := none
    reasons := ⟨false, false, false, false, false, false⟩
    gross := none
    tare := none
    retry := 0
    outcome := .ok
    sealWasOpen := false
    dumped := false
    shakesDone := 0
    abortPhase := none
    startTime := clock
    flags := ⟨false, false, false, false, false, false, false⟩
    cyclesGiven := false
    phaseTimer := none
    settleTimer := none
    limitTimer := none
    dwellTimer := none
    pulse := none }

/-- Whether a new request for d units of a consumer, a lifter, is granted at once (R53): the body is RUNNING, no
lifter waits, and the units fit the free supply. -/
def lifterFits (s : State) (d : Nat) : Bool :=
  decide (s.body.state = .running) && !s.flow.waiting.any isLifter && decide (grantedUnits s.flow + d ≤ s.flow.supply)

/-- An accepted lift start besides the lifter's motion (R7, R8): reservation, binding, inhibit line, frame. -/
structure StartAccepted (s t : State) (l : Lifter) (tag : Option Nat) : Prop where
  reserved : t.journal = { s.journal with reservations := s.journal.reservations.set l true }
  slot : t.tags =
    if tag.isSome then { s.tags with pendingTags := s.tags.pendingTags.set l none } else s.tags
  high : claimed s + 1 = 960 → s.journal.reservations.get l = false → LatchedAll .journalHigh t
  full : claimed s + 1 = 1024 → s.journal.reservations.get l = false → LatchedAll .journalFull t
  inhibit : t.body.inhibitLine = true
  body : { t.body with inhibitLine := s.body.inhibitLine, inhibitReasons := s.body.inhibitReasons } = s.body
  compartments : t.compartments = s.compartments
  integrity : t.integrity = s.integrity
  others : OthersKept s t l
  ground : SameGround s t

/-- The packer fields a stroke's entry leaves as they were (R66): mode, settings, dropped count, short strokes. -/
def SamePackerBooks (k m : Packer) : Prop :=
  m.mode = k.mode ∧ m.settings = k.settings ∧ m.dropped = k.dropped ∧ m.shortStrokes = k.shortStrokes

/-- What a command for one packer leaves of everything else: the lifters and the other packer up to grants. -/
structure PackOthersKept (s t : State) (st : Stream) : Prop where
  lifters : ∀ l, LifterUpToGrant (s.lifter l) (t.lifter l)
  packer : ∀ su, su ≠ st → PackerUpToGrant (s.packer su) (t.packer su)
  scan : t.scan = s.scan
  weigh : t.weigh = s.weigh

/-- Both of a packer's channels are FRESH (R73). -/
def PackFresh (s : State) (st : Stream) : Prop :=
  channelFresh s (pressureChannel st) = true ∧ channelFresh s (strokeChannel st) = true

/-- A packer's own side of the entry into a phase of its stroke, with the pending count and the stop given (R69, R76,
R77, R79): its request is placed, its valve is off and its timer stopped until the grant (R70 to R72). -/
structure StrokeOwn (s t : State) (st : Stream) (ph : StrokePhase) (pending : Nat) (stop : Bool) : Prop where
  state : (t.packer st).state = .stroke ph
  count : (t.packer st).pending = pending
  stopping : (t.packer st).stopRequested = stop
  request : Asked s t (.packer st) (strokeDemand ph)
  extend : (t.packer st).extendValve = (isGranted (t.flow.records.get (.packer st)) && decide (ph ≠ .retracting))
  retract : (t.packer st).retractValve = (isGranted (t.flow.records.get (.packer st)) && decide (ph = .retracting))
  timer : (t.packer st).timer = if isGranted (t.flow.records.get (.packer st)) then some s.bodyTimer else none
  fault : (t.packer st).lastFault = (s.packer st).lastFault
  kept : SamePackerBooks (s.packer st) (t.packer st)

/-- Which stale channel faults a packer (R73): PRESSURE_STALE when both are stale. -/
def staleReason (s : State) (st : Stream) : PackFaultCause :=
  if channelFresh s (pressureChannel st) then .strokeStale else .pressureStale

/-- A packer's own side of the entry into FAULT (R73). -/
structure PackFaultOwn (s t : State) (st : Stream) (cause : PackFaultCause) (ph : StrokePhase) (pending : Nat) :
    Prop where
  packer : t.packer st =
    { s.packer st with
      state := .fault
      pending := pending
      stopRequested := false
      lastFault := some ⟨cause, ph, s.body.clockSeconds⟩
      extendValve := false
      retractValve := false
      timer := none }
  flow : t.flow.records.get (.packer st) = .none
  event : LatchedAll .packFault t

/-- A packer that enters a phase of its stroke (R69, R73): it asks for flow, or faults at entry with a stale channel;
everything else is kept up to grants. -/
structure StrokeEntered (s t : State) (st : Stream) (ph : StrokePhase) (pending : Nat) (stop : Bool) : Prop where
  runs : PackFresh s st → StrokeOwn s t st ph pending stop
  faults : ¬ PackFresh s st → PackFaultOwn s t st (staleReason s st) ph pending
  others : PackOthersKept s t st
  books : SameBooks s t

/-- R69: whether an IDLE packer starts a cycle that is asked for. -/
def CycleStarts (s : State) (st : Stream) : Prop :=
  (s.packer st).state = .idle ∧ (s.packer st).mode ≠ .step ∧ s.body.state = .running
    ∧ s.body.tailgate.reading = true

/-- A packer with its lift-triggered cycles added to its pending count, up to 3; the rest is dropped (R75). -/
def withCycles (k : Packer) : Packer :=
  { k with
    pending := max k.pending (min 3 (k.pending + k.settings.liftCycles))
    dropped := max k.dropped (min 65535 (k.dropped + (k.pending + k.settings.liftCycles - max 3 k.pending))) }

/-- R16, R22, R75: a compartment is given its lift-triggered cycles: they are counted, and an IDLE packer with none
pending starts the first at once (R69). The other compartment gets none. -/
structure CyclesGiven (s t : State) (st : Stream) : Prop where
  counted : ¬ CycleStarts s st → PackerUpToGrant (withCycles (s.packer st)) (t.packer st)
  started : CycleStarts s st → PackFresh s st → (s.packer st).pending = 0 →
    0 < (s.packer st).settings.liftCycles → (s.packer st).settings.liftCycles ≤ 3 →
    (t.packer st).state = .stroke .extending ∧ (t.packer st).pending = (s.packer st).settings.liftCycles - 1
      ∧ (t.packer st).dropped = (s.packer st).dropped
  others : ∀ su, su ≠ st → PackerUpToGrant (s.packer su) (t.packer su)

/-- The port's answer, the other ports' services, and what no answer changes: the ports' masks, counts and what is
already latched. -/
structure Answered (s t : State) (p : Port) (n : Byte) (k : Kind) (r : Reply) : Prop where
  own : (t.port p).service = .answering ⟨n, k.code, replyBytes r⟩
  others : ∀ q, q ≠ p → (t.port q).service = (s.port q).service
  settings : ∀ q, (t.port q).mask = (s.port q).mask ∧ (t.port q).errors = (s.port q).errors
    ∧ (t.port q).overruns = (s.port q).overruns
  latches : ∀ q n, (s.port q).latched.getLsbD n = true → (t.port q).latched.getLsbD n = true

/-- A command without an answer leaves services, masks and counts as they were, and clears no latch. -/
structure PortsQuiet (s t : State) : Prop where
  same : ∀ q, { t.port q with latched := 0, attention := false } = { s.port q with latched := 0, attention := false }
  latches : ∀ q n, (s.port q).latched.getLsbD n = true → (t.port q).latched.getLsbD n = true

/-- A port as it was but for its latches and its attention line. -/
def LatchesOnly (x y : PortState) : Prop :=
  { y with latched := x.latched, attention := x.attention } = x

/-! ### EEPROM writes (R134, R209, R211) -/

/-- s with the writes q in flight, the one at the head beginning now (R211): its 5 ms run from now, and a commit takes
its copies of the UNCOMMITTED parts (R134). -/
def begun (q : List WriteJob) (s : State) : State :=
  match q with
  | [] => s.withLoader { s.loader with writes := [], writeStart := none }
  | .commit _ :: rest =>
    (s.withCalib
      { s.calib with
        cal :=
          { left := { s.calib.cal.left with takenSinceCommit := false }
            right := { s.calib.cal.right with takenSinceCommit := false } } }).withLoader
      { s.loader with
        writes := .commit
          { left := if s.calib.cal.left.committed then none else some s.calib.cal.left.items
            right := if s.calib.cal.right.committed then none else some s.calib.cal.right.items } :: rest
        writeStart := some s.bodyTimer }
  | j :: rest => s.withLoader { s.loader with writes := j :: rest, writeStart := some s.bodyTimer }

/-- s with a write handed over (R211): it begins at once when no other is in flight, and waits behind the others. -/
def handed (j : WriteJob) (s : State) : State :=
  if s.loader.writes = [] then begun [j] s
  else s.withLoader { s.loader with writes := s.loader.writes ++ [j] }

/-- What a part may hold after a write of it was cut off or failed (log 7): what it held, what was written, or a
content that fails its check. -/
def PartCut {α : Type} (old : Machine.Part α) (new : α) (x : Machine.Part α) : Prop :=
  x = old ∨ x = ⟨new, true⟩ ∨ x.good = false

/-- What a calibration part may hold after a commit was cut off: a part without a copy keeps its content. -/
def CopyCut (old : Machine.Part CalItems) (copy : Option CalItems) (x : Machine.Part CalItems) : Prop :=
  match copy with
  | some new => PartCut old new x
  | none => x = old

/-- The EEPROM after the write j was cut off (log 7): only the parts of j may have changed. -/
def EepromCut (j : WriteJob) (old x : Eeprom) : Prop :=
  match j with
  | .counter _ _ _ _ n => { x with counter := old.counter } = old ∧ PartCut old.counter n x.counter
  | .commit copies =>
    { x with calibration := old.calibration } = old
      ∧ CopyCut old.calibration.left copies.left x.calibration.left
      ∧ CopyCut old.calibration.right copies.right x.calibration.right
  | .identity _ v => { x with identity := old.identity } = old ∧ PartCut old.identity v x.identity
  | .settings _ v => { x with settings := old.settings } = old ∧ PartCut old.settings v x.settings

/-- The B40 as power-on reset leaves it from s (R209): every block as in State.reset, the readings from the lines, the
buttons, the queue (log 28) and the EEPROM e kept. -/
def poweredOn (s : State) (held : Bool) (load : LoadState) (free : Nat) (e : Eeprom) : State :=
  { State.reset with
    pending := s.pending
    freeIndex := free
    resetHeld := held
    lifters :=
      { left := { State.reset.lifters.left with
          startPressed := s.lifters.left.startPressed, stopPressed := s.lifters.left.stopPressed }
        right := { State.reset.lifters.right with
          startPressed := s.lifters.right.startPressed, stopPressed := s.lifters.right.stopPressed } }
    body := { State.reset.body with
      estop := ⟨s.body.estop.line, s.body.estop.line, none⟩
      tailgate := ⟨s.body.tailgate.line, s.body.tailgate.line, none⟩
      steps := ⟨⟨s.body.steps.left.line, s.body.steps.left.line, none⟩,
        ⟨s.body.steps.right.line, s.body.steps.right.line, none⟩⟩
      inhibitLine := !s.body.tailgate.line
      inhibitReasons := ⟨false, false, !s.body.tailgate.line⟩ }
    calib := { State.reset.calib with
      sealSwitch := ⟨s.calib.sealSwitch.line, s.calib.sealSwitch.line, none⟩ }
    loader := ⟨[], none, load, e⟩ }

/-- Every account entry's word is without error (R183). -/
def CleanTable (s : State) : Prop := ∀ w ∈ s.tags.table, w.health = .clean

/-! ### Ends of lifts (R18, R30, R164 to R168, R174) -/

/-- The net of a pair of weighings (R120, R121): clamped at 0, rounded half up to whole divisions. -/
def netFor (g t : Int) (d : Nat) : Nat := d * ((2 * (g - t).toNat + d) / (2 * d))

/-- The net of a context, when it holds both gross and tare (R18 step 1). -/
def netIn (s : State) (l : Lifter) (c : LiftContext) : Option Nat :=
  match c.gross, c.tare with
  | some g, some t => some (netFor g t ((s.calib.cal.get l).items.division.get c.bank))
  | _, _ => none

/-- The status of a record of a lift that ends at rest (R164): the first cause that applies. -/
def restStatus (s : State) (c : LiftContext) (net : Option Nat) : RecordStatus :=
  if c.sealWasOpen then .unbilledUnsealed
  else if s.calib.identity.toList.any Option.isNone then .unbilledNoIdentity
  else if c.tag = none then .unbilledNoTag
  else if c.account = none then .unbilledUnknownTag
  else if c.outcome ≠ .ok ∨ net = none then .unbilledUnweighed
  else .billed

/-- The entry the completion lookup finds in a table without error (R156): that of the bound tag, when the context
holds an account part. -/
def entryAtEnd (s : State) (c : LiftContext) : Option AccountEntry :=
  if c.account.isSome then (s.tags.table.map Stored.content).find? fun e => decide (c.tag = some e.tag) else none

/-- The allowance handed to the charge unit (R156): 0 when no entry is found. -/
def allowanceAtEnd (s : State) (c : LiftContext) : Nat := ((entryAtEnd s c).map AccountEntry.allowance).getD 0

/-- Whether ACCOUNT_CHANGED is added (R156): the entry is gone, or its account number is another. -/
def accountMoved (s : State) (c : LiftContext) : Bool :=
  match c.account with
  | none => false
  | some a => decide ((entryAtEnd s c).map AccountEntry.account ≠ some a.account)

/-- The flags of a context that ends, before its charge (R18, R45, R120, R121, R156). -/
def flagsAtEnd (s : State) (l : Lifter) (c : LiftContext) : RecordFlags :=
  { c.flags with
    accountChanged := c.flags.accountChanged || accountMoved s c
    negativeNetClamped := c.flags.negativeNetClamped
      || (match c.gross, c.tare with
        | some g, some t => decide (g < t)
        | _, _ => false)
    belowMin := c.flags.belowMin
      || (netIn s l c).any fun n => decide (n < 20 * (s.calib.cal.get l).items.division.get c.bank)
    timeUnsynced := c.flags.timeUnsynced || !s.body.fresh }

/-- The charge of a context that ends BILLED, and the flags it adds (R156, R161, R166 to R168): by the snapshot's
tariff class, the stream's rate, the net and the allowance handed. -/
def chargeAtEnd (s : State) (l : Lifter) (c : LiftContext) : Option Charge × RecordFlags :=
  match c.account, netIn s l c with
  | some a, some n =>
    let x := chargeOf a.tariffClass (s.tags.tariffs.toList.getD a.tariffClass ⟨0, 0, 0, 0⟩) c.stream n
      (allowanceAtEnd s c) (flagsAtEnd s l c)
    (some x.1, x.2)
  | _, _ => (none, flagsAtEnd s l c)

/-- The record of a context c of lifter l that ended in state s (R140, R169), apart from its status; only a BILLED
one has a charge, which may add flags (R165). -/
structure RecordOf (s : State) (l : Lifter) (c : LiftContext) (r : Record) : Prop where
  sequence : r.sequence = s.journal.nextSequence
  who : r.lifter = l ∧ r.profile = c.bank ∧ r.stream = c.stream
  load : r.loadNumber = (s.compartment c.stream).loadNumber
  account : r.tag = c.tag ∧ r.account = c.account
  weighing : r.gross = c.gross ∧ r.tare = c.tare ∧ r.outcome = c.outcome ∧ r.net = netIn s l c
  mass : r.dumpedMass = if c.dumped then (netIn s l c).getD (s.banks.get c.bank).nominalMass else 0
  billed : r.status = .billed → (r.charge, r.flags) = chargeAtEnd s l c
  unbilled : r.status ≠ .billed → r.charge = none ∧ r.flags = flagsAtEnd s l c
  sealed : r.sealWasOpen = c.sealWasOpen
  times : r.startTime = c.startTime ∧ r.completionTime = s.body.clockSeconds
  odometer : r.odometer = s.body.vehicle.map VehicleData.odometer

/-- An entry after the write-back of a lift (R157): one more lift when dumped, the allowance less what was used. -/
def backEntry (dumped : Bool) (used : Nat) (e : AccountEntry) : AccountEntry :=
  { e with
    lifts := if dumped then (if e.lifts < 255 then e.lifts + 1 else e.lifts) else e.lifts
    allowance := e.allowance - used }

/-- The table after the write-back of a lift with context c (R156, R157). -/
def backTable (c : LiftContext) (used : Nat) (table : List (Stored AccountEntry)) : List (Stored AccountEntry) :=
  table.map fun w =>
    if c.account.isSome ∧ c.tag = some w.content.tag then ⟨backEntry c.dumped used w.content, .clean⟩ else w

/-- The allowance used of a record, 0 unless BILLED (R165). -/
def usedIn (r : Record) : Nat := (r.charge.map Charge.used).getD 0

/-- A lift that has ended with record r (R18, R30, R174). -/
structure LiftEnded (s t : State) (l : Lifter) (c : LiftContext) (r : Record) : Prop where
  context : t.context l = none
  raiseOff : (t.lifter l).raiseValve = false
  lowerOff : (t.lifter l).lowerValve = false
  stored : t.journal.slots = s.journal.slots ++ [⟨⟨r, .clean⟩, false⟩]
  next : t.journal.nextSequence = if s.journal.nextSequence = 4294967295 then 1 else s.journal.nextSequence + 1
  place : t.journal.writePos = (s.journal.writePos + 1) % 1024
  freed : t.journal.reservations = s.journal.reservations.set l false
  payload : (t.compartment c.stream).payload = (s.compartment c.stream).payload + r.dumpedMass
  other : ∀ st, st ≠ c.stream → (t.compartment st).payload = (s.compartment st).payload
  table : t.tags.table = backTable c (usedIn r) s.tags.table
  event : LatchedAll .recordWritten t

/-! ### Fill states (R81, R82) -/

/-- The fill state after a judgment, from the count after it (R82). -/
def filledTo (before : FillState) (short : Bool) (count : Nat) : FillState :=
  match before, short with
  | .full, _ => .full
  | _, false => .opened
  | .opened, true => if count = 1 then .opened else .nearFull
  | .nearFull, true => if count < 4 then .nearFull else .full

/-! ### Journal sequences (R176) -/

/-- The sequence number k steps after a sequence number, from 2^32-1 on to 1. -/
def seqAfter (n k : Nat) : Nat := (n - 1 + k) % 4294967295 + 1

/-- The newer sequence numbers that may be named: the 2^31 from the next sequence number on, not held (R176). -/
def NewerSeq (s : State) (n : Nat) : Prop :=
  (∀ w ∈ s.journal.slots, slotSequence w ≠ n) ∧ ∃ k, k < 2147483648 ∧ n = seqAfter s.journal.nextSequence k

/-- The older sequence numbers: neither held nor newer (R176). -/
def OlderSeq (s : State) (n : Nat) : Prop := (∀ w ∈ s.journal.slots, slotSequence w ≠ n) ∧ ¬ NewerSeq s n

/-- A journal of which every record can be read without error (R183, R188). -/
def CleanJournal (s : State) : Prop := ∀ w ∈ s.journal.slots, w.damaged = false ∧ w.stored.health = .clean

/-- The records of the slots from an index on, at most n of them. -/
def recordsFrom (s : State) (i n : Nat) : List Record :=
  ((s.journal.slots.drop i).take n).map fun w => w.stored.content

/-! ### Kinds of commands -/

/-- The commands that load the working calibration, the counter or the identity, or reset the B40. -/
def isLoad : Instr → Bool
  | .powerOnReset => true
  | .resetLineAssert => true
  | .resetLineRelease => true
  | .loadPartRead _ => true
  | _ => false

/-- Whether a command is a Put Account. -/
def isPutAccount : Instr → Bool
  | .putAccount _ _ _ => true
  | _ => false

end Sys2Proof.Safety
end

