-- ==== Sys2Proof/WellFormed.lean ====
section
/-! DEFINITION. What a command must satisfy to be one the B40 can be given at all. Everything a link partner can put
into a good frame is well formed: arguments out of their range are the machine's to answer. -/

namespace Sys2Proof

/-- The converter's widest raw range, that of the load cells (R89). -/
def WellFormed.conversion : Option Int → Bool
  | some v => decide (-524288 ≤ v) && decide (v ≤ 524287)
  | none => true

/-- A frame's payload has at most 120 bytes (R193). -/
def WellFormed.payload (d : List Byte) : Bool := decide (d.length ≤ maxPayload)

/-- A bad frame's cause can be a length byte only when that byte is above 120 (R194). -/
def WellFormed.badFrame : BadFrameCause → Bool
  | .lengthByte n => decide (maxPayload < n.toNat)
  | .missingStopBit => true
  | .crcMismatch => true

/-- Well-formedness of a command. -/
def wellFormed : Instr → Bool
  | .startLift _ _ d => WellFormed.payload d
  | .stopLift _ _ d => WellFormed.payload d
  | .resumeLift _ _ d => WellFormed.payload d
  | .abortLift _ _ d => WellFormed.payload d
  | .selectProfile _ _ d => WellFormed.payload d
  | .setBank _ _ d => WellFormed.payload d
  | .setLifterDefaults _ _ d => WellFormed.payload d
  | .setTagThreshold _ _ d => WellFormed.payload d
  | .packCycle _ _ d => WellFormed.payload d
  | .packStop _ _ d => WellFormed.payload d
  | .packStep _ _ d => WellFormed.payload d
  | .packResume _ _ d => WellFormed.payload d
  | .setPackMode _ _ d => WellFormed.payload d
  | .setPackerSettings _ _ d => WellFormed.payload d
  | .setPayloadLimits _ _ d => WellFormed.payload d
  | .unloadComplete _ _ d => WellFormed.payload d
  | .resumeBody _ _ d => WellFormed.payload d
  | .bodyReset _ _ d => WellFormed.payload d
  | .saveSettings _ _ d => WellFormed.payload d
  | .readAccount _ _ d => WellFormed.payload d
  | .putAccount _ _ d => WellFormed.payload d
  | .deleteAccount _ _ d => WellFormed.payload d
  | .clearAccounts _ _ d => WellFormed.payload d
  | .setRoutePolicy _ _ d => WellFormed.payload d
  | .clearCounters _ _ d => WellFormed.payload d
  | .readTariff _ _ d => WellFormed.payload d
  | .putTariff _ _ d => WellFormed.payload d
  | .readJournal _ _ d => WellFormed.payload d
  | .journalStatus _ _ d => WellFormed.payload d
  | .acknowledgeJournal _ _ d => WellFormed.payload d
  | .readCalibration _ _ d => WellFormed.payload d
  | .readCounter _ _ d => WellFormed.payload d
  | .writeCalibration _ _ d => WellFormed.payload d
  | .readIdentity _ _ d => WellFormed.payload d
  | .writeIdentity _ _ d => WellFormed.payload d
  | .vehicleData _ _ d => WellFormed.payload d
  | .bodyStatus _ _ d => WellFormed.payload d
  | .lifterStatus _ _ d => WellFormed.payload d
  | .flowStatus _ _ d => WellFormed.payload d
  | .compartmentStatus _ _ d => WellFormed.payload d
  | .weighStatus _ _ d => WellFormed.payload d
  | .tagStatus _ _ d => WellFormed.payload d
  | .integrityStatus _ _ d => WellFormed.payload d
  | .linkStatus _ _ d => WellFormed.payload d
  | .readEvents _ _ d => WellFormed.payload d
  | .clearEvents _ _ d => WellFormed.payload d
  | .setEventMask _ _ d => WellFormed.payload d
  | .scanStatus _ _ d => WellFormed.payload d
  | .setScanRing _ _ d => WellFormed.payload d
  | .readAccess _ _ d => WellFormed.payload d
  | .setAccess _ _ d => WellFormed.payload d
  | .lockMap _ _ d => WellFormed.payload d
  | .unknownKindRequest _ _ k d => (Kind.ofCode k).isNone && WellFormed.payload d
  | .badFrame _ c => WellFormed.badFrame c
  | .frameGapTimeout _ => true
  | .overrun _ => true
  | .answerSent _ => true
  | .inputLineChange _ => true
  | .estopReadingActive => true
  | .estopReadingReleased => true
  | .tailgateReadingNotClosed => true
  | .tailgateReadingClosed => true
  | .stepReadingOccupied _ => true
  | .stepReadingFree _ => true
  | .sealReadingOpen => true
  | .sealReadingClosed => true
  | .rearStartPress _ => true
  | .rearStopPress _ => true
  | .rearButtonRelease _ _ => true
  | .tagRead _ _ _ _ => true
  | .powerOnReset => true
  | .resetLineAssert => true
  | .resetLineRelease => true
  | .loadPartRead _ => true
  | .bodyResetPassEnd => true
  | .liftPhaseTimeout _ => true
  | .returnTimeLimit _ => true
  | .settleExpiry _ => true
  | .weighPhaseLimitExpiry _ => true
  | .dumpDwellExpiry _ => true
  | .shakePulseEnd _ => true
  | .vehicleFreshnessExpiry => true
  | .routeClockSecond => true
  | .flowWaitTimeout _ => true
  | .extendTimerExpiry _ => true
  | .packDwellExpiry _ => true
  | .retractTimerExpiry _ => true
  | .ringConversionComplete r => WellFormed.conversion r
  | .insertedConversionComplete r => WellFormed.conversion r
  | .channelFreshnessExpiry _ => true
  | .weighComputationEnd => true
  | .counterWriteEnd _ => true
  | .commitEnd _ => true
  | .identityWriteEnd _ => true
  | .settingsWriteEnd _ => true

end Sys2Proof
end

