-- ==== Sys2Proof/Certificates/Slice0/Obligations.lean ====
section
/-! DEFINITION. The statements for the provers, each with the rules of spec/ it formalises. A port's checks stand in
Accepts; what an answered request leaves is written with replied or Answered. Statements that rest on a choice of the
model name its log entry. -/

open Sys2Proof Sys2Proof.Machine Sys2Proof.Safety

/-! ### The block's shell: queue, body timer, frames, ports -/

/-- The step takes the command at the front of the queue and runs it with the queue's rest. -/
def Obligations.StepTakesFrontCommand : Prop :=
  ∀ (i : Instr) (rest : List Instr) (s : State),
    s.pending = i :: rest → step s = exec i (s.withPending rest)

/-- With no command waiting (the model's choice, log 1 and log 2): nothing while the reset line is held; else one due
expiry is put into the queue, chosen freely when several are due; when none is due, a millisecond passes. The due
expiries are exactly those whose timer runs and has run for its whole duration, the reading changes of R33 whose line
has held the opposite level for 10 ms, and the route clock's second when its remainder has reached 1,000 (R44). -/
def Obligations.IdleStepPassesTime : Prop :=
  ∀ (s : State), s.pending = [] →
    (s.resetHeld = true → step s = .next s)
      ∧ (s.resetHeld = false → dueExpiries s = [] →
          step s = .next ((s.withBodyTimer (s.bodyTimer + 1)).withBody
            { s.body with clockMillis := s.body.clockMillis + 1 }))
      ∧ (s.resetHeld = false → dueExpiries s ≠ [] →
          ∃ i ∈ dueExpiries s, ∃ k ≤ 1,
            step s = .next ((s.withPending [i]).withFreeIndex (s.freeIndex + k)))
      ∧ ∀ i : Instr, i ∈ dueExpiries s ↔ isDue s i = true

/-- Every command completes, and none touches the queue, which a reset keeps (the model's choice, log 28); the body
timer and the reset line are moved by power-on reset and the reset line only: a body reset keeps the body timer (the
model's choice, log 10). -/
def Obligations.CommandsKeepQueue : Prop :=
  ∀ (i : Instr) (s : State),
    ∃ t, exec i s = .next t ∧ t.pending = s.pending
      ∧ (i ≠ .powerOnReset → i ≠ .resetLineAssert → i ≠ .resetLineRelease →
          t.bodyTimer = s.bodyTimer ∧ t.resetHeld = s.resetHeld)

/-- R193, R194, R216: a request's frame is judged as that request and every proper beginning of it as not yet
complete. At a HUNTING port bytes other than the start byte are discarded, the frame's bytes make it RECEIVING, and
its last byte puts exactly that request into the queue; a missing stop bit, a length above 120 or another CRC makes
the frame bad and the port HUNTING. That a character is handed to a port besides the rows of the table is the
model's choice (log 18). -/
def Obligations.FrameRoundTrip : Prop :=
  ∀ (i : Instr) (p : Port) (n k b : Byte) (d noise : List Byte) (last : Nat) (s : State),
    wellFormed i = true → i.frameParts = some (p, n, k, d) → s.resetHeld = false →
      encodeFrame i = some (frameBytes n k d)
        ∧ judgeFrame p ((frameBytes n k d).map fun x => (x, true)) = .good i
        ∧ (∀ m, m < (frameBytes n k d).length → 0 < m →
            judgeFrame p (((frameBytes n k d).take m).map fun x => (x, true)) = .incomplete)
        ∧ ((s.port p).receive = .hunting → (∀ x ∈ noise, x ≠ 0x7E) →
            receiveBytes p (noise ++ frameBytes n k d) s = s.withPending (s.pending ++ [i])
              ∧ ∀ m, m < (frameBytes n k d).length → 0 < m →
                receiveBytes p (noise ++ (frameBytes n k d).take m) s =
                  s.withPort p { s.port p with receive := .receiving ((frameBytes n k d).take m) s.bodyTimer })
        ∧ (∀ m, m < (frameBytes n k d).length → 0 < m →
            (s.port p).receive = .receiving ((frameBytes n k d).take m) last →
            receiveByte p b false s = (s.withPort p { s.port p with receive := .hunting }).withPending
              (s.pending ++ [.badFrame p .missingStopBit]))
        ∧ ((s.port p).receive = .receiving [0x7E] last → 120 < b.toNat →
            receiveByte p b true s = (s.withPort p { s.port p with receive := .hunting }).withPending
              (s.pending ++ [.badFrame p (.lengthByte b)]))
        ∧ ((s.port p).receive = .receiving (frameBytes n k d).dropLast last →
            (frameBytes n k d).getLast? ≠ some b →
            receiveByte p b true s = (s.withPort p { s.port p with receive := .hunting }).withPending
              (s.pending ++ [.badFrame p .crcMismatch]))

/-- The checks of a port (R196) for every kind of the catalogue, in their order, and the overrun of a port IN_SERVICE
(R195); an ACCESS_DENIED sets ACCESS_VIOLATION in that port (R199). That the reset line stops every request, and that
a good frame at a port IN_SERVICE is an overrun command's effect too, are the model's (log 19, log 20). -/
def Obligations.PortChecksRefuse : Prop :=
  ∀ (k : Kind) (p : Port) (n : Byte) (d : List Byte) (s : State),
    (s.resetHeld = true → exec (k.request p n d) s = .next s)
      ∧ (s.resetHeld = false → (s.port p).service ≠ .idle →
          exec (k.request p n d) s = .next (s.withPort p
            (({ s.port p with
                receive := .hunting, overruns := saturatingSucc 65535 (s.port p).overruns }).latch .linkError)))
      ∧ (s.resetHeld = false → (s.port p).service = .idle → rightGranted s p k = false →
          exec (k.request p n d) s = .next (replied p n k .accessDenied
            (s.withPort p ((s.port p).latch .accessViolation))))
      ∧ (s.resetHeld = false → (s.port p).service = .idle → rightGranted s p k = true →
          s.body.state = .starting → takenWhileStarting k = false →
          exec (k.request p n d) s = .next (replied p n k .notReady s))
      ∧ (s.resetHeld = false → (s.port p).service = .idle → rightGranted s p k = true →
          (s.body.state = .starting → takenWhileStarting k = true) → lengthAllowed k d.length = false →
          exec (k.request p n d) s = .next (replied p n k .badArgument s))

/-- Bad frames and gaps (R194), overruns and the end of an answer (R195), and frames of no catalogued kind (R196). A
gap ends the frame coming in once 2 ms have passed since its last character. The clauses without an effect are the
model's (log 3, log 19). -/
def Obligations.LinkEventsCounted : Prop :=
  ∀ (p : Port) (cause : BadFrameCause) (n k : Byte) (d : List Byte) (a : Answer) (s : State),
    (s.resetHeld = false →
        exec (.badFrame p cause) s = .next (s.withPort p
          (({ s.port p with
              receive := .hunting, errors := saturatingSucc 65535 (s.port p).errors }).latch .linkError)))
      ∧ (s.resetHeld = false → due s (gapOf (s.port p).receive) 2 = true →
          exec (.frameGapTimeout p) s = .next (s.withPort p
            (({ s.port p with
                receive := .hunting, errors := saturatingSucc 65535 (s.port p).errors }).latch .linkError)))
      ∧ (due s (gapOf (s.port p).receive) 2 = false → exec (.frameGapTimeout p) s = .next s)
      ∧ ((s.port p).service ≠ .idle →
          exec (.overrun p) s = .next (s.withPort p
            (({ s.port p with
                receive := .hunting, overruns := saturatingSucc 65535 (s.port p).overruns }).latch .linkError)))
      ∧ ((s.port p).service = .idle → exec (.overrun p) s = .next s)
      ∧ ((s.port p).service = .answering a →
          exec (.answerSent p) s = .next (s.withPort p { s.port p with service := .idle }))
      ∧ ((∀ b, (s.port p).service ≠ .answering b) → exec (.answerSent p) s = .next s)
      ∧ (s.resetHeld = false → (s.port p).service = .idle →
          exec (.unknownKindRequest p n k d) s = .next (sent p n k .badArgument s))
      ∧ (s.resetHeld = false → (s.port p).service ≠ .idle →
          exec (.unknownKindRequest p n k d) s = exec (.overrun p) s)

/-- The status and data reads answer OK with their data as it stands and change nothing but the port's service; a
lifter, a compartment or a class that does not exist is answered BAD_ARGUMENT. How two-valued fields, grouped
optional fields and the flow and weigh records are laid out and how classes, ports and phases are numbered is the
model's reading (log 12, log 13, log 35, log 38, log 42, log 43, log 44), and so is that Link Status shows the
asking port IN_SERVICE (log 40). -/
def Obligations.StatusReadsAnswer : Prop :=
  ∀ (p : Port) (n : Byte) (d : List Byte) (s : State),
    (Accepts .bodyStatus p d s →
        exec (.bodyStatus p n d) s = .next (replied p n .bodyStatus (.ok (bodyStatusBytes s)) s)
          ∧ (bodyStatusBytes s).length = 38)
      ∧ (Accepts .lifterStatus p d s → ∀ l, lifterArg (byteAt d 0) = some l →
        exec (.lifterStatus p n d) s = .next (replied p n .lifterStatus (.ok (lifterStatusBytes l s)) s)
          ∧ (lifterStatusBytes l s).length = 39)
      ∧ (Accepts .lifterStatus p d s → lifterArg (byteAt d 0) = none →
        exec (.lifterStatus p n d) s = .next (replied p n .lifterStatus .badArgument s))
      ∧ (Accepts .flowStatus p d s →
        exec (.flowStatus p n d) s = .next (replied p n .flowStatus (.ok (flowStatusBytes s)) s)
          ∧ (flowStatusBytes s).length = 21 + s.flow.waiting.length)
      ∧ (Accepts .compartmentStatus p d s → ∀ st, streamArg (byteAt d 0) = some st →
        exec (.compartmentStatus p n d) s =
            .next (replied p n .compartmentStatus (.ok (compartmentStatusBytes st s)) s)
          ∧ (compartmentStatusBytes st s).length = 42)
      ∧ (Accepts .compartmentStatus p d s → streamArg (byteAt d 0) = none →
        exec (.compartmentStatus p n d) s = .next (replied p n .compartmentStatus .badArgument s))
      ∧ (Accepts .weighStatus p d s →
        exec (.weighStatus p n d) s = .next (replied p n .weighStatus (.ok (weighStatusBytes s)) s)
          ∧ (weighStatusBytes s).length = 71 + s.weigh.queue.length)
      ∧ (Accepts .tagStatus p d s →
        exec (.tagStatus p n d) s = .next (replied p n .tagStatus (.ok (tagStatusBytes s)) s)
          ∧ (tagStatusBytes s).length = 61)
      ∧ (Accepts .integrityStatus p d s →
        exec (.integrityStatus p n d) s = .next (replied p n .integrityStatus (.ok (integrityStatusBytes s)) s)
          ∧ (integrityStatusBytes s).length = 4)
      ∧ (Accepts .linkStatus p d s → ∀ t, t = s.withPort p { s.port p with
            receive := .hunting, service := .waiting n Kind.linkStatus.code } →
        exec (.linkStatus p n d) s = .next (replied p n .linkStatus (.ok (linkStatusBytes t)) s)
          ∧ (linkStatusBytes t).length = 18)
      ∧ (Accepts .readEvents p d s →
        exec (.readEvents p n d) s = .next (replied p n .readEvents (.ok (readEventsBytes (s.port p))) s)
          ∧ (readEventsBytes (s.port p)).length = 9)
      ∧ (Accepts .scanStatus p d s →
        exec (.scanStatus p n d) s = .next (replied p n .scanStatus (.ok (scanStatusBytes s.scan)) s)
          ∧ (scanStatusBytes s.scan).length = 107)
      ∧ (Accepts .readAccess p d s →
        exec (.readAccess p n d) s = .next (replied p n .readAccess (.ok (accessBytes s.access)) s)
          ∧ (accessBytes s.access).length = 85)
      ∧ (Accepts .journalStatus p d s →
        exec (.journalStatus p n d) s =
            .next (replied p n .journalStatus (.ok (journalStatusBytes s.journal)) s))
      ∧ (Accepts .readCounter p d s →
        exec (.readCounter p n d) s = .next (replied p n .readCounter (.ok (beBytes 2 s.calib.counter)) s))
      ∧ (Accepts .readIdentity p d s →
        exec (.readIdentity p n d) s = .next (replied p n .readIdentity (.ok (identityBytes s)) s)
          ∧ (identityBytes s).length = 33)
      ∧ (Accepts .readCalibration p d s → ∀ l, lifterArg (byteAt d 0) = some l →
        exec (.readCalibration p n d) s =
            .next (replied p n .readCalibration (.ok (calibrationBytes l s)) s)
          ∧ (calibrationBytes l s).length = 61)
      ∧ (Accepts .readCalibration p d s → lifterArg (byteAt d 0) = none →
        exec (.readCalibration p n d) s = .next (replied p n .readCalibration .badArgument s))
      ∧ (Accepts .readTariff p d s → byteAt d 0 ≤ 15 →
        exec (.readTariff p n d) s = .next (replied p n .readTariff
          (.ok (tariffBytes (byteAt d 0) (tariffOf s (byteAt d 0)) ++ [if byteAt d 0 = 0 then 1 else 0])) s))
      ∧ (Accepts .readTariff p d s → 15 < byteAt d 0 →
        exec (.readTariff p n d) s = .next (replied p n .readTariff .badArgument s))

/-- A read kind changes no state but its port's service and, through the integrity monitor, the account table, the
journal's slots, the correction counters and latches, the other ports' by latches alone; with no error in either
memory it changes nothing but its port (R198). -/
def Obligations.ReadsChangeNothing : Prop :=
  ∀ (k : Kind) (p : Port) (n : Byte) (d : List Byte) (s : State), kindReads k = true →
    ∃ t, exec (k.request p n d) s = .next t
      ∧ ((t.withTags { t.tags with table := s.tags.table }).withJournal
            { t.journal with slots := s.journal.slots }).withIntegrity s.integrity
          = s.withPorts t.ports
      ∧ (∀ q, q ≠ p → LatchesOnly (s.port q) (t.port q))
      ∧ (∀ q m, (s.port q).latched.getLsbD m = true → (t.port q).latched.getLsbD m = true)
      ∧ (CleanTable s → (∀ w ∈ s.journal.slots, w.damaged = true ∨ w.stored.health = .clean) →
          t = s.withPort p (t.port p))

/-! ### Lifts -/

/-- R25: Stop Lift is answered OK in every state and holds its lifter; a rear stop press has the same effect without
an answer. -/
def Obligations.StopLiftHolds : Prop :=
  ∀ (p : Port) (n : Byte) (d : List Byte) (l : Lifter) (s : State),
    (Accepts .stopLift p d s → lifterArg (byteAt d 0) = some l →
        ∃ t, exec (.stopLift p n d) s = .next t ∧ Answered s t p n .stopLift (.ok []) ∧ StopEffect s t l)
      ∧ (Accepts .stopLift p d s → lifterArg (byteAt d 0) = none →
        exec (.stopLift p n d) s = .next (replied p n .stopLift .badArgument s))
      ∧ (s.resetHeld = false → (s.lifter l).stopPressed = false →
        ∃ t, exec (.rearStopPress l) s = .next t
          ∧ PortsQuiet s t ∧ StopEffect (s.withLifter l { s.lifter l with stopPressed := true }) t l)

/-- R3, R4, R5, R7, R8, R11: a Start Lift whose nine checks pass is accepted, with the stream and the bank of R5 and
the fields of R8; it raises at once when the body's free flow allows it and no lifter waits (R53), and with a stale
angle channel it faults at its entry into RAISE_WEIGH. The lookup of check 6 leaves s1. -/
def Obligations.StartLiftAccepted : Prop :=
  ∀ (p : Port) (n : Byte) (d : List Byte) (l : Lifter) (arg : Option Stream) (tag : Option Nat)
    (entry : Option AccountEntry) (s s1 : State),
    Accepts .startLift p d s → lifterArg (byteAt d 0) = some l →
    optionalStreamArg (byteAt d 1) (byteAt d 2) = some arg → s.context l = none →
    s.flow.records.get (.lifter l) = .none → firstFailure (startChecks l s) = none →
    tagPermission l s = (.granted tag entry, s1) →
    firstFailure (settleChecks (streamFor (s.lifter l) arg entry) s1) = none →
      ∃ t, exec (.startLift p n d) s = .next t ∧ Answered s t p n .startLift (.ok [])
        ∧ StartAccepted s1 t l tag
        ∧ MovesOrFaults s1 t l (contextAtStart (s.lifter l) arg tag entry s.body.clockSeconds) .raiseWeigh
        ∧ (channelFresh s (armAngle l) = true → lifterFits s 6 = true →
            t.flow.records.get (.lifter l) = .granted 6)
        ∧ (channelFresh s (armAngle l) = true → lifterFits s 6 = false → GrantLaw s →
            Consumer.lifter l ∉ s.flow.waiting →
            t.flow.records.get (.lifter l) = .waiting 6 s.bodyTimer)

/-- R3, R4, R6: a Start Lift is refused with the first failing check, which writes the last refusal and sets
LIFT_REFUSED and nothing else; outside IDLE it is BUSY. That a bad argument is answered before the state is looked at
is the model's choice (log 14). -/
def Obligations.StartLiftRefused : Prop :=
  ∀ (p : Port) (n : Byte) (d : List Byte) (l : Lifter) (arg : Option Stream) (tag : Option Nat)
    (entry : Option AccountEntry) (r : Reason) (s s1 : State), Accepts .startLift p d s →
    (lifterArg (byteAt d 0) = some l → optionalStreamArg (byteAt d 1) (byteAt d 2) = some arg →
        s.context l = none → firstFailure (startChecks l s) = some r →
        exec (.startLift p n d) s = .next (replied p n .startLift (.refused r)
          (latchAll .liftRefused
            (s.withLifter l { s.lifter l with lastRefusal := some ⟨r, .port p, s.body.clockSeconds⟩ }))))
      ∧ (lifterArg (byteAt d 0) = some l → optionalStreamArg (byteAt d 1) (byteAt d 2) = some arg →
        s.context l = none → firstFailure (startChecks l s) = none → tagPermission l s = (.refused r, s1) →
        exec (.startLift p n d) s = .next (replied p n .startLift (.refused r)
          (latchAll .liftRefused
            (s1.withLifter l { s1.lifter l with lastRefusal := some ⟨r, .port p, s1.body.clockSeconds⟩ }))))
      ∧ (lifterArg (byteAt d 0) = some l → optionalStreamArg (byteAt d 1) (byteAt d 2) = some arg →
        s.context l = none → firstFailure (startChecks l s) = none →
        tagPermission l s = (.granted tag entry, s1) →
        firstFailure (settleChecks (streamFor (s.lifter l) arg entry) s1) = some r →
        exec (.startLift p n d) s = .next (replied p n .startLift (.refused r)
          (latchAll .liftRefused
            (s1.withLifter l { s1.lifter l with lastRefusal := some ⟨r, .port p, s1.body.clockSeconds⟩ }))))
      ∧ (lifterArg (byteAt d 0) = some l → optionalStreamArg (byteAt d 1) (byteAt d 2) = some arg →
        s.context l ≠ none → exec (.startLift p n d) s = .next (replied p n .startLift .busy s))
      ∧ (lifterArg (byteAt d 0) = none ∨ optionalStreamArg (byteAt d 1) (byteAt d 2) = none →
        exec (.startLift p n d) s = .next (replied p n .startLift .badArgument s))

/-- R26 (with R3 to R8 and R21): a rear start press is a start in IDLE, accepted or refused as a Start Lift without
a stream, and a resume in HELD, taken or without effect; it is ignored in other states and while the stop button is
pressed. That a button already pressed is not pressed again is the model's choice (log 23). -/
def Obligations.RearStartPressActs : Prop :=
  ∀ (l : Lifter) (tag : Option Nat) (entry : Option AccountEntry) (r : Reason) (c : LiftContext) (ph : Phase)
    (s s0 s1 : State),
    s.resetHeld = false → s0 = s.withLifter l { s.lifter l with startPressed := true } →
    ((s.lifter l).startPressed = true → exec (.rearStartPress l) s = .next s)
      ∧ ((s.lifter l).startPressed = false → (s.lifter l).stopPressed = true →
        exec (.rearStartPress l) s = .next s0)
      ∧ ((s.lifter l).startPressed = false → (s.lifter l).stopPressed = false → s.context l = none →
        s.flow.records.get (.lifter l) = .none → firstFailure (startChecks l s) = none →
        tagPermission l s0 = (.granted tag entry, s1) →
        firstFailure (settleChecks (streamFor (s.lifter l) none entry) s1) = none →
        ∃ t, exec (.rearStartPress l) s = .next t ∧ PortsQuiet s t
          ∧ StartAccepted s1 t l tag
          ∧ MovesOrFaults s1 t l (contextAtStart (s.lifter l) none tag entry s.body.clockSeconds) .raiseWeigh)
      ∧ ((s.lifter l).startPressed = false → (s.lifter l).stopPressed = false → s.context l = none →
        firstFailure (startChecks l s) = some r →
        exec (.rearStartPress l) s = .next (latchAll .liftRefused
          (s0.withLifter l { s0.lifter l with lastRefusal := some ⟨r, .rear, s.body.clockSeconds⟩ })))
      ∧ ((s.lifter l).startPressed = false → (s.lifter l).stopPressed = false → s.context l = none →
        firstFailure (startChecks l s) = none → tagPermission l s0 = (.refused r, s1) →
        exec (.rearStartPress l) s = .next (latchAll .liftRefused
          (s1.withLifter l { s1.lifter l with lastRefusal := some ⟨r, .rear, s.body.clockSeconds⟩ })))
      ∧ ((s.lifter l).startPressed = false → (s.lifter l).stopPressed = false → s.context l = none →
        firstFailure (startChecks l s) = none → tagPermission l s0 = (.granted tag entry, s1) →
        firstFailure (settleChecks (streamFor (s.lifter l) none entry) s1) = some r →
        exec (.rearStartPress l) s = .next (latchAll .liftRefused
          (s1.withLifter l { s1.lifter l with lastRefusal := some ⟨r, .rear, s.body.clockSeconds⟩ })))
      ∧ ((s.lifter l).startPressed = false → (s.lifter l).stopPressed = false → s.context l = some c →
        c.phase = .held → firstFailure (resumeChecks l c.reasons s) = some r →
        exec (.rearStartPress l) s = .next s0)
      ∧ ((s.lifter l).startPressed = false → (s.lifter l).stopPressed = false → s.context l = some c →
        c.phase = .held → firstFailure (resumeChecks l c.reasons s) = none → c.remembered = some ph →
        s.flow.records.get (.lifter l) = .none → moves ph →
        ∃ t, exec (.rearStartPress l) s = .next t ∧ PortsQuiet s t
          ∧ MovesOrFaults s0 t l { c with reasons := {}, remembered := none } ph ∧ OthersKept s t l ∧ SameBooks s t)
      ∧ ((s.lifter l).startPressed = false → (s.lifter l).stopPressed = false → s.context l = some c →
        c.phase = .held → firstFailure (resumeChecks l c.reasons s) = none → c.remembered = some ph →
        isWeigh ph = true → (s.weigh.drift.get l).disabled = false →
        exec (.rearStartPress l) s = .next (s0.withLifter l
          { s0.lifter l with
            raiseValve := false
            lowerValve := false
            context := some
              { stopTimers c with
                reasons := {}
                remembered := none
                phase := ph
                settleTimer := some s.bodyTimer
                limitTimer := some s.bodyTimer } }))
      ∧ ((s.lifter l).startPressed = false → (s.lifter l).stopPressed = false → s.context l = some c →
        c.phase = .held → firstFailure (resumeChecks l c.reasons s) = none → c.remembered = some ph →
        s.flow.records.get (.lifter l) = .none → isWeigh ph = true → (s.weigh.drift.get l).disabled = true →
        ∃ t, exec (.rearStartPress l) s = .next t ∧ PortsQuiet s t
          ∧ MovesOrFaults s0 t l { c with reasons := {}, remembered := none, outcome := .zeroDrift } (afterWeigh ph)
          ∧ OthersKept s t l ∧ SameBooks s t)
      ∧ ((s.lifter l).startPressed = false → (s.lifter l).stopPressed = false → s.context l = some c →
        c.phase = .held → firstFailure (resumeChecks l c.reasons s) = none → c.remembered = some .dumpDwell →
        exec (.rearStartPress l) s = .next (s0.withLifter l
          { s0.lifter l with
            raiseValve := false
            lowerValve := false
            context := some
              { stopTimers c with
                reasons := {}
                remembered := none
                phase := .dumpDwell
                dumped := true
                dwellTimer := some s.bodyTimer } }))
      ∧ ((s.lifter l).startPressed = false → (s.lifter l).stopPressed = false → s.context l = some c →
        c.phase ≠ .held → exec (.rearStartPress l) s = .next s0)
      ∧ ((s.lifter l).stopPressed = true → exec (.rearStopPress l) s = .next s)

/-- R144, R154: with the table in order and without error, check 6 answers by the policies and the entry of the usable
pending tag, and the lookup changes nothing. -/
def Obligations.TagPermissionDecided : Prop :=
  ∀ (l : Lifter) (s : State), TableLaw s → CleanTable s → tagPermission l s = (permissionFor l s, s)

/-- R9, R11, R12, R21, R124: a Resume Lift of a HELD lifter re-enters the remembered phase when every reason has
cleared, and is refused with the first uncleared one otherwise; of a lifter that is not HELD it is BUSY. -/
def Obligations.ResumeLiftDecided : Prop :=
  ∀ (p : Port) (n : Byte) (d : List Byte) (l : Lifter) (c : LiftContext) (ph : Phase) (r : Reason) (s : State),
    Accepts .resumeLift p d s →
    (lifterArg (byteAt d 0) = some l → s.phase l ≠ some .held →
        exec (.resumeLift p n d) s = .next (replied p n .resumeLift .busy s))
      ∧ (lifterArg (byteAt d 0) = none →
        exec (.resumeLift p n d) s = .next (replied p n .resumeLift .badArgument s))
      ∧ (lifterArg (byteAt d 0) = some l → s.context l = some c → c.phase = .held →
        firstFailure (resumeChecks l c.reasons s) = some r →
        exec (.resumeLift p n d) s = .next (replied p n .resumeLift (.refused r) s))
      ∧ (lifterArg (byteAt d 0) = some l → s.context l = some c → c.phase = .held → c.remembered = some ph →
        firstFailure (resumeChecks l c.reasons s) = none → s.flow.records.get (.lifter l) = .none → moves ph →
        ∃ t, exec (.resumeLift p n d) s = .next t ∧ Answered s t p n .resumeLift (.ok [])
          ∧ MovesOrFaults s t l { c with reasons := {}, remembered := none } ph
          ∧ OthersKept s t l ∧ SameBooks s t)
      ∧ (lifterArg (byteAt d 0) = some l → s.context l = some c → c.phase = .held → c.remembered = some ph →
        firstFailure (resumeChecks l c.reasons s) = none → isWeigh ph = true →
        (s.weigh.drift.get l).disabled = false →
        exec (.resumeLift p n d) s = .next (replied p n .resumeLift (.ok []) (s.withLifter l
          { s.lifter l with
            raiseValve := false
            lowerValve := false
            context := some
              { stopTimers c with
                reasons := {}
                remembered := none
                phase := ph
                settleTimer := some s.bodyTimer
                limitTimer := some s.bodyTimer } })))
      ∧ (lifterArg (byteAt d 0) = some l → s.context l = some c → c.phase = .held → c.remembered = some ph →
        firstFailure (resumeChecks l c.reasons s) = none → s.flow.records.get (.lifter l) = .none →
        isWeigh ph = true → (s.weigh.drift.get l).disabled = true →
        ∃ t, exec (.resumeLift p n d) s = .next t ∧ Answered s t p n .resumeLift (.ok [])
          ∧ MovesOrFaults s t l { c with reasons := {}, remembered := none, outcome := .zeroDrift } (afterWeigh ph)
          ∧ OthersKept s t l ∧ SameBooks s t)
      ∧ (lifterArg (byteAt d 0) = some l → s.context l = some c → c.phase = .held →
        c.remembered = some .dumpDwell → firstFailure (resumeChecks l c.reasons s) = none →
        exec (.resumeLift p n d) s = .next (replied p n .resumeLift (.ok []) (s.withLifter l
          { s.lifter l with
            raiseValve := false
            lowerValve := false
            context := some
              { stopTimers c with
                reasons := {}
                remembered := none
                phase := .dumpDwell
                dumped := true
                dwellTimer := some s.bodyTimer } })))

/-- R22 (with R9, R75, R103, R110): an Abort Lift is answered OK in IDLE, refused for a HELD or FAULT lifter of a
HALTED body, and otherwise sends the lifter into RETURNING with its first abort phase kept, a weigh phase's window
withdrawn and the lift-triggered cycles still owed given to its compartment. -/
def Obligations.AbortLiftReturns : Prop :=
  ∀ (p : Port) (n : Byte) (d : List Byte) (l : Lifter) (c : LiftContext) (ph : Phase) (s : State),
    Accepts .abortLift p d s →
    (lifterArg (byteAt d 0) = some l → s.context l = none →
        exec (.abortLift p n d) s = .next (replied p n .abortLift (.ok []) s))
      ∧ (lifterArg (byteAt d 0) = none →
        exec (.abortLift p n d) s = .next (replied p n .abortLift .badArgument s))
      ∧ (lifterArg (byteAt d 0) = some l → s.body.state = .halted →
        s.phase l = some .held ∨ s.phase l = some .fault →
        exec (.abortLift p n d) s = .next (replied p n .abortLift (.refused .bodyNotRunning) s))
      ∧ (lifterArg (byteAt d 0) = some l → s.context l = some c → FlowLaw s →
        ¬ (s.body.state = .halted ∧ (c.phase = .held ∨ c.phase = .fault)) →
        (if c.phase = .held ∨ c.phase = .fault then c.remembered = some ph else c.phase = ph) →
        ∃ t, exec (.abortLift p n d) s = .next t ∧ Answered s t p n .abortLift (.ok [])
          ∧ MotionOwn s t l
            { c with
              reasons := {}
              remembered := none
              abortPhase := some (c.abortPhase.getD ph)
              cyclesGiven := c.cyclesGiven || c.dumped } .returning
          ∧ LifterUpToGrant (s.lifter (otherLifter l)) (t.lifter (otherLifter l))
          ∧ (isWeigh c.phase = true → WindowGone s t l)
          ∧ (isWeigh c.phase = false → t.scan = s.scan ∧ t.weigh = s.weigh)
          ∧ (c.dumped = false ∨ c.cyclesGiven = true → OthersKept s t l)
          ∧ (c.dumped = true → c.cyclesGiven = false → CyclesGiven s t c.stream)
          ∧ SameBooks s t)

/-- R2, R27, R28, R142, R67, R68, R84: the requests that set lifter, packer and limit settings: a value out of range
is answered BAD_ARGUMENT (before the state is looked at, log 14), a state or a Save Settings write in flight BUSY,
and otherwise the setting is replaced; a Set Pack Mode that leaves STEP with cycles pending starts one where R69
allows. How the fitted field, the selections and the modes are coded is the model's reading of R217 (log 12, log
35). -/
def Obligations.SettingsRequests : Prop :=
  ∀ (p : Port) (n : Byte) (d : List Byte) (l : Lifter) (sel : Selection) (b : Profile) (bank : Bank)
    (ls : LifterSettings) (st : Stream) (m : PackMode) (ps : PackerSettings) (x y z : Nat) (s : State),
    (Accepts .selectProfile p d s → lifterArg (byteAt d 0) = some l → selectionArg (byteAt d 1) = some sel →
        exec (.selectProfile p n d) s =
          .next (replied p n .selectProfile (.ok []) (s.withLifter l { s.lifter l with selection := sel })))
      ∧ (Accepts .selectProfile p d s → lifterArg (byteAt d 0) = none ∨ selectionArg (byteAt d 1) = none →
        exec (.selectProfile p n d) s = .next (replied p n .selectProfile .badArgument s))
      ∧ (Accepts .setBank p d s → profileArg (byteAt d 0) = some b → bankArg d = some bank →
        exec (.setBank p n d) s = .next
          (if (s.context .left).map LiftContext.bank = some b ∨ (s.context .right).map LiftContext.bank = some b
            ∨ s.loader.writes.any isSettingsJob = true then
            replied p n .setBank .busy s
          else replied p n .setBank (.ok []) (s.withBanks (s.banks.set b bank))))
      ∧ (Accepts .setBank p d s → profileArg (byteAt d 0) = none ∨ bankArg d = none →
        exec (.setBank p n d) s = .next (replied p n .setBank .badArgument s))
      ∧ (Accepts .setLifterDefaults p d s → lifterArg (byteAt d 0) = some l → lifterSettingsArg d = some ls →
        exec (.setLifterDefaults p n d) s = .next
          (if s.context l ≠ none ∨ s.loader.writes.any isSettingsJob = true then
            replied p n .setLifterDefaults .busy s
          else replied p n .setLifterDefaults (.ok []) (s.withLifter l { s.lifter l with settings := ls })))
      ∧ (Accepts .setLifterDefaults p d s → lifterArg (byteAt d 0) = none ∨ lifterSettingsArg d = none →
        exec (.setLifterDefaults p n d) s = .next (replied p n .setLifterDefaults .badArgument s))
      ∧ (Accepts .setTagThreshold p d s →
        exec (.setTagThreshold p n d) s = .next
          (if 15 < byteAt d 0 then replied p n .setTagThreshold .badArgument s
          else if s.loader.writes.any isSettingsJob = true then replied p n .setTagThreshold .busy s
          else replied p n .setTagThreshold (.ok []) (s.withTags { s.tags with threshold := byteAt d 0 })))
      ∧ (Accepts .setPackMode p d s → streamArg (byteAt d 0) = some st → modeArg (byteAt d 1) = some m →
        (s.packer st).state ≠ .idle ∨ s.loader.writes.any isSettingsJob = true →
        exec (.setPackMode p n d) s = .next (replied p n .setPackMode .busy s))
      ∧ (Accepts .setPackMode p d s → streamArg (byteAt d 0) = some st → modeArg (byteAt d 1) = some m →
        (s.packer st).state = .idle → s.loader.writes.any isSettingsJob = false →
        (s.packer st).mode ≠ .step ∨ m = .step ∨ (s.packer st).pending = 0 ∨ s.body.state ≠ .running
          ∨ s.body.tailgate.reading = false →
        exec (.setPackMode p n d) s =
          .next (replied p n .setPackMode (.ok []) (s.withPacker st { s.packer st with mode := m })))
      ∧ (Accepts .setPackMode p d s → streamArg (byteAt d 0) = some st → modeArg (byteAt d 1) = some m →
        (s.packer st).state = .idle → s.loader.writes.any isSettingsJob = false →
        (s.packer st).mode = .step → m ≠ .step → 0 < (s.packer st).pending →
        s.body.state = .running → s.body.tailgate.reading = true → s.flow.records.get (.packer st) = .none →
        ∃ t, exec (.setPackMode p n d) s = .next t ∧ Answered s t p n .setPackMode (.ok [])
          ∧ StrokeEntered (s.withPacker st { s.packer st with mode := m }) t st .extending
              ((s.packer st).pending - 1) (s.packer st).stopRequested)
      ∧ (Accepts .setPackMode p d s → streamArg (byteAt d 0) = none ∨ modeArg (byteAt d 1) = none →
        exec (.setPackMode p n d) s = .next (replied p n .setPackMode .badArgument s))
      ∧ (Accepts .setPackerSettings p d s → streamArg (byteAt d 0) = some st → packerSettingsArg d = some ps →
        exec (.setPackerSettings p n d) s = .next
          (if (s.packer st).state ≠ .idle ∨ s.loader.writes.any isSettingsJob = true then
            replied p n .setPackerSettings .busy s
          else replied p n .setPackerSettings (.ok []) (s.withPacker st { s.packer st with settings := ps })))
      ∧ (Accepts .setPackerSettings p d s → streamArg (byteAt d 0) = none ∨ packerSettingsArg d = none →
        exec (.setPackerSettings p n d) s = .next (replied p n .setPackerSettings .badArgument s))
      ∧ (Accepts .setPayloadLimits p d s → limitsArg d = none →
        exec (.setPayloadLimits p n d) s = .next (replied p n .setPayloadLimits .badArgument s))
      ∧ (Accepts .setPayloadLimits p d s → limitsArg d = some (x, y, z) →
        s.loader.writes.any isSettingsJob = true →
        exec (.setPayloadLimits p n d) s = .next (replied p n .setPayloadLimits .busy s))
      ∧ (Accepts .setPayloadLimits p d s → limitsArg d = some (x, y, z) →
        s.loader.writes.any isSettingsJob = false →
        exec (.setPayloadLimits p n d) s = .next (replied p n .setPayloadLimits (.ok [])
          (evaluateLimits ((s.withCompartments
            { residual := { s.compartments.residual with limit := x }
              recycle := { s.compartments.recycle with limit := y } }).withBodyLimit z))))

/-- R10, R12, R16, R124: a motion phase under its grant ends at the first arm-angle reading that reaches its target,
and the next phase of R1 is entered; a weigh phase of a lifter that drift has disabled ends at its entry with
ZERO_DRIFT, and the phase after it is entered. A reading that does not reach the target changes no lifter. -/
def Obligations.ArmReadingEndsPhase : Prop :=
  ∀ (l : Lifter) (c : LiftContext) (v : Int) (u target : Nat) (s : State),
    s.scan.converter = .ring → s.scan.ringPos = armAngle l → inRing s.scan (armAngle l) = true →
    0 ≤ v → v ≤ 4095 → s.context l = some c → s.flow.records.get (.lifter l) = .granted u →
    phaseTarget l c s = some target →
    ∃ t, exec (.ringConversionComplete (some v)) s = .next t ∧ PortsQuiet s t
      ∧ (¬ (if c.phase = .raiseWeigh ∨ c.phase = .raiseDump then target ≤ (v * 225).toNat / 512 + 15
            else (v * 225).toNat / 512 ≤ target + 15) →
          t.lifters = s.lifters ∧ t.flow = s.flow ∧ t.packers = s.packers ∧ SameBooks s t)
      ∧ (target ≤ (v * 225).toNat / 512 + 15 → c.phase = .raiseWeigh → (s.weigh.drift.get l).disabled = false →
          t.context l = some
            { stopTimers c with
              phase := .grossWeigh
              retry := 0
              settleTimer := some s.bodyTimer
              limitTimer := some s.bodyTimer }
          ∧ (t.lifter l).raiseValve = false ∧ (t.lifter l).lowerValve = false
          ∧ t.flow.records.get (.lifter l) = .none ∧ SameUnit (s.lifter l) (t.lifter l) ∧ SameBooks s t)
      ∧ (target ≤ (v * 225).toNat / 512 + 15 → c.phase = .raiseDump →
          t.context l = some
            { stopTimers c with phase := .dumpDwell, dumped := true, dwellTimer := some s.bodyTimer }
          ∧ (t.lifter l).raiseValve = false ∧ (t.lifter l).lowerValve = false
          ∧ t.flow.records.get (.lifter l) = .none ∧ SameUnit (s.lifter l) (t.lifter l) ∧ SameBooks s t)
      ∧ ((v * 225).toNat / 512 ≤ target + 15 → c.phase = .lowerWeigh → (s.weigh.drift.get l).disabled = false →
          t.context l = some
            { stopTimers c with
              phase := .tareWeigh
              retry := 0
              settleTimer := some s.bodyTimer
              limitTimer := some s.bodyTimer }
          ∧ (t.lifter l).raiseValve = false ∧ (t.lifter l).lowerValve = false
          ∧ t.flow.records.get (.lifter l) = .none ∧ SameUnit (s.lifter l) (t.lifter l) ∧ SameBooks s t)
      ∧ (target ≤ (v * 225).toNat / 512 + 15 → c.phase = .raiseWeigh → (s.weigh.drift.get l).disabled = true →
          MotionOwn s t l { c with retry := 0, outcome := .zeroDrift } .raiseDump ∧ SameBooks s t)
      ∧ ((v * 225).toNat / 512 ≤ target + 15 → c.phase = .lowerWeigh → (s.weigh.drift.get l).disabled = true →
          MotionOwn s t l { c with retry := 0, outcome := .zeroDrift } .lowerRest ∧ SameBooks s t)

/-- R18, R23, R156, R157, R164 to R168, R174: a lift that reaches rest ends with one record, the write-back and the
payload increase: from LOWER_REST with the status of R164 and, when BILLED, the charge by the snapshot's class and
the allowance handed; from RETURNING (by its reading or by its 4,000 ms from the grant) ABORTED. A limit that is
stopped or has not run out has no effect (log 3), and that every record holds the context's "seal was open" is the
model's choice (log 41). -/
def Obligations.LiftCompletes : Prop :=
  ∀ (l : Lifter) (c : LiftContext) (v : Int) (u : Nat) (s : State),
    TableLaw s → CleanTable s → s.context l = some c →
    (s.scan.converter = .ring → s.scan.ringPos = armAngle l → 0 ≤ v → v ≤ 4095 →
        s.flow.records.get (.lifter l) = .granted u → c.phase = .lowerRest →
        (v * 225).toNat / 512 ≤ (s.lifter l).settings.restAngle + 15 →
        ∃ t r, exec (.ringConversionComplete (some v)) s = .next t ∧ PortsQuiet s t ∧ RecordOf s l c r
          ∧ r.status = restStatus s c r.net ∧ r.abortPhase = none ∧ LiftEnded s t l c r)
      ∧ (s.scan.converter = .ring → s.scan.ringPos = armAngle l → 0 ≤ v → v ≤ 4095 →
        s.flow.records.get (.lifter l) = .granted u → c.phase = .returning →
        (v * 225).toNat / 512 ≤ (s.lifter l).settings.restAngle + 15 →
        ∃ t r, exec (.ringConversionComplete (some v)) s = .next t ∧ PortsQuiet s t ∧ RecordOf s l c r
          ∧ r.status = .aborted ∧ r.abortPhase = c.abortPhase ∧ LiftEnded s t l c r)
      ∧ (c.phase = .returning → due s c.phaseTimer 4000 = true →
        ∃ t r, exec (.returnTimeLimit l) s = .next t ∧ PortsQuiet s t ∧ RecordOf s l c r
          ∧ r.status = .aborted ∧ r.abortPhase = c.abortPhase ∧ LiftEnded s t l c r)
      ∧ (c.phase ≠ .returning ∨ due s c.phaseTimer 4000 = false → exec (.returnTimeLimit l) s = .next s)

/-- R9, R11, R12, R14, R15, R98, R103, R110: the time limit of a motion phase faults the lifter, with its phase
remembered and its flow given back; the settle timer arms a window of the calibration's size; the weigh-phase limit
withdraws the window and enters the state after the phase with TIMEOUT. A timer that does not run or has not run out
has no effect (log 3). -/
def Obligations.LifterTimersExpire : Prop :=
  ∀ (l : Lifter) (c : LiftContext) (s : State), s.context l = some c →
    (isMotion c.phase = true → c.phase ≠ .shake → due s c.phaseTimer
          (if c.phase = .raiseWeigh ∨ c.phase = .raiseDump then (s.banks.get c.bank).raiseTimeout
           else (s.banks.get c.bank).lowerTimeout) = true →
        ∃ t, exec (.liftPhaseTimeout l) s = .next t ∧ PortsQuiet s t
          ∧ FaultOwn s t l c .phaseTimeout c.phase ∧ OthersKept s t l ∧ SameBooks s t
          ∧ t.scan = s.scan ∧ t.weigh = s.weigh)
      ∧ (isMotion c.phase = false ∨ c.phase = .shake ∨ due s c.phaseTimer
          (if c.phase = .raiseWeigh ∨ c.phase = .raiseDump then (s.banks.get c.bank).raiseTimeout
           else (s.banks.get c.bank).lowerTimeout) = false →
        exec (.liftPhaseTimeout l) s = .next s)
      ∧ (due s c.settleTimer 200 = true → s.scan.buffers.get l = .empty →
        exec (.settleExpiry l) s = .next
          ((s.withContext l (some { c with settleTimer := none })).withBuffer l
            (.filling (if (s.calib.cal.get l).valid then (s.calib.cal.get l).items.windowSize else 32) [])))
      ∧ (due s c.settleTimer 200 = false → exec (.settleExpiry l) s = .next s)
      ∧ (due s c.limitTimer 1500 = true → isWeigh c.phase = true → s.flow.records.get (.lifter l) = .none →
        ∃ t, exec (.weighPhaseLimitExpiry l) s = .next t ∧ PortsQuiet s t ∧ WindowGone s t l
          ∧ MovesOrFaults s t l { c with outcome := .timeout } (afterWeigh c.phase)
          ∧ OthersKept s t l ∧ SameBooks s t)
      ∧ (due s c.limitTimer 1500 = false → exec (.weighPhaseLimitExpiry l) s = .next s)

/-- R16, R17: the dump dwell's expiry gives the lift-triggered cycles and enters SHAKE, or its successor when the
shake count is 0; each shake is a raise pulse and a lower pulse of 150 ms, and the last lower pulse ends SHAKE. A
dwell or a pulse that is stopped or has not run out has no effect (log 3). -/
def Obligations.DumpDwellAndShake : Prop :=
  ∀ (l : Lifter) (c : LiftContext) (x : Nat) (s : State), s.context l = some c →
    (due s c.dwellTimer (s.banks.get c.bank).dumpDwell = true → FlowLaw s → s.flow.records.get (.lifter l) = .none →
        ∃ t, exec (.dumpDwellExpiry l) s = .next t ∧ PortsQuiet s t
          ∧ MovesOrFaults s t l { c with cyclesGiven := true }
              (if 0 < (s.banks.get c.bank).shakeCount then .shake
               else if c.gross.isSome then .lowerWeigh else .lowerRest)
          ∧ LifterUpToGrant (s.lifter (otherLifter l)) (t.lifter (otherLifter l))
          ∧ CyclesGiven s t c.stream
          ∧ t.scan = s.scan ∧ t.weigh = s.weigh ∧ SameBooks s t)
      ∧ (due s c.dwellTimer (s.banks.get c.bank).dumpDwell = false → exec (.dumpDwellExpiry l) s = .next s)
      ∧ (c.pulse = some (.raise, x) → x + 150 ≤ s.bodyTimer →
        exec (.shakePulseEnd l) s = .next (s.withLifter l
          { s.lifter l with
            raiseValve := false
            lowerValve := true
            context := some { c with pulse := some (.lower, s.bodyTimer) } }))
      ∧ (c.pulse = some (.lower, x) → x + 150 ≤ s.bodyTimer →
        c.shakesDone + 1 ≠ (s.banks.get c.bank).shakeCount →
        exec (.shakePulseEnd l) s = .next (s.withLifter l
          { s.lifter l with
            raiseValve := true
            lowerValve := false
            context := some { c with shakesDone := c.shakesDone + 1, pulse := some (.raise, s.bodyTimer) } }))
      ∧ (c.pulse = some (.lower, x) → x + 150 ≤ s.bodyTimer → c.shakesDone + 1 = (s.banks.get c.bank).shakeCount →
        isGranted (s.flow.records.get (.lifter l)) = true →
        ∃ t, exec (.shakePulseEnd l) s = .next t ∧ PortsQuiet s t
          ∧ MovesOrFaults s t l { c with shakesDone := c.shakesDone + 1 }
              (if c.gross.isSome then .lowerWeigh else .lowerRest)
          ∧ OthersKept s t l ∧ SameBooks s t)
      ∧ (due s (c.pulse.map Prod.snd) 150 = false → exec (.shakePulseEnd l) s = .next s)

/-! ### Packers and compartments -/

/-- R69, R73, R74: a Pack Cycle below three pending cycles is answered OK and adds one, which an IDLE packer may start
at once; at three it is answered FULL and counted as dropped. -/
def Obligations.PackCycleCounts : Prop :=
  ∀ (p : Port) (n : Byte) (d : List Byte) (st : Stream) (s : State), Accepts .packCycle p d s →
    (streamArg (byteAt d 0) = none →
        exec (.packCycle p n d) s = .next (replied p n .packCycle .badArgument s))
      ∧ (streamArg (byteAt d 0) = some st → 3 ≤ (s.packer st).pending →
        exec (.packCycle p n d) s = .next (replied p n .packCycle (.full [])
          (s.withPacker st { s.packer st with
            dropped := if (s.packer st).dropped < 65535 then (s.packer st).dropped + 1
              else (s.packer st).dropped })))
      ∧ (streamArg (byteAt d 0) = some st → (s.packer st).pending < 3 → ¬ CycleStarts s st →
        exec (.packCycle p n d) s = .next (replied p n .packCycle (.ok [])
          (s.withPacker st { s.packer st with pending := (s.packer st).pending + 1 })))
      ∧ (streamArg (byteAt d 0) = some st → (s.packer st).pending < 3 → CycleStarts s st →
        s.flow.records.get (.packer st) = .none →
        ∃ t, exec (.packCycle p n d) s = .next t ∧ Answered s t p n .packCycle (.ok [])
          ∧ StrokeEntered s t st .extending (s.packer st).pending (s.packer st).stopRequested)

/-- R76: a Pack Stop is answered OK in every state and empties the pending count; its further effect by the state. -/
def Obligations.PackStopByState : Prop :=
  ∀ (p : Port) (n : Byte) (d : List Byte) (st : Stream) (ph : StrokePhase) (r : PackHoldReasons) (s : State),
    Accepts .packStop p d s →
    (streamArg (byteAt d 0) = none →
        exec (.packStop p n d) s = .next (replied p n .packStop .badArgument s))
      ∧ (streamArg (byteAt d 0) = some st → (s.packer st).state = .idle ∨ (s.packer st).state = .halted →
        exec (.packStop p n d) s = .next (replied p n .packStop (.ok [])
          (s.withPacker st { s.packer st with pending := 0 })))
      ∧ (streamArg (byteAt d 0) = some st → (s.packer st).state = .stroke .extending →
        ∃ t, exec (.packStop p n d) s = .next t ∧ Answered s t p n .packStop (.ok [])
          ∧ StrokeEntered s t st .retracting 0 true)
      ∧ (streamArg (byteAt d 0) = some st →
        (s.packer st).state = .stroke .dwell ∨ (s.packer st).state = .stroke .retracting →
        exec (.packStop p n d) s = .next (replied p n .packStop (.ok [])
          (s.withPacker st { s.packer st with pending := 0, stopRequested := true })))
      ∧ (streamArg (byteAt d 0) = some st → (s.packer st).state = .paused .extended →
        s.flow.records.get (.packer st) = .none →
        ∃ t, exec (.packStop p n d) s = .next t ∧ Answered s t p n .packStop (.ok [])
          ∧ StrokeEntered s t st .retracting 0 true)
      ∧ (streamArg (byteAt d 0) = some st → (s.packer st).state = .paused .retracted →
        exec (.packStop p n d) s = .next (replied p n .packStop (.ok [])
          (s.withPacker st
            { stopPacker (s.packer st) with pending := 0, state := .idle, stopRequested := false })))
      ∧ (streamArg (byteAt d 0) = some st → (s.packer st).state = .held ph r → s.body.tailgate.reading = true →
        s.flow.records.get (.packer st) = .none →
        ∃ t, exec (.packStop p n d) s = .next t ∧ Answered s t p n .packStop (.ok [])
          ∧ StrokeEntered s t st .retracting 0 true)
      ∧ (streamArg (byteAt d 0) = some st → (s.packer st).state = .held ph r → s.body.tailgate.reading = false →
        exec (.packStop p n d) s = .next (replied p n .packStop (.ok [])
          (s.withPacker st { s.packer st with
            pending := 0, stopRequested := true, state := .held .retracting r })))
      ∧ (streamArg (byteAt d 0) = some st → (s.packer st).state = .fault → s.body.state = .running →
        exec (.packStop p n d) s = .next (replied p n .packStop (.ok [])
          (s.withPacker st
            { stopPacker (s.packer st) with pending := 0, state := .idle, stopRequested := false })))
      ∧ (streamArg (byteAt d 0) = some st → (s.packer st).state = .fault → s.body.state = .halted →
        exec (.packStop p n d) s = .next (replied p n .packStop (.ok [])
          (s.withPacker st { s.packer st with pending := 0, state := .halted })))

/-- R77, R79: Pack Step starts and continues the strokes of a STEP packer, Pack Resume re-enters the phase of a HELD
packer, both only with the tailgate CLOSED; every other state is answered as the rule's table gives. That a packer
that is not in STEP is answered NOT_STEP_MODE in every state, also in FAULT and HALTED, is the model's choice (log
39). -/
def Obligations.PackStepAndResume : Prop :=
  ∀ (p : Port) (n : Byte) (d : List Byte) (st : Stream) (ph : StrokePhase) (r : PackHoldReasons) (s : State),
    (Accepts .packStep p d s → streamArg (byteAt d 0) = none →
        exec (.packStep p n d) s = .next (replied p n .packStep .badArgument s))
      ∧ (Accepts .packStep p d s → streamArg (byteAt d 0) = some st → (s.packer st).mode ≠ .step →
        exec (.packStep p n d) s = .next (replied p n .packStep (.refused .notStepMode) s))
      ∧ (Accepts .packStep p d s → streamArg (byteAt d 0) = some st → (s.packer st).mode = .step →
        (s.packer st).state = .stroke ph ∨ (s.packer st).state = .held ph r ∨ (s.packer st).state = .fault →
        exec (.packStep p n d) s = .next (replied p n .packStep .busy s))
      ∧ (Accepts .packStep p d s → streamArg (byteAt d 0) = some st → (s.packer st).mode = .step →
        (s.packer st).state = .halted →
        exec (.packStep p n d) s = .next (replied p n .packStep (.refused .bodyNotRunning) s))
      ∧ (Accepts .packStep p d s → streamArg (byteAt d 0) = some st → (s.packer st).mode = .step →
        (s.packer st).state = .idle ∨ (s.packer st).state = .paused .extended
          ∨ (s.packer st).state = .paused .retracted → s.body.tailgate.reading = false →
        exec (.packStep p n d) s = .next (replied p n .packStep (.refused .tailgateOpen) s))
      ∧ (Accepts .packStep p d s → streamArg (byteAt d 0) = some st → (s.packer st).mode = .step →
        (s.packer st).state = .idle ∨ (s.packer st).state = .paused .retracted → s.body.tailgate.reading = true →
        s.flow.records.get (.packer st) = .none →
        ∃ t, exec (.packStep p n d) s = .next t ∧ Answered s t p n .packStep (.ok [])
          ∧ StrokeEntered s t st .extending ((s.packer st).pending - 1) (s.packer st).stopRequested)
      ∧ (Accepts .packStep p d s → streamArg (byteAt d 0) = some st → (s.packer st).mode = .step →
        (s.packer st).state = .paused .extended → s.body.tailgate.reading = true →
        s.flow.records.get (.packer st) = .none →
        ∃ t, exec (.packStep p n d) s = .next t ∧ Answered s t p n .packStep (.ok [])
          ∧ StrokeEntered s t st .retracting (s.packer st).pending (s.packer st).stopRequested)
      ∧ (Accepts .packResume p d s → streamArg (byteAt d 0) = none →
        exec (.packResume p n d) s = .next (replied p n .packResume .badArgument s))
      ∧ (Accepts .packResume p d s → streamArg (byteAt d 0) = some st →
        (∀ ph r, (s.packer st).state ≠ .held ph r) →
        exec (.packResume p n d) s = .next (replied p n .packResume .busy s))
      ∧ (Accepts .packResume p d s → streamArg (byteAt d 0) = some st → (s.packer st).state = .held ph r →
        s.body.tailgate.reading = false →
        exec (.packResume p n d) s = .next (replied p n .packResume (.refused .tailgateOpen) s))
      ∧ (Accepts .packResume p d s → streamArg (byteAt d 0) = some st → (s.packer st).state = .held ph r →
        s.body.tailgate.reading = true → s.flow.records.get (.packer st) = .none →
        ∃ t, exec (.packResume p n d) s = .next t ∧ Answered s t p n .packResume (.ok [])
          ∧ StrokeEntered s t st ph (s.packer st).pending (s.packer st).stopRequested)

/-- R85: a compartment byte outside its list is BAD_ARGUMENT before the state is looked at (log 14). Unload Complete
is refused with the first of its six conditions that fails; taken, it empties the compartment, advances its load
number, clears its counts and flag, and re-evaluates the limit-reached flags. It sets no event where these flags
stand as their limits give them. -/
def Obligations.UnloadCompleteEmpties : Prop :=
  ∀ (p : Port) (n : Byte) (d : List Byte) (st : Stream) (r : Reason) (s : State), Accepts .unloadComplete p d s →
    (streamArg (byteAt d 0) = none →
        exec (.unloadComplete p n d) s = .next (replied p n .unloadComplete .badArgument s))
      ∧ (streamArg (byteAt d 0) = some st → firstFailure (unloadChecks st s) = some r →
        exec (.unloadComplete p n d) s = .next (replied p n .unloadComplete (.refused r) s))
      ∧ (streamArg (byteAt d 0) = some st → firstFailure (unloadChecks st s) = none →
        exec (.unloadComplete p n d) s = .next (replied p n .unloadComplete (.ok [])
          (evaluateLimits (((s.withCompartment st
            { s.compartment st with
              payload := 0
              fill := .opened
              loadNumber := if (s.compartment st).loadNumber = 4294967295 then 1
                else (s.compartment st).loadNumber + 1 }).withPacker st { s.packer st with shortStrokes := 0 }).withBody
            { s.body with tailgateCycled := s.body.tailgateCycled.set st false }))))
      ∧ (streamArg (byteAt d 0) = some st → firstFailure (unloadChecks st s) = none → LimitLaw s →
        ∃ t, exec (.unloadComplete p n d) s = .next t ∧ ∀ q, (t.port q).latched = (s.port q).latched)

/-- R70 to R73: the 8,000 ms extend and the 6,000 ms retract timer fault the packer; the expiry of the 500 ms dwell
gives the units back and pauses a STEP packer at EXTENDED, and sends every other into RETRACTING. A timer of another
phase, and one that is stopped or has not run out, has no effect (log 3). -/
def Obligations.PackerTimersExpire : Prop :=
  ∀ (st : Stream) (s : State),
    ((s.packer st).state = .stroke .extending → due s (s.packer st).timer 8000 = true →
        ∃ t, exec (.extendTimerExpiry st) s = .next t ∧ PortsQuiet s t
          ∧ PackFaultOwn s t st .extendTimeout .extending (s.packer st).pending
          ∧ PackOthersKept s t st ∧ SameBooks s t)
      ∧ ((s.packer st).state = .stroke .retracting → due s (s.packer st).timer 6000 = true →
        ∃ t, exec (.retractTimerExpiry st) s = .next t ∧ PortsQuiet s t
          ∧ PackFaultOwn s t st .retractTimeout .retracting (s.packer st).pending
          ∧ PackOthersKept s t st ∧ SameBooks s t)
      ∧ ((s.packer st).state = .stroke .dwell → due s (s.packer st).timer 500 = true →
        isGranted (s.flow.records.get (.packer st)) = true → (s.packer st).mode = .step →
        (s.packer st).stopRequested = false →
        ∃ t, exec (.packDwellExpiry st) s = .next t ∧ PortsQuiet s t
          ∧ t.packer st = { stopPacker (s.packer st) with state := .paused .extended }
          ∧ t.flow.records.get (.packer st) = .none ∧ PackOthersKept s t st ∧ SameBooks s t)
      ∧ ((s.packer st).state = .stroke .dwell → due s (s.packer st).timer 500 = true →
        isGranted (s.flow.records.get (.packer st)) = true →
        (s.packer st).mode ≠ .step ∨ (s.packer st).stopRequested = true →
        ∃ t, exec (.packDwellExpiry st) s = .next t ∧ PortsQuiet s t
          ∧ StrokeEntered s t st .retracting (s.packer st).pending (s.packer st).stopRequested)
      ∧ ((s.packer st).state ≠ .stroke .extending ∨ due s (s.packer st).timer 8000 = false →
        exec (.extendTimerExpiry st) s = .next s)
      ∧ ((s.packer st).state ≠ .stroke .retracting ∨ due s (s.packer st).timer 6000 = false →
        exec (.retractTimerExpiry st) s = .next s)
      ∧ ((s.packer st).state ≠ .stroke .dwell ∨ due s (s.packer st).timer 500 = false →
        exec (.packDwellExpiry st) s = .next s)

/-- R70, R72, R81, R82: a conversion of the pressure or the stroke channel under the grant ends an extend whose
pressure or stroke is at its limit, with the fill judgment and the events of R82's table; a stroke conversion ends a
retract at or below the retracted reading in IDLE, PAUSED or a new cycle. A conversion changes no packer that stands
otherwise, and none that still waits for its grant: there it latches nothing, but for the ZERO_DRIFT that a pass
ending with this channel may bring (R94, R122, R124). -/
def Obligations.PackerReadingsEndStrokes : Prop :=
  ∀ (st : Stream) (ch : Fin 12) (v q r : Int) (u : Nat) (s : State),
    s.scan.converter = .ring → s.scan.ringPos = ch → inRing s.scan ch = true → 0 ≤ r → r ≤ 4095 →
    (ch = strokeChannel st ∧ r = v ∧ channelFresh s (pressureChannel st) = true
        ∧ channelValue s (pressureChannel st) = some q
      ∨ ch = pressureChannel st ∧ r = q ∧ channelFresh s (strokeChannel st) = true
        ∧ channelValue s (strokeChannel st) = some v) →
    (s.flow.records.get (.packer st) = .granted u →
    ∃ t, exec (.ringConversionComplete (some r)) s = .next t ∧ PortsQuiet s t ∧ SameGround s t
      ∧ ((s.packer st).state = .stroke .extending →
          q < (s.packer st).settings.pressureLimit → v < (s.packer st).settings.fullStroke →
          t.packers = s.packers ∧ t.compartments = s.compartments ∧ t.flow = s.flow)
      ∧ ((s.packer st).state = .stroke .extending →
          (s.packer st).settings.pressureLimit ≤ q ∨ (s.packer st).settings.fullStroke ≤ v →
          t.packer st = { s.packer st with
              state := .stroke .dwell
              timer := some s.bodyTimer
              shortStrokes :=
                if (s.packer st).settings.pressureLimit ≤ q
                    ∧ (v - (s.packer st).settings.retracted) * 10
                      < (((s.packer st).settings.fullStroke : Int) - (s.packer st).settings.retracted) * 9 then
                  (if (s.packer st).shortStrokes < 255 then (s.packer st).shortStrokes + 1
                   else (s.packer st).shortStrokes)
                else 0 }
          ∧ t.flow = s.flow
          ∧ t.compartment st = { s.compartment st with
              fill := filledTo (s.compartment st).fill (decide (0 < (t.packer st).shortStrokes))
                (t.packer st).shortStrokes }
          ∧ ((t.compartment st).fill = .nearFull → (s.compartment st).fill ≠ .nearFull → LatchedAll .nearFull t)
          ∧ ((t.compartment st).fill = .full → (s.compartment st).fill ≠ .full → LatchedAll .full t))
      ∧ (∀ y, (t.port y).latched.holds .nearFull = true → (s.port y).latched.holds .nearFull = true
          ∨ (t.compartment st).fill = .nearFull ∧ (s.compartment st).fill ≠ .nearFull)
      ∧ (∀ y, (t.port y).latched.holds .full = true → (s.port y).latched.holds .full = true
          ∨ (t.compartment st).fill = .full ∧ (s.compartment st).fill ≠ .full)
      ∧ ((s.packer st).state = .stroke .dwell ∨ (s.packer st).state = .stroke .retracting
            ∧ (ch ≠ strokeChannel st ∨ (s.packer st).settings.retracted < v) →
          t.packers = s.packers ∧ t.compartments = s.compartments ∧ t.flow = s.flow)
      ∧ (ch = strokeChannel st → (s.packer st).state = .stroke .retracting →
          v ≤ (s.packer st).settings.retracted → (s.packer st).stopRequested = false → (s.packer st).mode = .step →
          t.packer st = { stopPacker (s.packer st) with state := .paused .retracted }
            ∧ t.flow.records.get (.packer st) = .none)
      ∧ (ch = strokeChannel st → (s.packer st).state = .stroke .retracting →
          v ≤ (s.packer st).settings.retracted → (s.packer st).stopRequested = false →
          (s.packer st).mode = .continuous → (s.compartment st).fill ≠ .full →
          StrokeOwn s t st .extending ((s.packer st).pending - 1) false)
      ∧ (ch = strokeChannel st → (s.packer st).state = .stroke .retracting →
          v ≤ (s.packer st).settings.retracted →
          (s.packer st).stopRequested = true ∨ (s.packer st).mode = .single
            ∨ (s.packer st).mode = .continuous ∧ (s.compartment st).fill = .full →
          (s.packer st).pending = 0 ∨ (s.packer st).mode = .step ∨ s.body.state ≠ .running
            ∨ s.body.tailgate.reading = false →
          t.packer st = { stopPacker (s.packer st) with state := .idle, stopRequested := false }
            ∧ t.flow.records.get (.packer st) = .none)
      ∧ (ch = strokeChannel st → (s.packer st).state = .stroke .retracting →
          v ≤ (s.packer st).settings.retracted →
          (s.packer st).stopRequested = true ∨ (s.packer st).mode = .single
            ∨ (s.packer st).mode = .continuous ∧ (s.compartment st).fill = .full →
          0 < (s.packer st).pending → (s.packer st).mode ≠ .step → s.body.state = .running →
          s.body.tailgate.reading = true →
          StrokeOwn s t st .extending ((s.packer st).pending - 1) false))
    ∧ (isGranted (s.flow.records.get (.packer st)) = false →
      ∃ t, exec (.ringConversionComplete (some r)) s = .next t ∧ PortsQuiet s t ∧ SameGround s t
        ∧ t.packers = s.packers ∧ t.compartments = s.compartments ∧ t.flow = s.flow
        ∧ (∀ y e, e ≠ .zeroDrift → (t.port y).latched.holds e = (s.port y).latched.holds e)
        ∧ (ch ≠ s.scan.ringEnd → t.ports = s.ports))/-! ### The body supervisor -/

/-- R36, R80: Resume Body is refused while the stop reads ACTIVE, is answered OK without effect outside HALTED, and
otherwise makes the body RUNNING and brings the HALTED packers back to IDLE; no lifter is moved. Which of two packers
that start places its request first is open (log 34). -/
def Obligations.ResumeBodyDecided : Prop :=
  ∀ (p : Port) (n : Byte) (d : List Byte) (s : State), Accepts .resumeBody p d s →
    (s.body.state ≠ .halted → exec (.resumeBody p n d) s = .next (replied p n .resumeBody (.ok []) s))
      ∧ (s.body.state = .halted → s.body.estop.reading = true →
        exec (.resumeBody p n d) s = .next (replied p n .resumeBody (.refused .estopActive) s))
      ∧ (s.body.state = .halted → s.body.estop.reading = false →
        ∃ t, exec (.resumeBody p n d) s = .next t ∧ Answered s t p n .resumeBody (.ok [])
          ∧ t.body = { s.body with state := .running }
          ∧ (∀ l, LifterUpToGrant (s.lifter l) (t.lifter l))
          ∧ (∀ st, (s.packer st).state ≠ .halted → PackerUpToGrant (s.packer st) (t.packer st))
          ∧ (∀ st, (s.packer st).state = .halted →
              (s.packer st).pending = 0 ∨ (s.packer st).mode = .step ∨ s.body.tailgate.reading = false →
              PackerUpToGrant { s.packer st with state := .idle, stopRequested := false } (t.packer st))
          ∧ (∀ st, (s.packer st).state = .halted → 0 < (s.packer st).pending → (s.packer st).mode ≠ .step →
              s.body.tailgate.reading = true → PackFresh s st →
              (t.packer st).state = .stroke .extending ∧ (t.packer st).pending = (s.packer st).pending - 1)
          ∧ t.scan = s.scan ∧ t.weigh = s.weigh ∧ t.compartments = s.compartments ∧ t.tags = s.tags
          ∧ t.journal = s.journal ∧ t.integrity = s.integrity ∧ SameGround (s.withFreeIndex t.freeIndex) t)

/-- R30, R209 (with R49, R65, R88, R106, R127, R140, R160, R182, R208): a Body Reset is answered OK, ends the lifts in
flight with ABORTED_RESET records, LEFT first, and leaves every block in its body-reset state: what its rule resets is
reset, and every other field is kept. That the body timer and the waiting commands are kept (log 10, log 28) and that
each record holds its context's "seal was open" (log 41) is the model's choice. -/
def Obligations.BodyResetEndsLifts : Prop :=
  ∀ (p : Port) (n : Byte) (d : List Byte) (s : State),
    Accepts .bodyReset p d s → TableLaw s → CleanTable s → SequenceLaw s → ReservationLaw s →
    ∃ t, ∃ recs : List Record, exec (.bodyReset p n d) s = .next t
      ∧ t.port p = { s.port p with
          receive := .hunting
          service := .answering ⟨n, Kind.bodyReset.code, [0]⟩
          latched := eventSet .bodyReset
          attention := !(s.port p).mask.holds .bodyReset }
      ∧ (∀ q, q ≠ p → t.port q = { s.port q with
          latched := eventSet .bodyReset, attention := !(s.port q).mask.holds .bodyReset })
      ∧ t.journal.slots = s.journal.slots ++ recs.map (fun r => ⟨⟨r, .clean⟩, false⟩)
      ∧ recs.map Record.lifter = [Lifter.left, Lifter.right].filter (fun l => (s.context l).isSome)
      ∧ recs.map Record.sequence = (List.range recs.length).map (seqAfter s.journal.nextSequence)
      ∧ t.journal.nextSequence = seqAfter s.journal.nextSequence recs.length
      ∧ t.journal.writePos = (if recs = [] then s.journal.writePos else (s.journal.writePos + recs.length) % 1024)
      ∧ t.journal.reservations = ⟨false, false⟩
      ∧ (∀ r ∈ recs, r.status = .abortedReset ∧ ∀ c, s.context r.lifter = some c →
          RecordOf (s.withJournal { s.journal with nextSequence := r.sequence }) r.lifter c r
            ∧ r.abortPhase = some (abortPhaseOf c))
      ∧ t.tags = { s.tags with
          pendingTags := ⟨none, none⟩
          table := [Lifter.left, Lifter.right].foldl (fun x l => match s.context l with
            | some c => backTable c 0 x
            | none => x) s.tags.table }
      ∧ (∀ st, { t.compartment st with limitReached := (s.compartment st).limitReached } =
          { s.compartment st with
            payload := (s.compartment st).payload + ((recs.filter fun r => r.stream = st).map Record.dumpedMass).sum })
      ∧ (recs = [] → t.compartments = s.compartments) ∧ (recs ≠ [] → LimitLaw t)
      ∧ t.body = { s.body with
          state := .starting
          vehicle := none
          lastAccepted := none
          fresh := false
          clockSeconds := 0
          clockMillis := 0
          inhibitLine := !s.body.tailgate.reading
          inhibitReasons := ⟨false, false, !s.body.tailgate.reading⟩ }
      ∧ (∀ l, t.lifter l = { s.lifter l with context := none, raiseValve := false, lowerValve := false })
      ∧ t.flow = ⟨.off, 0, ⟨.none, .none, .none, .none⟩, [], false⟩
      ∧ (∀ st, t.packer st = { s.packer st with
          state := .idle, pending := 0, stopRequested := false, extendValve := false, retractValve := false,
          timer := none })
      ∧ (∀ ch : Fin 12, t.slot ch = ⟨none, false, if inRing s.scan ch then some s.bodyTimer else none⟩)
      ∧ { t.scan with slots := s.scan.slots } = { s.scan with
          ringPos := s.scan.ringStart, converter := .ring, pass := 0, buffers := ⟨.empty, .empty⟩, pointer := .left }
      ∧ t.weigh = { s.weigh with
          queue := []
          computation := none
          drift :=
            { left := ⟨s.weigh.drift.left.disabled, 0, none⟩
              right := ⟨s.weigh.drift.right.disabled, 0, none⟩ } }
      ∧ t.loader = { s.loader with load := .pass s.bodyTimer }
      ∧ t.integrity = s.integrity ∧ SameGround s (t.withLoader s.loader)

/-- R215: Save Settings is BUSY while a lifter or a packer is outside IDLE or a settings write is in flight; else it
is answered at the end of its write, OK or STORE_FAILED, and the next write begins. What the block holds after a
failed write is open (log 7), and an end of a write that is not at the head, or that comes before the write has
lasted 5 ms (R211), has no effect (log 33). -/
def Obligations.SettingsAreSaved : Prop :=
  ∀ (p q : Port) (n m k : Byte) (d : List Byte) (x : Settings) (rest : List WriteJob) (s : State),
    (Accepts .saveSettings p d s →
        (s.context .left ≠ none ∨ s.context .right ≠ none ∨ s.packers.residual.state ≠ .idle
          ∨ s.packers.recycle.state ≠ .idle ∨ s.loader.writes.any isSettingsJob = true) →
        exec (.saveSettings p n d) s = .next (replied p n .saveSettings .busy s))
      ∧ (Accepts .saveSettings p d s → s.context .left = none → s.context .right = none →
        s.packers.residual.state = .idle → s.packers.recycle.state = .idle →
        s.loader.writes.any isSettingsJob = false →
        exec (.saveSettings p n d) s = .next (awaiting p n .saveSettings
          (handed (.settings p (currentSettings s)) s)))
      ∧ (s.loader.writes = .settings q x :: rest → due s s.loader.writeStart 5 = true →
        (s.port q).service = .waiting m k →
        exec (.settingsWriteEnd true) s = .next (begun rest ((s.withEeprom
            { s.loader.eeprom with settings := ⟨x, true⟩ }).withPort q
          { s.port q with service := .answering ⟨m, k, [0]⟩ })))
      ∧ (s.loader.writes = .settings q x :: rest → due s s.loader.writeStart 5 = true →
        (s.port q).service = .waiting m k →
        ∃ e, (e = s.loader.eeprom.settings ∨ e = ⟨x, true⟩ ∨ e.good = false)
          ∧ exec (.settingsWriteEnd false) s = .next (begun rest (((s.withEeprom
              { s.loader.eeprom with settings := e }).withFreeIndex (s.freeIndex + 2)).withPort q
            { s.port q with service := .answering ⟨m, k, [5, 24]⟩ })))
      ∧ ((∀ q x rest, s.loader.writes ≠ .settings q x :: rest) → ∀ ok, exec (.settingsWriteEnd ok) s = .next s)
      ∧ (due s s.loader.writeStart 5 = false → ∀ ok, exec (.settingsWriteEnd ok) s = .next s)

/-- R40 to R42, R44, R51, R59, R60: an accepted Vehicle Data replaces the values, sets the clock and restarts
freshness; a speed above 50 and the freshness timer's expiry hold the lifters and withdraw their windows, and the
expiry caps the engine state handed to the flow arbiter at IDLE; a supply that falls to 0 holds with FLOW those
whose grant it revokes, one that falls to 8 keeps the grants; the clock's second comes when its remainder has reached
1,000, and not before (log 1). An expiry while STALE, or before 500 ms have passed since the last acceptance, has no
effect (log 3), and the holds of an expiry come before its engine state (log 36). The fields stand in the payload as
R219 lays them out. -/
def Obligations.VehicleDataTaken : Prop :=
  ∀ (p : Port) (n : Byte) (d : List Byte) (v : VehicleData) (s : State),
    (Accepts .vehicleData p d s → vehicleArg d = none →
        exec (.vehicleData p n d) s = .next (replied p n .vehicleData .badArgument s))
      ∧ (Accepts .vehicleData p d s → vehicleArg d = some v → effectiveEngine s.body = v.engine → v.speed ≤ 50 →
        exec (.vehicleData p n d) s = .next (replied p n .vehicleData (.ok []) (s.withBody
          { s.body with
            vehicle := some v
            lastAccepted := some s.bodyTimer
            fresh := true
            clockSeconds := v.clock
            clockMillis := 0 })))
      ∧ (Accepts .vehicleData p d s → vehicleArg d = some v → FlowLaw s →
        ∃ t, exec (.vehicleData p n d) s = .next t ∧ Answered s t p n .vehicleData (.ok [])
          ∧ t.body = { s.body with
              vehicle := some v
              lastAccepted := some s.bodyTimer
              fresh := true
              clockSeconds := v.clock
              clockMillis := 0 }
          ∧ t.flow.engine = v.engine ∧ t.flow.supply = supplyOf v.engine
          ∧ (50 < v.speed → ∀ l c, t.context l = some c → c.phase = .fault ∨ c.phase = .held ∧ c.reasons.speed = true)
          ∧ (50 < v.speed → s.weigh.queue.Nodup → WindowsGone s t)
          ∧ (v.engine = .off → ∀ x, isGranted (t.flow.records.get x) = false)
          ∧ (v.engine = .off → ∀ l c, s.context l = some c → isHoldable c.phase = true →
              isGranted (s.flow.records.get (.lifter l)) = true →
              t.context l = some { stopTimers c with
                  remembered := some c.phase
                  phase := .held
                  reasons := { flow := true, speed := decide (50 < v.speed) } }
                ∧ (t.lifter l).raiseValve = false ∧ (t.lifter l).lowerValve = false ∧ LatchedAll .liftHeld t)
          ∧ (v.engine = .off → ∀ st ph, (s.packer st).state = .stroke ph →
              isGranted (s.flow.records.get (.packer st)) = true →
              t.packer st = { stopPacker (s.packer st) with state := .held ph ⟨false, true⟩ })
          ∧ (v.engine = .off → ∀ st, isGranted (s.flow.records.get (.packer st)) = false →
              t.packer st = s.packer st ∧ t.flow.records.get (.packer st) = s.flow.records.get (.packer st))
          ∧ (v.engine ≠ .off → supplyOf v.engine ≤ s.flow.supply → v.speed ≤ 50 →
              (∀ x u, s.flow.records.get x = .granted u → t.flow.records.get x = .granted u)
                ∧ (GrantLaw s → t.flow.records = s.flow.records ∧ t.flow.waiting = s.flow.waiting
                    ∧ t.lifters = s.lifters ∧ t.packers = s.packers ∧ t.scan = s.scan ∧ t.weigh = s.weigh
                    ∧ ∀ q, (t.port q).latched = (s.port q).latched))
          ∧ (50 < v.speed → ∀ l c, s.context l = some c → isHoldable c.phase = true →
              v.engine ≠ .off ∨ isGranted (s.flow.records.get (.lifter l)) = false →
              t.context l = some
                { stopTimers c with remembered := some c.phase, phase := .held, reasons := { speed := true } })
          ∧ t.compartments = s.compartments ∧ t.journal = s.journal ∧ t.tags = s.tags
          ∧ t.integrity = s.integrity ∧ SameGround s t)
      ∧ (due s (if s.body.fresh then s.body.lastAccepted else none) 500 = true →
        ∃ t, exec .vehicleFreshnessExpiry s = .next t ∧ PortsQuiet s t ∧ LatchedAll .vehicleDataStale t
          ∧ t.body = { s.body with fresh := false }
          ∧ (∀ l c, t.context l = some c → c.phase = .fault ∨ c.phase = .held ∧ c.reasons.speed = true)
          ∧ (∀ l, (t.context l).isSome = (s.context l).isSome)
          ∧ (∀ l c, s.context l = some c → isHoldable c.phase = true → t.context l = some
              { stopTimers c with remembered := some c.phase, phase := .held, reasons := { speed := true } })
          ∧ (s.weigh.queue.Nodup → WindowsGone s t)
          ∧ (FlowLaw s → ∀ v, s.body.vehicle = some v →
              t.flow.engine = (if v.engine = .high then .idle else v.engine)
                ∧ t.flow.supply = (if v.engine = .off then 0 else 8))
          ∧ t.compartments = s.compartments ∧ t.journal = s.journal ∧ t.tags = s.tags
          ∧ t.integrity = s.integrity ∧ SameGround s t)
      ∧ (due s (if s.body.fresh then s.body.lastAccepted else none) 500 = false →
        exec .vehicleFreshnessExpiry s = .next s)
      ∧ (s.resetHeld = false → 1000 ≤ s.body.clockMillis → exec .routeClockSecond s = .next (s.withBody
          { s.body with clockSeconds := (s.body.clockSeconds + 1) % 4294967296, clockMillis := 0 }))
      ∧ (s.body.clockMillis < 1000 → exec .routeClockSecond s = .next s)

/-- R33 to R35, R61, R80: the emergency stop of a RUNNING body takes every valve, grant and waiting request, holds the
lifters, withdraws their windows and halts the packers; in other body states, and at its release, only the reading
changes. The change of a reading is taken when its line has held the opposite level for 10 ms (R33), and its row has
no effect before (log 4). -/
def Obligations.EmergencyStopHalts : Prop :=
  ∀ (s : State), s.resetHeld = false →
    (settledTo true s s.body.estop = true → s.body.state = .running →
        ∃ t, exec .estopReadingActive s = .next t ∧ PortsQuiet s t ∧ LatchedAll .estop t
          ∧ t.body = { s.body with state := .halted, estop := ⟨true, true, none⟩ }
          ∧ (∀ l, (t.lifter l).raiseValve = false ∧ (t.lifter l).lowerValve = false)
          ∧ (∀ st, (t.packer st).extendValve = false ∧ (t.packer st).retractValve = false)
          ∧ t.flow.records = ⟨.none, .none, .none, .none⟩ ∧ t.flow.waiting = [] ∧ t.flow.line = false
          ∧ (∀ l c, s.context l = some c → isHoldable c.phase = true →
              t.context l = some { stopTimers c with
                remembered := some c.phase, phase := .held, reasons := { estop := true } })
          ∧ (∀ l c, s.context l = some c → c.phase = .held →
              t.context l = some { c with reasons := { c.reasons with estop := true } })
          ∧ (∀ l, s.context l = none ∨ s.phase l = some .fault → t.context l = s.context l)
          ∧ (s.weigh.queue.Nodup → WindowsGone s t)
          ∧ (∀ st, (s.packer st).state = .fault → PackerUpToGrant (s.packer st) (t.packer st))
          ∧ (∀ st, (s.packer st).state ≠ .fault →
              t.packer st = { stopPacker (s.packer st) with state := .halted, stopRequested := false })
          ∧ t.compartments = s.compartments ∧ t.journal = s.journal ∧ t.tags = s.tags
          ∧ t.integrity = s.integrity ∧ SameGround s t)
      ∧ (settledTo true s s.body.estop = true → s.body.state ≠ .running →
        exec .estopReadingActive s = .next (s.withBody { s.body with estop := ⟨true, true, none⟩ }))
      ∧ (settledTo false s s.body.estop = true →
        exec .estopReadingReleased s = .next (s.withBody { s.body with estop := ⟨false, false, none⟩ }))
      ∧ (settledTo true s s.body.estop = false → exec .estopReadingActive s = .next s)
      ∧ (settledTo false s s.body.estop = false → exec .estopReadingReleased s = .next s)

/-- R20, R33, R37 to R39, R46, R78: an opening tailgate holds the lifters, withdraws their windows and holds the
packers in stroke, a closing one sets both tailgate-cycled flags, and an occupied step holds its own lifter or adds
its reason once; the drive-inhibit line follows the tailgate. A row of a reading's change has no effect before its
line has settled (log 4); which of two packers that start places its request first is open (log 34). -/
def Obligations.TailgateAndStepsHold : Prop :=
  ∀ (l : Lifter) (c : LiftContext) (s : State), s.resetHeld = false →
    (settledTo false s s.body.tailgate = true → FlowLaw s →
        ∃ t, exec .tailgateReadingNotClosed s = .next t ∧ PortsQuiet s t
          ∧ t.body.tailgate = ⟨false, false, none⟩ ∧ t.body.inhibitLine = true
          ∧ t.body.inhibitReasons.tailgate = true
          ∧ (∀ l c, t.context l = some c → c.phase = .fault ∨ c.phase = .held ∧ c.reasons.tailgate = true)
          ∧ (∀ l, (t.context l).isSome = (s.context l).isSome)
          ∧ (∀ l c, s.context l = some c → isHoldable c.phase = true → t.context l = some
              { stopTimers c with remembered := some c.phase, phase := .held, reasons := { tailgate := true } })
          ∧ (s.weigh.queue.Nodup → WindowsGone s t)
          ∧ (∀ st ph, (s.packer st).state = .stroke ph →
              t.packer st = { stopPacker (s.packer st) with state := .held ph ⟨true, false⟩ }
                ∧ t.flow.records.get (.packer st) = .none)
          ∧ (∀ st ph r, (s.packer st).state = .held ph r →
              PackerUpToGrant { s.packer st with state := .held ph { r with tailgate := true } } (t.packer st))
          ∧ t.compartments = s.compartments ∧ t.journal = s.journal ∧ t.tags = s.tags
          ∧ t.integrity = s.integrity ∧ SameGround s t)
      ∧ (settledTo true s s.body.tailgate = true →
        ∃ t, exec .tailgateReadingClosed s = .next t ∧ PortsQuiet s t
          ∧ t.body.tailgate = ⟨true, true, none⟩ ∧ t.body.tailgateCycled = ⟨true, true⟩
          ∧ t.body.inhibitReasons.tailgate = false
          ∧ (t.body.inhibitLine = true ↔ s.context .left ≠ none ∨ s.context .right ≠ none)
          ∧ (∀ l, LifterUpToGrant (s.lifter l) (t.lifter l))
          ∧ (∀ st, (s.packer st).state ≠ .idle ∨ (s.packer st).mode = .step ∨ (s.packer st).pending = 0
              ∨ s.body.state ≠ .running → PackerUpToGrant (s.packer st) (t.packer st))
          ∧ (∀ st, (s.packer st).state = .idle → (s.packer st).mode ≠ .step → 0 < (s.packer st).pending →
              s.body.state = .running → PackFresh s st →
              (t.packer st).state = .stroke .extending ∧ (t.packer st).pending = (s.packer st).pending - 1)
          ∧ t.scan = s.scan ∧ t.weigh = s.weigh ∧ t.compartments = s.compartments ∧ t.journal = s.journal
          ∧ t.tags = s.tags ∧ t.integrity = s.integrity ∧ SameGround (s.withFreeIndex t.freeIndex) t)
      ∧ (settledTo true s (s.body.steps.get l) = true → s.context l = some c → isHoldable c.phase = true →
        ∃ t, exec (.stepReadingOccupied l) s = .next t ∧ PortsQuiet s t
          ∧ HeldAfter (s.withBody { s.body with steps := s.body.steps.set l ⟨true, true, none⟩ }) t l c
              { step := true })
      ∧ (settledTo true s (s.body.steps.get l) = true → s.context l = some c → c.phase = .held → c.reasons.step = false →
        exec (.stepReadingOccupied l) s = .next (latchAll .liftHeld
          ((s.withBody { s.body with steps := s.body.steps.set l ⟨true, true, none⟩ }).withContext l
            (some { c with reasons := { c.reasons with step := true } }))))
      ∧ (settledTo true s (s.body.steps.get l) = true → s.context l = none ∨ s.phase l = some .fault
          ∨ s.phase l = some .held ∧ (s.context l).any (fun c => c.reasons.step) = true →
        exec (.stepReadingOccupied l) s =
          .next (s.withBody { s.body with steps := s.body.steps.set l ⟨true, true, none⟩ }))
      ∧ (settledTo false s (s.body.steps.get l) = true →
        exec (.stepReadingFree l) s =
          .next (s.withBody { s.body with steps := s.body.steps.set l ⟨false, false, none⟩ }))
      ∧ (settledTo false s s.body.tailgate = false → exec .tailgateReadingNotClosed s = .next s)
      ∧ (settledTo true s s.body.tailgate = false → exec .tailgateReadingClosed s = .next s)
      ∧ (settledTo true s (s.body.steps.get l) = false → exec (.stepReadingOccupied l) s = .next s)
      ∧ (settledTo false s (s.body.steps.get l) = false → exec (.stepReadingFree l) s = .next s)

/-- R33, R130, R26: a line's change of level starts its 10 ms afresh, and back at the reading's level it stops them; a
button's release. A change to the level the line has is no change (log 4). -/
def Obligations.LinesSettle : Prop :=
  ∀ (b : Bool) (l : Lifter) (s : State),
    (s.resetHeld = false → s.body.estop.line ≠ b →
        exec (.inputLineChange (.estop b)) s = .next (s.withBody { s.body with
          estop := ⟨b, s.body.estop.reading, if b = s.body.estop.reading then none else some s.bodyTimer⟩ }))
      ∧ (s.resetHeld = false → (s.body.steps.get l).line ≠ b →
        exec (.inputLineChange (.step l b)) s = .next (s.withBody { s.body with
          steps := s.body.steps.set l ⟨b, (s.body.steps.get l).reading,
            if b = (s.body.steps.get l).reading then none else some s.bodyTimer⟩ }))
      ∧ (s.resetHeld = false → s.body.tailgate.line ≠ b → InhibitLaw s →
        exec (.inputLineChange (.tailgate b)) s = .next (s.withBody { s.body with
          tailgate := ⟨b, s.body.tailgate.reading,
            if b = s.body.tailgate.reading then none else some s.bodyTimer⟩ }))
      ∧ (s.resetHeld = false → s.calib.sealSwitch.line ≠ b →
        exec (.inputLineChange (.sealSwitch b)) s = .next (s.withCalib { s.calib with
          sealSwitch := ⟨b, s.calib.sealSwitch.reading,
            if b = s.calib.sealSwitch.reading then none else some s.bodyTimer⟩ }))
      ∧ (s.resetHeld = false → s.body.estop.line = b → exec (.inputLineChange (.estop b)) s = .next s)
      ∧ exec (.rearButtonRelease l .start) s = .next (s.withLifter l { s.lifter l with startPressed := false })
      ∧ exec (.rearButtonRelease l .stop) s = .next (s.withLifter l { s.lifter l with stopPressed := false })

/-! ### Accounts -/

/-- R151, R185, R187: with the table in order and without error, Read Account by tag finds exactly the entry of the
tag, and by index the entry of the index; the table is not changed. A read by index removes the damaged entries it
meets at that index and answers with the entry that follows them, or NOT_FOUND. The index stands in the bytes R216
gives it; those it does not use are not read, and a tag of 0 is out of range (log 15). -/
def Obligations.ReadAccountFinds : Prop :=
  ∀ (p : Port) (n : Byte) (d : List Byte) (i : Nat) (e : AccountEntry)
    (before damaged after : List (Stored AccountEntry)) (s : State),
    Accepts .readAccount p d s → TableLaw s →
    (CleanTable s → byteAt d 0 = 0 → s.tags.table[i]? = some ⟨e, .clean⟩ → e.tag = beAt d 1 5 →
        exec (.readAccount p n d) s = .next (replied p n .readAccount
          (.ok (entryBytes e ++ beBytes 2 i ++ beBytes 2 s.tags.table.length)) s))
      ∧ (CleanTable s → byteAt d 0 = 0 → 0 < beAt d 1 5 → (∀ w ∈ s.tags.table, w.content.tag ≠ beAt d 1 5) →
        exec (.readAccount p n d) s = .next (replied p n .readAccount
          (.notFound (beBytes 2 s.tags.table.length)) s))
      ∧ (byteAt d 0 = 1 → s.tags.table[i]? = some ⟨e, .clean⟩ → i = beAt d 4 2 →
        exec (.readAccount p n d) s = .next (replied p n .readAccount
          (.ok (entryBytes e ++ beBytes 2 i ++ beBytes 2 s.tags.table.length)) s))
      ∧ (byteAt d 0 = 1 → s.tags.table.length ≤ beAt d 4 2 → beAt d 4 2 ≤ 4095 →
        exec (.readAccount p n d) s = .next (replied p n .readAccount
          (.notFound (beBytes 2 s.tags.table.length)) s))
      ∧ (1 < byteAt d 0 ∨ byteAt d 0 = 0 ∧ beAt d 1 5 = 0 ∨ byteAt d 0 = 1 ∧ 4095 < beAt d 4 2 →
        exec (.readAccount p n d) s = .next (replied p n .readAccount .badArgument s))
      ∧ (byteAt d 0 = 1 → i = beAt d 4 2 → s.tags.table = before ++ damaged ++ ⟨e, .clean⟩ :: after →
        before.length = i → damaged ≠ [] → (∀ w ∈ damaged, w.health = .double) →
        exec (.readAccount p n d) s = .next (replied p n .readAccount
          (.ok (entryBytes e ++ beBytes 2 i ++ beBytes 2 (before.length + 1 + after.length)))
          (latchAll .accountDamaged (s.withTable (before ++ ⟨e, .clean⟩ :: after)))))
      ∧ (byteAt d 0 = 1 → i = beAt d 4 2 → s.tags.table = before ++ damaged → before.length = i →
        damaged ≠ [] → (∀ w ∈ damaged, w.health = .double) →
        exec (.readAccount p n d) s = .next (replied p n .readAccount (.notFound (beBytes 2 before.length))
          (latchAll .accountDamaged (s.withTable before))))

/-- R148 to R150: with the table in order and without error, Put Account replaces the entry of its tag in place, or
inserts it in the order of tags, or is answered FULL at 4,096; Delete Account removes the entry of its tag or is
answered NOT_FOUND. That Put Account's answer holds its mark and the count after it (log 13), and that a tag of 0 is
a bad argument (log 15), is the model's reading. -/
def Obligations.PutAndDeleteAccount : Prop :=
  ∀ (p : Port) (n : Byte) (d : List Byte) (e : AccountEntry) (tag : Nat) (s : State), TableLaw s → CleanTable s →
    (Accepts .putAccount p d s → entryArg d = none →
        exec (.putAccount p n d) s = .next (replied p n .putAccount .badArgument s))
      ∧ (Accepts .putAccount p d s → entryArg d = some e → (∃ w ∈ s.tags.table, w.content.tag = e.tag) →
        exec (.putAccount p n d) s = .next (replied p n .putAccount
          (.ok (0 :: beBytes 2 s.tags.table.length))
          (s.withTable (s.tags.table.map fun w => if w.content.tag = e.tag then ⟨e, .clean⟩ else w))))
      ∧ (Accepts .putAccount p d s → entryArg d = some e → (∀ w ∈ s.tags.table, w.content.tag ≠ e.tag) →
        s.tags.table.length < 4096 →
        exec (.putAccount p n d) s = .next (replied p n .putAccount
          (.ok (1 :: beBytes 2 (s.tags.table.length + 1)))
          (s.withTable (s.tags.table.filter (fun w => decide (w.content.tag < e.tag)) ++ [⟨e, .clean⟩]
            ++ s.tags.table.filter (fun w => decide (e.tag < w.content.tag))))))
      ∧ (Accepts .putAccount p d s → entryArg d = some e → (∀ w ∈ s.tags.table, w.content.tag ≠ e.tag) →
        s.tags.table.length = 4096 →
        exec (.putAccount p n d) s = .next (replied p n .putAccount (.full (beBytes 2 4096)) s))
      ∧ (Accepts .deleteAccount p d s → tag = beAt d 0 5 → 0 < tag →
        (∃ w ∈ s.tags.table, w.content.tag = tag) →
        exec (.deleteAccount p n d) s = .next (replied p n .deleteAccount
          (.ok (beBytes 2 (s.tags.table.length - 1)))
          (s.withTable (s.tags.table.filter fun w => decide (w.content.tag ≠ tag)))))
      ∧ (Accepts .deleteAccount p d s → tag = beAt d 0 5 → 0 < tag →
        (∀ w ∈ s.tags.table, w.content.tag ≠ tag) →
        exec (.deleteAccount p n d) s = .next (replied p n .deleteAccount
          (.notFound (beBytes 2 s.tags.table.length)) s))
      ∧ (Accepts .deleteAccount p d s → beAt d 0 5 = 0 →
        exec (.deleteAccount p n d) s = .next (replied p n .deleteAccount .badArgument s))

/-- R184 to R186: whatever errors the table holds, a lookup in a table in order ends at a clean entry of the tag or at
none; it removes only damaged entries, repairs and counts the corrected ones, and keeps every other content. -/
def Obligations.DamagedEntriesLeave : Prop :=
  ∀ (tag : Nat) (s t : State) (e : LookupEnd), TableLaw s → s.integrity.accountCorrections ≤ 255 →
    lookupTag tag s = (e, t) →
    (∀ i x, e = .found i x → x.tag = tag ∧ t.tags.table[i]? = some ⟨x, .clean⟩)
      ∧ (∀ i, e = .absent i → ∀ w ∈ t.tags.table, w.content.tag ≠ tag)
      ∧ (t.tags.table.map Stored.content).Sublist (s.tags.table.map Stored.content)
      ∧ (t.tags.table.filter fun w => decide (w.health ≠ .double)).map Stored.content
          = (s.tags.table.filter fun w => decide (w.health ≠ .double)).map Stored.content
      ∧ t.integrity.accountCorrections + (t.tags.table.filter fun w => decide (w.health = .single)).length
          = min (255 + (t.tags.table.filter fun w => decide (w.health = .single)).length)
              (s.integrity.accountCorrections
                + (s.tags.table.filter fun w => decide (w.health = .single)).length)
      ∧ t.integrity.journalCorrections = s.integrity.journalCorrections
      ∧ (t.tags.table.length < s.tags.table.length → LatchedAll .accountDamaged t)
      ∧ (s.integrity.accountCorrections < 255 → t.integrity.accountCorrections = 255 →
          LatchedAll .correctionOverflow t)
      ∧ ((t.withTable s.tags.table).withIntegrity s.integrity).withPorts s.ports = s

/-- R152, R153, R162, R189: Clear Accounts, Set Route Policy, Clear Counters and Put Tariff. That Set Route Policy's
bad argument is answered before a settings write in flight is looked at is the model's choice (log 14), and the coding
of ALLOW and REFUSE is its reading (log 12). -/
def Obligations.AccountRequests : Prop :=
  ∀ (p : Port) (n : Byte) (d : List Byte) (a b : Bool) (cls : Fin 16) (x : Tariff) (s : State),
    (Accepts .clearAccounts p d s → s.context .left ≠ none ∨ s.context .right ≠ none →
        exec (.clearAccounts p n d) s = .next (replied p n .clearAccounts .busy s))
      ∧ (Accepts .clearAccounts p d s → s.context .left = none → s.context .right = none →
        exec (.clearAccounts p n d) s = .next (replied p n .clearAccounts (.ok [])
          (s.withTags { s.tags with table := [] })))
      ∧ (Accepts .setRoutePolicy p d s → firstMeansYes (byteAt d 0) = some a → firstMeansYes (byteAt d 1) = some b →
        exec (.setRoutePolicy p n d) s = .next
          (if s.loader.writes.any isSettingsJob = true then replied p n .setRoutePolicy .busy s
          else replied p n .setRoutePolicy (.ok [])
            (s.withTags { s.tags with untaggedAllow := a, unknownAllow := b })))
      ∧ (Accepts .setRoutePolicy p d s → 1 < byteAt d 0 ∨ 1 < byteAt d 1 →
        exec (.setRoutePolicy p n d) s = .next (replied p n .setRoutePolicy .badArgument s))
      ∧ (Accepts .clearCounters p d s →
        exec (.clearCounters p n d) s = .next (replied p n .clearCounters (.ok [])
          ((s.withIntegrity ⟨0, 0⟩).withTags { s.tags with crossReads := 0 })))
      ∧ (Accepts .putTariff p d s → cls.val = byteAt d 0 → 1 ≤ cls.val →
        x = ⟨beAt d 1 2, beAt d 3 2, beAt d 5 2, beAt d 7 3⟩ → x.minimum ≤ 9999 → x.cap ≤ 99999 →
        x.minimum ≤ x.cap →
        exec (.putTariff p n d) s = .next (replied p n .putTariff (.ok [])
          (s.withTags { s.tags with tariffs := s.tags.tariffs.set cls.val x cls.isLt })))
      ∧ (Accepts .putTariff p d s →
        byteAt d 0 = 0 ∨ 15 < byteAt d 0 ∨ 9999 < beAt d 5 2 ∨ 99999 < beAt d 7 3 ∨ beAt d 7 3 < beAt d 5 2 →
        exec (.putTariff p n d) s = .next (replied p n .putTariff .badArgument s))

/-! ### The journal -/

/-- R176, R177, R188, R218: Read Journal delivers from the held sequence, from the oldest record for an older one and
nothing for a newer one, at most two records; a damaged record is delivered as DAMAGED with its sequence. -/
def Obligations.ReadJournalDelivers : Prop :=
  ∀ (p : Port) (n : Byte) (d : List Byte) (i : Nat) (w : JournalSlot) (s : State),
    Accepts .readJournal p d s → SequenceLaw s → s.journal.slots.length ≤ 1024 →
    (beAt d 0 4 = 0 ∨ byteAt d 4 = 0 ∨ 8 < byteAt d 4 →
        exec (.readJournal p n d) s = .next (replied p n .readJournal .badArgument s))
      ∧ (1 ≤ byteAt d 4 → byteAt d 4 ≤ 8 → 1 ≤ beAt d 0 4 → NewerSeq s (beAt d 0 4) →
        exec (.readJournal p n d) s = .next (replied p n .readJournal
          (.ok (optionalField 4 (beBytes 4) (s.journal.slots.getLast?.map slotSequence) ++ [0])) s))
      ∧ (1 ≤ byteAt d 4 → byteAt d 4 ≤ 8 → CleanJournal s → s.journal.slots[i]? = some w →
        slotSequence w = beAt d 0 4 →
        exec (.readJournal p n d) s = .next (replied p n .readJournal
          (.ok (optionalField 4 (beBytes 4) (s.journal.slots.getLast?.map slotSequence)
            ++ listField recordBytes (recordsFrom s i (min (byteAt d 4) 2)))) s))
      ∧ (1 ≤ byteAt d 4 → byteAt d 4 ≤ 8 → CleanJournal s → 1 ≤ beAt d 0 4 → OlderSeq s (beAt d 0 4) →
        exec (.readJournal p n d) s = .next (replied p n .readJournal
          (.ok (optionalField 4 (beBytes 4) (s.journal.slots.getLast?.map slotSequence)
            ++ listField recordBytes (recordsFrom s 0 (min (byteAt d 4) 2)))) s))
      ∧ (byteAt d 4 = 1 → s.journal.slots[i]? = some w → slotSequence w = beAt d 0 4 → w.damaged = true →
        exec (.readJournal p n d) s = .next (replied p n .readJournal
          (.ok (optionalField 4 (beBytes 4) (s.journal.slots.getLast?.map slotSequence)
            ++ 1 :: damagedBytes (slotSequence w))) s))
      ∧ (byteAt d 4 = 1 → s.journal.slots[i]? = some w → slotSequence w = beAt d 0 4 → w.damaged = false →
        w.stored.health = .double →
        exec (.readJournal p n d) s = .next (replied p n .readJournal
          (.ok (optionalField 4 (beBytes 4) (s.journal.slots.getLast?.map slotSequence)
            ++ 1 :: damagedBytes (slotSequence w)))
          (latchAll .recordDamaged (s.withJournal
            { s.journal with slots := s.journal.slots.set i { w with damaged := true } }))))
      ∧ (byteAt d 4 = 1 → s.journal.slots[i]? = some w → slotSequence w = beAt d 0 4 → w.damaged = false →
        w.stored.health = .single →
        ∃ t, exec (.readJournal p n d) s = .next t
          ∧ Answered s t p n .readJournal
            (.ok (optionalField 4 (beBytes 4) (s.journal.slots.getLast?.map slotSequence)
              ++ 1 :: recordBytes w.stored.content))
          ∧ t.journal = { s.journal with slots := s.journal.slots.set i ⟨⟨w.stored.content, .clean⟩, false⟩ }
          ∧ t.integrity.journalCorrections =
              (if s.integrity.journalCorrections < 255 then s.integrity.journalCorrections + 1
               else s.integrity.journalCorrections)
          ∧ (s.integrity.journalCorrections = 254 → LatchedAll .correctionOverflow t))

/-- R178: Acknowledge Journal removes the records from the oldest through a held sequence, changes nothing for an
older one, and is answered BAD_ARGUMENT for a newer one and for 0. -/
def Obligations.AcknowledgeRemoves : Prop :=
  ∀ (p : Port) (n : Byte) (d : List Byte) (i : Nat) (w : JournalSlot) (s : State),
    Accepts .acknowledgeJournal p d s → SequenceLaw s → s.journal.slots.length ≤ 1024 →
    (s.journal.slots[i]? = some w → slotSequence w = beAt d 0 4 →
        exec (.acknowledgeJournal p n d) s = .next (replied p n .acknowledgeJournal (.ok (beBytes 2 (i + 1)))
          (s.withJournal { s.journal with slots := s.journal.slots.drop (i + 1) })))
      ∧ (1 ≤ beAt d 0 4 → OlderSeq s (beAt d 0 4) →
        exec (.acknowledgeJournal p n d) s = .next (replied p n .acknowledgeJournal (.ok [0, 0]) s))
      ∧ (1 ≤ beAt d 0 4 → NewerSeq s (beAt d 0 4) →
        exec (.acknowledgeJournal p n d) s = .next (replied p n .acknowledgeJournal .badArgument s))
      ∧ (beAt d 0 4 = 0 →
        exec (.acknowledgeJournal p n d) s = .next (replied p n .acknowledgeJournal .badArgument s))

/-! ### Calibration, seal and identity -/

/-- R131, R211: the five checks of Write Calibration in their order, and its acceptance, which hands the counter write
over and leaves the answer to the write's end. -/
def Obligations.WriteCalibrationChecked : Prop :=
  ∀ (p : Port) (n : Byte) (d : List Byte) (l : Lifter) (item : CalItem) (s : State),
    Accepts .writeCalibration p d s →
    (s.calib.sealSwitch.reading = false →
        exec (.writeCalibration p n d) s =
          .next (replied p n .writeCalibration .sealClosed (latchAll .sealViolation s)))
      ∧ (s.calib.sealSwitch.reading = true → lifterArg (byteAt d 0) = none ∨ itemArg (byteAt d 1) = none →
        exec (.writeCalibration p n d) s = .next (replied p n .writeCalibration .badArgument s))
      ∧ (s.calib.sealSwitch.reading = true → lifterArg (byteAt d 0) = some l → itemArg (byteAt d 1) = some item →
        itemInRange item (signedAt d 2 3) = false →
        exec (.writeCalibration p n d) s = .next (replied p n .writeCalibration .badArgument s))
      ∧ (∀ b, s.calib.sealSwitch.reading = true → lifterArg (byteAt d 0) = some l →
        itemArg (byteAt d 1) = some (.maximum b) →
        signedAt d 2 3 < 100 * ((s.calib.cal.get l).items.division.get b : Int) →
        exec (.writeCalibration p n d) s = .next (replied p n .writeCalibration .badArgument s))
      ∧ (∀ b, s.calib.sealSwitch.reading = true → lifterArg (byteAt d 0) = some l →
        itemArg (byteAt d 1) = some (.division b) →
        ((s.calib.cal.get l).items.maximum.get b : Int) < 100 * signedAt d 2 3 →
        exec (.writeCalibration p n d) s = .next (replied p n .writeCalibration .badArgument s))
      ∧ (s.calib.sealSwitch.reading = true → lifterArg (byteAt d 0) = some l → itemArg (byteAt d 1) = some item →
        itemInRange item (signedAt d 2 3) = true →
        divisionFits (s.calib.cal.get l).items item (signedAt d 2 3) = true →
        exec (.writeCalibration p n d) s = .next
          (if s.loader.writes.any isCounterJob = true then replied p n .writeCalibration .busy s
          else awaiting p n .writeCalibration (handed (.counter p l item (signedAt d 2 3)
            (if s.calib.counter < 65535 then s.calib.counter + 1 else s.calib.counter)) s)))

/-- R132, R133: the end of a counter write: taken with the seal OPEN, answered SEALED with it CLOSED (the counter
moves), STORE_FAILED on failure (nothing moves but the EEPROM's counter block, whose content is then open, log 7);
then the next write begins (R211). Before the write has lasted 5 ms, and where another write is in progress, the end
has no effect (log 33). -/
def Obligations.CounterWriteEnds : Prop :=
  ∀ (p : Port) (m k : Byte) (l : Lifter) (item : CalItem) (v : Int) (c : Nat) (rest : List WriteJob) (s : State),
    (s.loader.writes = .counter p l item v c :: rest → due s s.loader.writeStart 5 = true →
        (s.port p).service = .waiting m k → s.calib.sealSwitch.reading = true →
        exec (.counterWriteEnd true) s = .next (begun rest
          ((((s.withCalib { s.calib with
              counter := c
              cal := s.calib.cal.set l
                { s.calib.cal.get l with
                  items := setItem (s.calib.cal.get l).items item v
                  committed := false
                  takenSinceCommit := true } }).withEeprom
            { s.loader.eeprom with counter := ⟨c, true⟩ }).withWeigh
              { s.weigh with drift := s.weigh.drift.set l ⟨false, 0, none⟩ }).withPort p
            { s.port p with service := .answering ⟨m, k, [0]⟩ })))
      ∧ (s.loader.writes = .counter p l item v c :: rest → due s s.loader.writeStart 5 = true →
        (s.port p).service = .waiting m k → s.calib.sealSwitch.reading = false →
        exec (.counterWriteEnd true) s = .next (begun rest
          (((s.withCalib { s.calib with counter := c }).withEeprom
            { s.loader.eeprom with counter := ⟨c, true⟩ }).withPort p
            { s.port p with service := .answering ⟨m, k, [8]⟩ })))
      ∧ (s.loader.writes = .counter p l item v c :: rest → due s s.loader.writeStart 5 = true →
        (s.port p).service = .waiting m k →
        ∃ e, (e = s.loader.eeprom.counter ∨ e = ⟨c, true⟩ ∨ e.good = false)
          ∧ exec (.counterWriteEnd false) s = .next (begun rest
            (((s.withEeprom { s.loader.eeprom with counter := e }).withFreeIndex (s.freeIndex + 2)).withPort p
              { s.port p with service := .answering ⟨m, k, [5, 24]⟩ })))
      ∧ (due s s.loader.writeStart 5 = false ∨ s.loader.writes.head?.all (fun j => !isCounterJob j) = true →
        ∀ ok, exec (.counterWriteEnd ok) s = .next s)

/-- R33, R130, R134, R211: the seal's readings and the end of a commit. A closing with an UNCOMMITTED lifter hands a
commit over or leaves one owed; a commit copies the UNCOMMITTED parts when it begins, and marks them at its success;
at its end a commit owed is handed over while a lifter is UNCOMMITTED, and dropped otherwise, and the next write
begins. A row of a reading's change has no effect before its line has settled (log 4), what the parts hold after a
commit that failed is open (log 7), and an end before the commit has lasted 5 ms, or while another write is in
progress, has no effect (log 33). -/
def Obligations.SealAndCommit : Prop :=
  ∀ (copies : PerLifter (Option CalItems)) (rest : List WriteJob) (s : State), s.resetHeld = false →
    (settledTo true s s.calib.sealSwitch = true →
        exec .sealReadingOpen s = .next (latchAll .sealOpened
          (s.withCalib { s.calib with sealSwitch := ⟨true, true, none⟩ })))
      ∧ (settledTo false s s.calib.sealSwitch = true → s.calib.cal.left.committed = true →
        s.calib.cal.right.committed = true →
        exec .sealReadingClosed s = .next (s.withCalib { s.calib with sealSwitch := ⟨false, false, none⟩ }))
      ∧ (settledTo false s s.calib.sealSwitch = true →
        s.calib.cal.left.committed = false ∨ s.calib.cal.right.committed = false →
        s.loader.writes.any isCommitJob = true →
        exec .sealReadingClosed s = .next (s.withCalib
          { s.calib with sealSwitch := ⟨false, false, none⟩, commitOwed := true }))
      ∧ (settledTo false s s.calib.sealSwitch = true →
        s.calib.cal.left.committed = false ∨ s.calib.cal.right.committed = false →
        s.loader.writes.any isCommitJob = false →
        exec .sealReadingClosed s = .next (handed (.commit ⟨none, none⟩)
          (s.withCalib { s.calib with sealSwitch := ⟨false, false, none⟩ })))
      ∧ (s.loader.writes = .commit copies :: rest → due s s.loader.writeStart 5 = true →
        s.calib.commitOwed = false →
        ∃ t, exec (.commitEnd true) s = .next t ∧ t.ports = s.ports
          ∧ t.calib.lastCommit = some true ∧ t.calib.counter = s.calib.counter
          ∧ (∀ l, (t.calib.cal.get l).items = (s.calib.cal.get l).items
              ∧ (t.calib.cal.get l).committed = ((s.calib.cal.get l).committed
                  || ((copies.get l).isSome && !(s.calib.cal.get l).takenSinceCommit))
              ∧ (t.calib.cal.get l).valid = ((s.calib.cal.get l).valid
                  || ((copies.get l).isSome && !(s.calib.cal.get l).takenSinceCommit))
              ∧ t.loader.eeprom.calibration.get l =
                  (match copies.get l with
                  | some x => ⟨x, true⟩
                  | none => s.loader.eeprom.calibration.get l))
          ∧ t.loader.writes.length = rest.length
          ∧ t.loader.writeStart = (if rest = [] then none else some s.bodyTimer)
          ∧ t.flow = s.flow ∧ t.lifters = s.lifters)
      ∧ (s.loader.writes = .commit copies :: rest → due s s.loader.writeStart 5 = true →
        s.calib.commitOwed = false →
        ∃ t, exec (.commitEnd false) s = .next t ∧ LatchedAll .calibrationInvalid t
          ∧ t.calib.lastCommit = some false ∧ t.calib.counter = s.calib.counter
          ∧ (∀ l, (t.calib.cal.get l).items = (s.calib.cal.get l).items
              ∧ (t.calib.cal.get l).committed = (s.calib.cal.get l).committed
              ∧ (t.calib.cal.get l).valid = (s.calib.cal.get l).valid)
          ∧ t.loader.eeprom.counter = s.loader.eeprom.counter
          ∧ t.loader.eeprom.identity = s.loader.eeprom.identity
          ∧ t.loader.eeprom.settings = s.loader.eeprom.settings
          ∧ t.loader.writes.length = rest.length
          ∧ t.loader.writeStart = (if rest = [] then none else some s.bodyTimer)
          ∧ t.flow = s.flow ∧ t.lifters = s.lifters)
      ∧ (∀ ok : Bool, s.loader.writes = .commit copies :: rest → due s s.loader.writeStart 5 = true →
        s.calib.commitOwed = true →
        ∃ t, exec (.commitEnd ok) s = .next t ∧ t.calib.commitOwed = false ∧ t.calib.lastCommit = some ok
          ∧ (∀ l, (t.calib.cal.get l).items = (s.calib.cal.get l).items
              ∧ (t.calib.cal.get l).committed = ((s.calib.cal.get l).committed
                  || (ok && (copies.get l).isSome && !(s.calib.cal.get l).takenSinceCommit)))
          ∧ (t.calib.cal.left.committed = true → t.calib.cal.right.committed = true →
              t.loader.writes.length = rest.length)
          ∧ (t.calib.cal.left.committed = false ∨ t.calib.cal.right.committed = false →
              t.loader.writes.length = rest.length + 1 ∧ t.loader.writes.getLast?.any isCommitJob = true)
          ∧ (t.calib.cal.left.committed = false ∨ t.calib.cal.right.committed = false → rest = [] →
              t.loader.writes = [.commit
                { left := if t.calib.cal.left.committed then none else some t.calib.cal.left.items
                  right := if t.calib.cal.right.committed then none else some t.calib.cal.right.items }]
              ∧ t.loader.writeStart = some s.bodyTimer
              ∧ ∀ l, (t.calib.cal.get l).takenSinceCommit = false))
      ∧ (due s s.loader.writeStart 5 = false ∨ s.loader.writes.head?.all (fun j => !isCommitJob j) = true →
        ∀ ok, exec (.commitEnd ok) s = .next s)
      ∧ (settledTo true s s.calib.sealSwitch = false → exec .sealReadingOpen s = .next s)
      ∧ (settledTo false s s.calib.sealSwitch = false → exec .sealReadingClosed s = .next s)

/-- R137, R211: the checks of Write Identity in their order, its write handed over, and the write's end, after which
the next write begins; after a failed write the block's content is open (log 7), and an end before the write has
lasted 5 ms, or while another write is in progress, has no effect (log 33). -/
def Obligations.IdentityWritten : Prop :=
  ∀ (p q : Port) (n m k : Byte) (d : List Byte) (x : Vector (Option Byte) 16) (rest : List WriteJob) (s : State),
    (Accepts .writeIdentity p d s →
        16 < byteAt d 0 + (d.drop 1).length ∨ (∃ c ∈ d.drop 1, c.toNat < 32 ∨ 126 < c.toNat) →
        exec (.writeIdentity p n d) s = .next (replied p n .writeIdentity .badArgument s))
      ∧ (Accepts .writeIdentity p d s → byteAt d 0 + (d.drop 1).length ≤ 16 →
        (∀ c ∈ d.drop 1, 32 ≤ c.toNat ∧ c.toNat ≤ 126) →
        (∃ i : Fin 16, byteAt d 0 ≤ i.val ∧ i.val < byteAt d 0 + (d.drop 1).length
          ∧ (s.calib.identity.get i).isSome = true) →
        exec (.writeIdentity p n d) s = .next (replied p n .writeIdentity .locked s))
      ∧ (Accepts .writeIdentity p d s → byteAt d 0 + (d.drop 1).length ≤ 16 →
        (∀ c ∈ d.drop 1, 32 ≤ c.toNat ∧ c.toNat ≤ 126) →
        (∀ i : Fin 16, byteAt d 0 ≤ i.val → i.val < byteAt d 0 + (d.drop 1).length →
          s.calib.identity.get i = none) →
        (∀ i : Fin 16, x.get i =
          if byteAt d 0 ≤ i.val ∧ i.val < byteAt d 0 + (d.drop 1).length then d[i.val - byteAt d 0 + 1]?
          else s.calib.identity.get i) →
        exec (.writeIdentity p n d) s = .next
          (if s.loader.writes.any isIdentityJob = true then replied p n .writeIdentity .busy s
          else awaiting p n .writeIdentity (handed (.identity p x) s)))
      ∧ (s.loader.writes = .identity q x :: rest → due s s.loader.writeStart 5 = true →
        (s.port q).service = .waiting m k →
        exec (.identityWriteEnd true) s = .next (begun rest
          (((s.withCalib { s.calib with identity := x }).withEeprom
            { s.loader.eeprom with identity := ⟨x, true⟩ }).withPort q
            { s.port q with service := .answering ⟨m, k, [0]⟩ })))
      ∧ (s.loader.writes = .identity q x :: rest → due s s.loader.writeStart 5 = true →
        (s.port q).service = .waiting m k →
        ∃ e, (e = s.loader.eeprom.identity ∨ e = ⟨x, true⟩ ∨ e.good = false)
          ∧ exec (.identityWriteEnd false) s = .next (begun rest
            (((s.withEeprom { s.loader.eeprom with identity := e }).withFreeIndex (s.freeIndex + 2)).withPort q
              { s.port q with service := .answering ⟨m, k, [5, 24]⟩ })))
      ∧ (due s s.loader.writeStart 5 = false ∨ s.loader.writes.head?.all (fun j => !isIdentityJob j) = true →
        ∀ ok, exec (.identityWriteEnd ok) s = .next s)

/-- R132, R133, R137: no command but the end of a counter write taken with the seal OPEN changes a calibration item,
and that one moves the counter; the counter never decreases and a written identity character stays, but for a load or
a reset. -/
def Obligations.CalibrationIsSealed : Prop :=
  ∀ (i : Instr) (s t : State), exec i s = .next t → isLoad i = false →
    ((∃ l, (t.calib.cal.get l).items ≠ (s.calib.cal.get l).items) →
        i = .counterWriteEnd true ∧ s.calib.sealSwitch.reading = true)
      ∧ (StoreLaw s → s.calib.counter ≤ t.calib.counter ∧ t.calib.counter ≤ s.calib.counter + 1)
      ∧ (StoreLaw s → (∃ l, (t.calib.cal.get l).items ≠ (s.calib.cal.get l).items) →
          t.calib.counter = min 65535 (s.calib.counter + 1))
      ∧ (StoreLaw s → extendsIdentity s.calib.identity t.calib.identity)

/-! ### Events, access map, scan ring -/

/-- R200, R201, R203, R204: Clear Events clears the named latches of its own port, Set Event Mask replaces its own
mask, Set Access replaces one entry's rights while the lock is OFF, Lock Map sets the lock once. That a bad argument
of Set Event Mask is answered before a settings write in flight is looked at is the model's choice (log 14), and the
codings of ports, classes and rights are its reading (log 12, log 35). -/
def Obligations.EventAndMapRequests : Prop :=
  ∀ (p q : Port) (n : Byte) (d : List Byte) (c : Fin 14) (r w : Bool) (s : State),
    (Accepts .clearEvents p d s → beAt d 0 4 < 2 ^ 26 →
        exec (.clearEvents p n d) s = .next (replied p n .clearEvents
          (.ok (beBytes 4 ((s.port p).latched &&& ~~~BitVec.ofNat 26 (beAt d 0 4)).toNat))
          (s.withPort p ((s.port p).setLatched ((s.port p).latched &&& ~~~BitVec.ofNat 26 (beAt d 0 4))))))
      ∧ (Accepts .clearEvents p d s → 2 ^ 26 ≤ beAt d 0 4 →
        exec (.clearEvents p n d) s = .next (replied p n .clearEvents .badArgument s))
      ∧ (Accepts .setEventMask p d s →
        exec (.setEventMask p n d) s = .next
          (if 2 ^ 26 ≤ beAt d 0 4 then replied p n .setEventMask .badArgument s
          else if s.loader.writes.any isSettingsJob = true then replied p n .setEventMask .busy s
          else replied p n .setEventMask (.ok [])
            (s.withPort p ((s.port p).setMask (BitVec.ofNat 26 (beAt d 0 4))))))
      ∧ (Accepts .setAccess p d s → s.access.locked = true →
        exec (.setAccess p n d) s = .next (replied p n .setAccess .locked s))
      ∧ (Accepts .setAccess p d s → s.access.locked = false → rightsArg d = none →
        exec (.setAccess p n d) s = .next (replied p n .setAccess .badArgument s))
      ∧ (Accepts .setAccess p d s → s.access.locked = false → rightsArg d = some (q, c, ⟨r, w⟩) →
        exec (.setAccess p n d) s = .next
          (if s.loader.writes.any isSettingsJob = true then replied p n .setAccess .busy s
          else replied p n .setAccess (.ok []) (s.withAccess
            { s.access with map := s.access.map.set q ((s.access.map.get q).set c.val ⟨r, w⟩ c.isLt) })))
      ∧ (Accepts .lockMap p d s →
        exec (.lockMap p n d) s = .next
          (if s.access.locked then replied p n .lockMap .locked s
          else replied p n .lockMap (.ok []) (s.withAccess { s.access with locked := true })))

/-- R97: Set Scan Ring is BUSY while a lifter or a packer is outside IDLE or a settings write is in flight; else the
scan restarts at the new start channel, channels that left or joined become STALE, and slots keep their values. That
a bad argument is answered before the state is looked at is the model's choice (log 14). -/
def Obligations.ScanRingReplaced : Prop :=
  ∀ (p : Port) (n : Byte) (d : List Byte) (a b : Fin 12) (s : State), Accepts .setScanRing p d s →
    (12 ≤ byteAt d 0 ∨ 12 ≤ byteAt d 1 →
        exec (.setScanRing p n d) s = .next (replied p n .setScanRing .badArgument s))
      ∧ (a.val = byteAt d 0 → b.val = byteAt d 1 →
        (s.context .left ≠ none ∨ s.context .right ≠ none ∨ s.packers.residual.state ≠ .idle
          ∨ s.packers.recycle.state ≠ .idle ∨ s.loader.writes.any isSettingsJob = true) →
        exec (.setScanRing p n d) s = .next (replied p n .setScanRing .busy s))
      ∧ (a.val = byteAt d 0 → b.val = byteAt d 1 → s.context .left = none → s.context .right = none →
        s.packers.residual.state = .idle → s.packers.recycle.state = .idle →
        s.loader.writes.any isSettingsJob = false →
        ∃ t, exec (.setScanRing p n d) s = .next (replied p n .setScanRing (.ok []) t)
          ∧ t.withScan s.scan = s
          ∧ t.scan.ringStart = a ∧ t.scan.ringEnd = b ∧ t.scan.ringPos = a ∧ t.scan.converter = .ring
          ∧ t.scan.pass = s.scan.pass ∧ t.scan.buffers = s.scan.buffers ∧ t.scan.pointer = s.scan.pointer
          ∧ ∀ ch : Fin 12, (t.slot ch).result = (s.slot ch).result
            ∧ (inRing s.scan ch = true → inRing t.scan ch = true → t.slot ch = s.slot ch)
            ∧ (inRing s.scan ch = false → inRing t.scan ch = true →
                (t.slot ch).fresh = false ∧ (t.slot ch).timer = some s.bodyTimer)
            ∧ (inRing t.scan ch = false → (t.slot ch).fresh = false ∧ (t.slot ch).timer = none))

/-- R11, R23, R73, R90, R93 to R96, R99, R122 to R124: a ring conversion that ends writes its valid value into its
slot with the pass number, moves the ring's position and the pass, and gives the next turn to an insertion while a
window fills; at a pass number that is a multiple of 32 the idle lifters' drift is checked; the expiry of a
channel's 20 ms makes it STALE, which faults a motion phase or a stroke, and moves no RETURNING lifter. That the
drift check comes after the reading is handed on is log 17; a completion that does not match what the converter does
has no effect (log 22), nor has the expiry of a timer that is stopped or was started anew by a valid result (log 3).
-/
def Obligations.RingConversionWritten : Prop :=
  ∀ (v : Int) (r : Option Int) (ch : Fin 12) (s : State),
    (s.scan.converter = .ring → ch = s.scan.ringPos →
        (if ch.val < 2 then -524288 ≤ v ∧ v ≤ 524287 else 0 ≤ v ∧ v ≤ 4095) →
        r = some v ∨ r = none →
        ∃ t, exec (.ringConversionComplete r) s = .next t ∧ PortsQuiet s t
          ∧ t.scan.ringPos = (if ch = s.scan.ringEnd then s.scan.ringStart else ch + 1)
          ∧ t.scan.pass = (if ch = s.scan.ringEnd then (s.scan.pass + 1) % 65536 else s.scan.pass)
          ∧ (r = none → t.scan.slots = s.scan.slots)
          ∧ (r = some v → t.slot ch =
              ⟨some ⟨v, s.scan.pass⟩, inRing s.scan ch, if inRing s.scan ch then some s.bodyTimer else none⟩)
          ∧ (∀ x : Fin 12, x ≠ ch → t.slot x = s.slot x)
          ∧ t.scan.buffers = s.scan.buffers
          ∧ t.scan.ringStart = s.scan.ringStart ∧ t.scan.ringEnd = s.scan.ringEnd
          ∧ (t.scan.converter, t.scan.pointer) =
            (match isFilling s.scan.buffers.left, isFilling s.scan.buffers.right with
            | false, false => (.ring, s.scan.pointer)
            | true, false => (.inserted .left, .right)
            | false, true => (.inserted .right, .left)
            | true, true => (.inserted s.scan.pointer, otherLifter s.scan.pointer))
          ∧ t.weigh.queue = s.weigh.queue ∧ t.weigh.computation = s.weigh.computation
          ∧ t.weigh.last = s.weigh.last
          ∧ (∀ l, t.weigh.drift.get l =
            if ch = s.scan.ringEnd ∧ t.scan.pass % 32 = 0 ∧ t.context l = none
                ∧ (s.weigh.drift.get l).disabled = false ∧ (s.calib.cal.get l).valid = true
                ∧ (t.slot (loadCell l)).fresh = true then
              match (t.slot (loadCell l)).result with
              | none => s.weigh.drift.get l
              | some x =>
                let m := roundHalfAway ((x.value - (s.calib.cal.get l).items.zeroOffset)
                  * (s.calib.cal.get l).items.span) 65536
                if m.natAbs ≤ (s.calib.cal.get l).items.driftLimit then ⟨false, 0, some (m, t.scan.pass)⟩
                else if (s.weigh.drift.get l).count < 49 then
                  ⟨false, (s.weigh.drift.get l).count + 1, some (m, t.scan.pass)⟩
                else ⟨true, 0, some (m, t.scan.pass)⟩
            else s.weigh.drift.get l)
          ∧ (∀ l, (t.weigh.drift.get l).disabled = true → (s.weigh.drift.get l).disabled = false →
              LatchedAll .zeroDrift t))
      ∧ (s.scan.converter ≠ .ring → exec (.ringConversionComplete r) s = .next s)
      ∧ (due s (s.slot ch).timer 20 = true →
        ∃ t, exec (.channelFreshnessExpiry ch) s = .next t ∧ PortsQuiet s t ∧ LatchedAll .sensorStale t
          ∧ t.scan = { s.scan with
              slots := s.scan.slots.set ch.val { s.slot ch with fresh := false, timer := none } ch.isLt }
          ∧ (lifterOfChannel ch = none → streamOfChannel ch = none → t.withScan s.scan = s.withPorts t.ports)
          ∧ ((s.slot ch).fresh = false → t.withScan s.scan = s.withPorts t.ports)
          ∧ (∀ l c, lifterOfChannel ch = some l → (s.slot ch).fresh = true → s.context l = some c →
              isMotion c.phase = true → FaultOwn s t l c .angleStale c.phase)
          ∧ (∀ l, lifterOfChannel ch = some l → (∀ ph, s.phase l = some ph → isMotion ph = false) →
              t.withScan s.scan = s.withPorts t.ports)
          ∧ (∀ st ph, streamOfChannel ch = some st → (s.slot ch).fresh = true →
              (s.packer st).state = .stroke ph →
              PackFaultOwn s t st
                (if ch = pressureChannel st ∨ channelFresh s (pressureChannel st) = false then .pressureStale
                 else .strokeStale) ph (s.packer st).pending)
          ∧ (∀ st, streamOfChannel ch = some st → (∀ ph, (s.packer st).state ≠ .stroke ph) →
              t.withScan s.scan = s.withPorts t.ports)
          ∧ SameBooks s t)
      ∧ (due s (s.slot ch).timer 20 = false → exec (.channelFreshnessExpiry ch) s = .next s)

/-- R100, R101, R107, R108, R135: an inserted conversion writes its slot and adds a sample to a filling window; the
sample that fills it makes the window HELD with its copies, queues it, marks the lift while the seal reads OPEN, and
starts its computation with the inputs as they stand when no other window is queued. A completion that does not
match what the converter does has no effect (log 22). -/
def Obligations.InsertedConversionSamples : Prop :=
  ∀ (l : Lifter) (v : Int) (N : Nat) (samples : List Int) (s : State),
    (s.scan.converter = .inserted l → -524288 ≤ v → v ≤ 524287 → s.scan.buffers.get l = .filling N samples →
        ∃ t, exec (.insertedConversionComplete (some v)) s = .next t ∧ t.ports = s.ports ∧ SameBooks s t
          ∧ t.slot (loadCell l) = ⟨some ⟨v, s.scan.pass⟩, inRing s.scan (loadCell l),
              if inRing s.scan (loadCell l) then some s.bodyTimer else none⟩
          ∧ (∀ x : Fin 12, x ≠ loadCell l → t.slot x = s.slot x)
          ∧ t.scan.converter = .ring ∧ t.scan.ringPos = s.scan.ringPos ∧ t.scan.pointer = s.scan.pointer
          ∧ t.scan.pass = s.scan.pass
          ∧ (samples.length + 1 ≠ N → t.scan.buffers.get l = .filling N (samples ++ [v])
              ∧ t.weigh = s.weigh ∧ t.lifters = s.lifters)
          ∧ (samples.length + 1 = N →
              t.scan.buffers.get l = .held N (samples ++ [v])
                ⟨⟨channelValue s 4, channelFresh s 4⟩, ⟨channelValue s 5, channelFresh s 5⟩,
                  ⟨channelValue s 11, channelFresh s 11⟩⟩
              ∧ t.weigh.queue = s.weigh.queue ++ [l]
              ∧ t.context l = (s.context l).map (fun c =>
                  { c with sealWasOpen := c.sealWasOpen || s.calib.sealSwitch.reading })
              ∧ (s.weigh.queue = [] → t.weigh.computation.map Computation.startedAt = some s.bodyTimer)
              ∧ (s.weigh.queue = [] → ∀ c, s.context l = some c → t.weigh.computation = some
                  { lifter := l
                    bank := c.bank
                    startedAt := s.bodyTimer
                    calValid := (s.calib.cal.get l).valid
                    items := (s.calib.cal.get l).items
                    size := N
                    samples := samples ++ [v]
                    copies := ⟨⟨channelValue s 4, channelFresh s 4⟩, ⟨channelValue s 5, channelFresh s 5⟩,
                      ⟨channelValue s 11, channelFresh s 11⟩⟩ })
              ∧ (s.weigh.queue ≠ [] → t.weigh.computation = s.weigh.computation))
          ∧ t.scan.buffers.get (otherLifter l) = s.scan.buffers.get (otherLifter l)
          ∧ t.lifter (otherLifter l) = s.lifter (otherLifter l) ∧ t.flow = s.flow ∧ t.packers = s.packers)
      ∧ (s.scan.converter = .inserted l → -524288 ≤ v → v ≤ 524287 → isFilling (s.scan.buffers.get l) = false →
        exec (.insertedConversionComplete (some v)) s = .next (s.withScan
          { s.scan with
            converter := .ring
            slots := s.scan.slots.set (loadCell l).val
              ⟨some ⟨v, s.scan.pass⟩, inRing s.scan (loadCell l),
                if inRing s.scan (loadCell l) then some s.bodyTimer else none⟩ (loadCell l).isLt }))
      ∧ (s.scan.converter = .inserted l →
        exec (.insertedConversionComplete none) s = .next (s.withScan { s.scan with converter := .ring }))
      ∧ ((∀ l, s.scan.converter ≠ .inserted l) → ∀ r, exec (.insertedConversionComplete r) s = .next s)

/-- R13, R15, R102, R108, R109, R119: a computation's end, 2 ms after its start, empties the window, keeps the last
result, hands it to the lift (a mass, a retry, or a failed weighing) and starts the next window's computation with
its inputs as they stand. Before the 2 ms, and without a computation, the end has no effect (log 3). -/
def Obligations.WeighComputationDelivers : Prop :=
  ∀ (l : Lifter) (rest : List Lifter) (x : Computation) (c : LiftContext) (s : State),
    (s.weigh.computation = some x → x.startedAt + 2 ≤ s.bodyTimer → s.weigh.queue = l :: rest → l ∉ rest →
        s.context l = some c → isWeigh c.phase = true → s.flow.records.get (.lifter l) = .none →
        ∃ t, exec .weighComputationEnd s = .next t ∧ PortsQuiet s t
          ∧ t.weigh.queue = rest ∧ Begun s t rest
          ∧ t.weigh.last = s.weigh.last.set l (some (computeResult x s.body.clockSeconds))
          ∧ t.weigh.drift = s.weigh.drift ∧ SameBooks s t
          ∧ (∀ m, m ≠ l → t.scan.buffers.get m = s.scan.buffers.get m)
          ∧ t.scan = { s.scan with buffers := t.scan.buffers }
          ∧ ((computeResult x s.body.clockSeconds).outcome = .ok →
              MovesOrFaults s t l (if c.phase = .grossWeigh
                then { c with gross := (computeResult x s.body.clockSeconds).mass }
                else { c with tare := (computeResult x s.body.clockSeconds).mass }) (afterWeigh c.phase)
              ∧ t.scan.buffers.get l = .empty)
          ∧ ((computeResult x s.body.clockSeconds).outcome = .unstable → c.retry < 2 →
              t.context l = some { c with
                retry := c.retry + 1, flags := { c.flags with windowRetried := true } }
              ∧ t.scan.buffers.get l = .filling
                (if (s.calib.cal.get l).valid then (s.calib.cal.get l).items.windowSize else 32) []
              ∧ t.flow = s.flow ∧ t.lifter (otherLifter l) = s.lifter (otherLifter l))
          ∧ ((computeResult x s.body.clockSeconds).outcome = .unstable → 2 ≤ c.retry →
              MovesOrFaults s t l { c with retry := 3, outcome := .unstable } (afterWeigh c.phase)
              ∧ t.scan.buffers.get l = .empty)
          ∧ ((computeResult x s.body.clockSeconds).outcome ≠ .ok →
              (computeResult x s.body.clockSeconds).outcome ≠ .unstable →
              MovesOrFaults s t l { c with outcome := (computeResult x s.body.clockSeconds).outcome }
                (afterWeigh c.phase)
              ∧ t.scan.buffers.get l = .empty))
      ∧ (due s (s.weigh.computation.map Computation.startedAt) 2 = false ∨ s.weigh.queue = [] →
        exec .weighComputationEnd s = .next s)

/-- R112 to R121, R166 to R168: the stages of a computation end at the first that fails; the pitch factor is
interpolated from the table, and the mass and the net are rounded to the nearest; a charge lies between its class's
minimum and cap, with the flag of the bound that applied, and uses no more allowance than there is. -/
def Obligations.WeighingAndChargeArithmetic : Prop :=
  ∀ (x : Computation) (time d cls net allowance : Nat) (num g t pitch : Int) (den : Nat) (tf : Tariff) (st : Stream)
    (f : RecordFlags) (table : Vector Nat 9) (k : Fin 8),
    (x.calValid = false → (computeResult x time).outcome = .noCalibration)
      ∧ (x.calValid = true →
        (x.copies.excitation.fresh = false ∨ x.copies.pitch.fresh = false ∨ x.copies.roll.fresh = false) →
        (computeResult x time).outcome = .sensor)
      ∧ (∀ e p r, x.calValid = true → x.copies.excitation = ⟨some e, true⟩ → x.copies.pitch = ⟨some p, true⟩ →
        x.copies.roll = ⟨some r, true⟩ →
        (e < 1800 ∨ 2300 < e → (computeResult x time).outcome = .sensor)
          ∧ (1800 ≤ e → e ≤ 2300 →
              800 < (((p - x.items.pitchZero) * 25).tdiv 16).natAbs
                ∨ 500 < (((r - x.items.rollZero) * 25).tdiv 16).natAbs →
              (computeResult x time).outcome = .tilt)
          ∧ (1800 ≤ e → e ≤ 2300 → (((p - x.items.pitchZero) * 25).tdiv 16).natAbs ≤ 800 →
              (((r - x.items.rollZero) * 25).tdiv 16).natAbs ≤ 500 → x.items.stabilityBand < spread x.samples →
              (computeResult x time).outcome = .unstable)
          ∧ (1800 ≤ e → e ≤ 2300 → (((p - x.items.pitchZero) * 25).tdiv 16).natAbs ≤ 800 →
              (((r - x.items.rollZero) * 25).tdiv 16).natAbs ≤ 500 → spread x.samples ≤ x.items.stabilityBand →
              (computeResult x time).outcome =
                (if -(9 * (x.items.division.get x.bank : Int)) ≤ massResult x
                    ∧ massResult x ≤ x.items.maximum.get x.bank + 9 * (x.items.division.get x.bank : Int)
                  then .ok else .overRange))
          ∧ massResult x = roundHalfAway
              ((x.samples.sum - x.size * x.items.zeroOffset) * x.items.span
                * pitchFactor x.items.pitchTable (((p - x.items.pitchZero) * 25).tdiv 16))
              (x.size * 4294967296))
      ∧ ((computeResult x time).outcome = .ok → (computeResult x time).mass = some (massResult x))
      ∧ ((computeResult x time).outcome ≠ .ok → (computeResult x time).mass = none)
      ∧ pitchFactor table 800 = table.get 8
      ∧ (200 * (k.val : Int) - 800 ≤ pitch → pitch < 200 * (k.val : Int) - 600 →
        pitchFactor table pitch = table.get k.castSucc
          + roundHalfAway (((table.get k.succ : Int) - table.get k.castSucc) * (pitch - (200 * (k.val : Int) - 800))) 200)
      ∧ (x.samples ≠ [] → ∃ a ∈ x.samples, ∃ b ∈ x.samples, (spread x.samples : Int) = a - b
          ∧ ∀ y ∈ x.samples, b ≤ y ∧ y ≤ a)
      ∧ (0 < den → 2 * (roundHalfAway num den * den - num).natAbs ≤ den
          ∧ (2 * (roundHalfAway num den * den - num).natAbs = den →
              num.natAbs < (roundHalfAway num den * den).natAbs))
      ∧ (0 < d → d ∣ netOf g t d ∧ 2 * (netOf g t d : Int) ≤ 2 * (g - t).toNat + d
          ∧ 2 * ((g - t).toNat : Int) < 2 * netOf g t d + d)
      ∧ (chargeOf 0 tf st net allowance f = (⟨0, 0⟩, f))
      ∧ ((chargeOf cls tf st net allowance f).1.used ≤ allowance)
      ∧ (tf.minimum ≤ tf.cap → (chargeOf cls tf st net allowance f).1.cents ≤ tf.cap)
      ∧ (cls ≠ 0 → f.belowMin = true →
          chargeOf cls tf st net allowance f = (⟨tf.minimum, 0⟩, { f with minApplied := true }))
      ∧ (cls ≠ 0 → f.belowMin = false → net ≤ allowance * 100 →
          chargeOf cls tf st net allowance f = (⟨0, net / 100⟩, f))
      ∧ (∀ raw, raw = ((net - allowance * 100) * (if st = .residual then tf.residualRate else tf.recycleRate) + 50000)
            / 100000 →
          cls ≠ 0 → f.belowMin = false → allowance * 100 < net → tf.minimum ≤ tf.cap →
          chargeOf cls tf st net allowance f =
            (⟨max tf.minimum (min tf.cap raw), allowance⟩,
              if raw < tf.minimum then { f with minApplied := true }
              else if tf.cap < raw then { f with capApplied := true } else f))

/-! ### Flow, resets, loads, tags -/

/-- R19, R50, R52 to R57, R62, R78: a placed request joins the list and a removed one leaves it, each followed by a
grant evaluation: in a RUNNING body the longest beginning of the list, lifters before packers and each oldest first,
that fits the free supply is granted with its demands and handed over, the rest waits; in STARTING and HALTED
nothing is granted. A request that has waited 3,000 ms is withdrawn, FLOW_TIMEOUT is set, and its consumer is held
with FLOW. A record that does not wait, or not so long, has no timeout (log 3); a removal and its grants are
followed by one test of the line (log 37). -/
def Obligations.FlowWaitTimesOut : Prop :=
  ∀ (l : Lifter) (c : LiftContext) (x : Consumer) (st : Stream) (ph : StrokePhase) (d since : Nat) (s : State),
    (s.flow.records.get (.lifter l) = .waiting d since → since + 3000 ≤ s.bodyTimer → s.context l = some c →
        isHoldable c.phase = true →
        ∃ t, exec (.flowWaitTimeout (.lifter l)) s = .next t ∧ PortsQuiet s t ∧ LatchedAll .flowTimeout t
          ∧ HeldAfter s t l c { flow := true })
      ∧ (s.flow.records.get (.packer st) = .waiting d since → since + 3000 ≤ s.bodyTimer →
        (s.packer st).state = .stroke ph →
        ∃ t, exec (.flowWaitTimeout (.packer st)) s = .next t ∧ PortsQuiet s t ∧ LatchedAll .flowTimeout t
          ∧ t.packer st = { stopPacker (s.packer st) with state := .held ph ⟨false, true⟩ }
          ∧ t.flow.records.get (.packer st) = .none ∧ PackOthersKept s t st ∧ SameBooks s t)
      ∧ (due s (waitOf (s.flow.records.get x)) 3000 = false → exec (.flowWaitTimeout x) s = .next s)
      ∧ (s.flow.records.get x = .none →
        placeRequest x d s = evaluateGrants (s.withFlow { s.flow with
          records := s.flow.records.set x (.waiting d s.bodyTimer), waiting := s.flow.waiting ++ [x] }))
      ∧ (s.flow.records.get x ≠ .none →
        giveBackFlow x s = evaluateGrants (s.withFlow { s.flow with
          records := s.flow.records.set x .none, waiting := s.flow.waiting.filter fun y => decide (y ≠ x) }))
      ∧ (s.body.state ≠ .running → (evaluateGrants s).flow = { s.flow with line := lineWanted s.flow }
          ∧ (evaluateGrants s).withFlow s.flow = s.withPorts (evaluateGrants s).ports)
      ∧ (s.body.state = .running → s.flow.waiting.Nodup →
        (∀ y ∈ s.flow.waiting, isWaiting (s.flow.records.get y) = true) →
        ∃ n ≤ (grantOrder s.flow).length, Granted s (evaluateGrants s) ((grantOrder s.flow).take n)
          ∧ (n = 0 ∨ grantedUnits s.flow + (((grantOrder s.flow).take n).map (demandOf s.flow)).sum ≤ s.flow.supply)
          ∧ (n < (grantOrder s.flow).length →
              s.flow.supply < grantedUnits s.flow + (((grantOrder s.flow).take (n + 1)).map (demandOf s.flow)).sum))

/-- R209, R211 (with R31, R48, R64, R87, R105, R126, R139, R159, R181, R191, R207): power-on reset and the reset
line leave every block in its power-on state, the readings taken from the lines. With no write in flight the EEPROM
is kept; a write in progress is cut off, and what its parts then hold is open (log 7). The body timer's 0 (log 10),
the values before the load (log 11), the hold and the release of the line (log 20), the start (log 21), the ring's
position (log 22) and the kept queue (log 28) are the model's. -/
def Obligations.ResetsPowerOn : Prop :=
  ∀ (j : WriteJob) (rest : List WriteJob) (s : State),
    (s.loader.writes = [] →
        exec .powerOnReset s = .next (poweredOn s s.resetHeld
            (if s.resetHeld then .none else .reading .settings) s.freeIndex s.loader.eeprom)
          ∧ exec .resetLineAssert s = .next (poweredOn s true .none s.freeIndex s.loader.eeprom)
          ∧ (s.resetHeld = true → exec .resetLineRelease s =
              .next (poweredOn s false (.reading .settings) s.freeIndex s.loader.eeprom)))
      ∧ (s.loader.writes = j :: rest → ∃ e, EepromCut j s.loader.eeprom e
          ∧ exec .powerOnReset s = .next (poweredOn s s.resetHeld
              (if s.resetHeld then .none else .reading .settings) (s.freeIndex + 2) e)
          ∧ exec .resetLineAssert s = .next (poweredOn s true .none (s.freeIndex + 2) e)
          ∧ (s.resetHeld = true → exec .resetLineRelease s =
              .next (poweredOn s false (.reading .settings) (s.freeIndex + 2) e)))
      ∧ (s.resetHeld = false → exec .resetLineRelease s = .next s)

/-- R32, R35, R129, R133, R212, R213: each part read hands its content, or its default when the read fails, to its
owner and the next part follows; the counter block, and the end of a body-reset pass after its 20 ms, take the body
out of STARTING. That each part's read ends as a command is the model's (log 31), and so is that a pass's end before
its 20 ms has no effect (log 3). -/
def Obligations.LoadPartsTaken : Prop :=
  ∀ (ok : Bool) (l : Lifter) (x : Settings) (since : Nat) (s : State), s.resetHeld = false →
    (s.loader.load = .reading .settings →
        x = (if ok && s.loader.eeprom.settings.good then s.loader.eeprom.settings.content else defaultSettings) →
        ∃ t, exec (.loadPartRead ok) s = .next t ∧ currentSettings t = x
          ∧ (∀ l, (t.lifter l).selection = (x.lifters.get l).initialSelection)
          ∧ t.scan.converter = .ring ∧ t.scan.ringPos = x.ringStart
          ∧ ((ok && s.loader.eeprom.settings.good) = false → LatchedAll .settingsFallback t)
          ∧ t.loader = { s.loader with load := .reading (.calibration .left) }
          ∧ t.calib = s.calib ∧ t.body = s.body ∧ t.flow = s.flow ∧ t.journal = s.journal
          ∧ t.tags.table = s.tags.table ∧ t.weigh = s.weigh ∧ t.access.locked = s.access.locked)
      ∧ (s.loader.load = .reading (.calibration l) →
        ∃ t, exec (.loadPartRead ok) s = .next t
          ∧ t.calib.cal = s.calib.cal.set l
            (if ok && (s.loader.eeprom.calibration.get l).good then
              ⟨(s.loader.eeprom.calibration.get l).content, true, true, false⟩
            else ⟨defaultCalItems, false, true, false⟩)
          ∧ ((ok && (s.loader.eeprom.calibration.get l).good) = false → LatchedAll .calibrationInvalid t)
          ∧ t.loader = { s.loader with load := .reading (match l with
              | .left => .calibration .right
              | .right => .identity) }
          ∧ ((t.withLoader s.loader).withCalib s.calib).withPorts s.ports = s)
      ∧ (s.loader.load = .reading .identity →
        exec (.loadPartRead ok) s = .next ((s.withCalib
          { s.calib with identity :=
            if ok && s.loader.eeprom.identity.good then s.loader.eeprom.identity.content
            else Vector.replicate 16 none }).withLoader { s.loader with load := .reading .counter }))
      ∧ (s.loader.load = .reading .counter → s.body.estop.reading = false →
        exec (.loadPartRead ok) s = .next (((s.withCalib
          { s.calib with counter :=
            if ok && s.loader.eeprom.counter.good then s.loader.eeprom.counter.content else 65535 }).withLoader
              { s.loader with load := .none }).withBody { s.body with state := .running }))
      ∧ (s.loader.load = .reading .counter → s.body.estop.reading = true →
        ∃ t, exec (.loadPartRead ok) s = .next t ∧ t.body = { s.body with state := .halted }
          ∧ t.calib = { s.calib with counter :=
              if ok && s.loader.eeprom.counter.good then s.loader.eeprom.counter.content else 65535 }
          ∧ LatchedAll .estop t ∧ t.loader = { s.loader with load := .none }
          ∧ t.flow.records = ⟨.none, .none, .none, .none⟩
          ∧ ∀ st, (s.packer st).state ≠ .fault → (t.packer st).state = .halted)
      ∧ (s.loader.load = .pass since → since + 20 ≤ s.bodyTimer → s.body.estop.reading = false →
        exec .bodyResetPassEnd s = .next ((s.withLoader { s.loader with load := .none }).withBody
          { s.body with state := .running }))
      ∧ (s.loader.load = .pass since → since + 20 ≤ s.bodyTimer → s.body.estop.reading = true →
        ∃ t, exec .bodyResetPassEnd s = .next t ∧ t.body = { s.body with state := .halted }
          ∧ LatchedAll .estop t ∧ t.loader = { s.loader with load := .none }
          ∧ t.flow.records = ⟨.none, .none, .none, .none⟩
          ∧ ∀ st, (s.packer st).state ≠ .fault → (t.packer st).state = .halted)
      ∧ (s.loader.load = .pass since → s.bodyTimer < since + 20 → exec .bodyResetPassEnd s = .next s)

/-- R141, R143, R145: a read gets the first disposition that applies; only an ACCEPTED one reaches the pending slots,
taking its tag from the other lifter's slot with a count of the cross-read. -/
def Obligations.TagReadsSorted : Prop :=
  ∀ (l : Lifter) (ok : Bool) (tag : BitVec 40) (q : BitVec 4) (dis : Disposition) (s : State),
    s.resetHeld = false →
    dis = (if ok = false ∨ tag.toNat = 0 then .invalid
      else if s.body.state = .starting then .starting
      else if q.toNat < s.tags.threshold then .lowQuality
      else if bound s .left = some tag.toNat ∨ bound s .right = some tag.toNat then .bound
      else .accepted) →
    (dis ≠ .accepted →
        exec (.tagRead l ok tag q) s = .next (s.withTags { s.tags with
          lastReads := s.tags.lastReads.set l
            (some ⟨dis, if ok then some (tag.toNat, q.toNat) else none, s.bodyTimer⟩) }))
      ∧ (dis = .accepted →
        (s.tags.pendingTags.get (otherLifter l)).map PendingTag.tag ≠ some tag.toNat →
        exec (.tagRead l ok tag q) s = .next (s.withTags { s.tags with
          lastReads := s.tags.lastReads.set l (some ⟨.accepted, some (tag.toNat, q.toNat), s.bodyTimer⟩)
          pendingTags := s.tags.pendingTags.set l (some ⟨tag.toNat, q.toNat, s.bodyTimer⟩) }))
      ∧ (dis = .accepted →
        (s.tags.pendingTags.get (otherLifter l)).map PendingTag.tag = some tag.toNat →
        exec (.tagRead l ok tag q) s = .next (s.withTags { s.tags with
          lastReads := s.tags.lastReads.set l (some ⟨.accepted, some (tag.toNat, q.toNat), s.bodyTimer⟩)
          pendingTags := (s.tags.pendingTags.set (otherLifter l) none).set l
            (some ⟨tag.toNat, q.toNat, s.bodyTimer⟩)
          crossReads := if s.tags.crossReads < 65535 then s.tags.crossReads + 1 else s.tags.crossReads }))

/-! ### Laws that every step keeps -/

/-- R46, R84, R205: every step keeps the attention lines, the drive-inhibit line and the limit-reached flags as the
laws give them. -/
def Obligations.OutputLawsKept : Prop :=
  ∀ (s t : State), AttentionLaw s → InhibitLaw s → LimitLaw s → step s = .next t →
    AttentionLaw t ∧ InhibitLaw t ∧ LimitLaw t

/-- R9, R17, R50 to R54, R61, R62, R66: every step keeps the flow arbiter's records, list, units and line in order,
a record exactly for a phase that moves, every valve under a grant, one of a pair at most, and the first request in
the order of grants too large for the free supply. -/
def Obligations.MotionLawsKept : Prop :=
  ∀ (s t : State), FlowLaw s → RequestLaw s → ValveLaw s → step s = .next t →
    FlowLaw t ∧ RequestLaw t ∧ ValveLaw t ∧ (GrantLaw s → GrantLaw t)

/-- R1, R171, R174: every step keeps one reservation for each lift, the capacity of the journal, and the sequence
numbers consecutive from the oldest record to the newest. -/
def Obligations.JournalLawsKept : Prop :=
  ∀ (s t : State), ReservationLaw s → SequenceLaw s → step s = .next t → ReservationLaw t ∧ SequenceLaw t

/-- R144, R147, R148, R156, R157: every step keeps the account table in order and in range and the tags bound and
pending once, and no command but Put Account adds an entry or raises an allowance. -/
def Obligations.TableAndTagLawsKept : Prop :=
  ∀ (s t : State),
    (TableLaw s → step s = .next t → TableLaw t)
      ∧ (TagLaw s → step s = .next t → TagLaw t)
      ∧ (∀ i, isPutAccount i = false → exec i s = .next t →
          ∀ w ∈ t.tags.table, ∃ x ∈ s.tags.table,
            w.content.tag = x.content.tag ∧ w.content.account = x.content.account
              ∧ w.content.allowance ≤ x.content.allowance ∧ x.content.lifts ≤ w.content.lifts)

/-- R131, R137, R211, R212 and the counters' ranges: every step keeps at most one write of each kind in flight, each
with the content its rule gives, and every counter within its range (the route clock's remainder stands at 1,000 until
its second is taken, log 1). -/
def Obligations.StoreAndRangeLawsKept : Prop :=
  ∀ (s t : State), step s = .next t → (StoreLaw s → StoreLaw t) ∧ (RangeLaw s → RangeLaw t)

/-- The machine right after power-on reset is lawful (with the model's choices of log 5, 6, 10 and 11). -/
def Obligations.ResetIsLawful : Prop := Lawful State.reset
end

