-- ==== Sys2Proof/Laws/State.lean ====
section
/-! SUPPORT. What each named update of State does to each field, and the get and set laws of the families. -/

namespace Sys2Proof.Machine

variable (s : State)

/-! ### withPending -/

@[simp] theorem withPending_pending (v : List Instr) : (s.withPending v).pending = v := rfl
@[simp] theorem withPending_freeIndex (v : List Instr) : (s.withPending v).freeIndex = s.freeIndex := rfl
@[simp] theorem withPending_resetHeld (v : List Instr) : (s.withPending v).resetHeld = s.resetHeld := rfl
@[simp] theorem withPending_bodyTimer (v : List Instr) : (s.withPending v).bodyTimer = s.bodyTimer := rfl
@[simp] theorem withPending_lifters (v : List Instr) : (s.withPending v).lifters = s.lifters := rfl
@[simp] theorem withPending_banks (v : List Instr) : (s.withPending v).banks = s.banks := rfl
@[simp] theorem withPending_body (v : List Instr) : (s.withPending v).body = s.body := rfl
@[simp] theorem withPending_flow (v : List Instr) : (s.withPending v).flow = s.flow := rfl
@[simp] theorem withPending_packers (v : List Instr) : (s.withPending v).packers = s.packers := rfl
@[simp] theorem withPending_compartments (v : List Instr) : (s.withPending v).compartments = s.compartments := rfl
@[simp] theorem withPending_bodyLimit (v : List Instr) : (s.withPending v).bodyLimit = s.bodyLimit := rfl
@[simp] theorem withPending_scan (v : List Instr) : (s.withPending v).scan = s.scan := rfl
@[simp] theorem withPending_weigh (v : List Instr) : (s.withPending v).weigh = s.weigh := rfl
@[simp] theorem withPending_calib (v : List Instr) : (s.withPending v).calib = s.calib := rfl
@[simp] theorem withPending_tags (v : List Instr) : (s.withPending v).tags = s.tags := rfl
@[simp] theorem withPending_journal (v : List Instr) : (s.withPending v).journal = s.journal := rfl
@[simp] theorem withPending_integrity (v : List Instr) : (s.withPending v).integrity = s.integrity := rfl
@[simp] theorem withPending_ports (v : List Instr) : (s.withPending v).ports = s.ports := rfl
@[simp] theorem withPending_access (v : List Instr) : (s.withPending v).access = s.access := rfl
@[simp] theorem withPending_loader (v : List Instr) : (s.withPending v).loader = s.loader := rfl
@[simp] theorem withPending_withPending (v w : List Instr) : (s.withPending v).withPending w = s.withPending w := rfl
@[simp] theorem withPending_self : s.withPending s.pending = s := rfl

/-! ### withFreeIndex -/

@[simp] theorem withFreeIndex_pending (v : Nat) : (s.withFreeIndex v).pending = s.pending := rfl
@[simp] theorem withFreeIndex_freeIndex (v : Nat) : (s.withFreeIndex v).freeIndex = v := rfl
@[simp] theorem withFreeIndex_resetHeld (v : Nat) : (s.withFreeIndex v).resetHeld = s.resetHeld := rfl
@[simp] theorem withFreeIndex_bodyTimer (v : Nat) : (s.withFreeIndex v).bodyTimer = s.bodyTimer := rfl
@[simp] theorem withFreeIndex_lifters (v : Nat) : (s.withFreeIndex v).lifters = s.lifters := rfl
@[simp] theorem withFreeIndex_banks (v : Nat) : (s.withFreeIndex v).banks = s.banks := rfl
@[simp] theorem withFreeIndex_body (v : Nat) : (s.withFreeIndex v).body = s.body := rfl
@[simp] theorem withFreeIndex_flow (v : Nat) : (s.withFreeIndex v).flow = s.flow := rfl
@[simp] theorem withFreeIndex_packers (v : Nat) : (s.withFreeIndex v).packers = s.packers := rfl
@[simp] theorem withFreeIndex_compartments (v : Nat) : (s.withFreeIndex v).compartments = s.compartments := rfl
@[simp] theorem withFreeIndex_bodyLimit (v : Nat) : (s.withFreeIndex v).bodyLimit = s.bodyLimit := rfl
@[simp] theorem withFreeIndex_scan (v : Nat) : (s.withFreeIndex v).scan = s.scan := rfl
@[simp] theorem withFreeIndex_weigh (v : Nat) : (s.withFreeIndex v).weigh = s.weigh := rfl
@[simp] theorem withFreeIndex_calib (v : Nat) : (s.withFreeIndex v).calib = s.calib := rfl
@[simp] theorem withFreeIndex_tags (v : Nat) : (s.withFreeIndex v).tags = s.tags := rfl
@[simp] theorem withFreeIndex_journal (v : Nat) : (s.withFreeIndex v).journal = s.journal := rfl
@[simp] theorem withFreeIndex_integrity (v : Nat) : (s.withFreeIndex v).integrity = s.integrity := rfl
@[simp] theorem withFreeIndex_ports (v : Nat) : (s.withFreeIndex v).ports = s.ports := rfl
@[simp] theorem withFreeIndex_access (v : Nat) : (s.withFreeIndex v).access = s.access := rfl
@[simp] theorem withFreeIndex_loader (v : Nat) : (s.withFreeIndex v).loader = s.loader := rfl
@[simp] theorem withFreeIndex_withFreeIndex (v w : Nat) : (s.withFreeIndex v).withFreeIndex w = s.withFreeIndex w := rfl
@[simp] theorem withFreeIndex_self : s.withFreeIndex s.freeIndex = s := rfl

/-! ### withResetHeld -/

@[simp] theorem withResetHeld_pending (v : Bool) : (s.withResetHeld v).pending = s.pending := rfl
@[simp] theorem withResetHeld_freeIndex (v : Bool) : (s.withResetHeld v).freeIndex = s.freeIndex := rfl
@[simp] theorem withResetHeld_resetHeld (v : Bool) : (s.withResetHeld v).resetHeld = v := rfl
@[simp] theorem withResetHeld_bodyTimer (v : Bool) : (s.withResetHeld v).bodyTimer = s.bodyTimer := rfl
@[simp] theorem withResetHeld_lifters (v : Bool) : (s.withResetHeld v).lifters = s.lifters := rfl
@[simp] theorem withResetHeld_banks (v : Bool) : (s.withResetHeld v).banks = s.banks := rfl
@[simp] theorem withResetHeld_body (v : Bool) : (s.withResetHeld v).body = s.body := rfl
@[simp] theorem withResetHeld_flow (v : Bool) : (s.withResetHeld v).flow = s.flow := rfl
@[simp] theorem withResetHeld_packers (v : Bool) : (s.withResetHeld v).packers = s.packers := rfl
@[simp] theorem withResetHeld_compartments (v : Bool) : (s.withResetHeld v).compartments = s.compartments := rfl
@[simp] theorem withResetHeld_bodyLimit (v : Bool) : (s.withResetHeld v).bodyLimit = s.bodyLimit := rfl
@[simp] theorem withResetHeld_scan (v : Bool) : (s.withResetHeld v).scan = s.scan := rfl
@[simp] theorem withResetHeld_weigh (v : Bool) : (s.withResetHeld v).weigh = s.weigh := rfl
@[simp] theorem withResetHeld_calib (v : Bool) : (s.withResetHeld v).calib = s.calib := rfl
@[simp] theorem withResetHeld_tags (v : Bool) : (s.withResetHeld v).tags = s.tags := rfl
@[simp] theorem withResetHeld_journal (v : Bool) : (s.withResetHeld v).journal = s.journal := rfl
@[simp] theorem withResetHeld_integrity (v : Bool) : (s.withResetHeld v).integrity = s.integrity := rfl
@[simp] theorem withResetHeld_ports (v : Bool) : (s.withResetHeld v).ports = s.ports := rfl
@[simp] theorem withResetHeld_access (v : Bool) : (s.withResetHeld v).access = s.access := rfl
@[simp] theorem withResetHeld_loader (v : Bool) : (s.withResetHeld v).loader = s.loader := rfl
@[simp] theorem withResetHeld_withResetHeld (v w : Bool) : (s.withResetHeld v).withResetHeld w = s.withResetHeld w := rfl
@[simp] theorem withResetHeld_self : s.withResetHeld s.resetHeld = s := rfl

/-! ### withBodyTimer -/

@[simp] theorem withBodyTimer_pending (v : Nat) : (s.withBodyTimer v).pending = s.pending := rfl
@[simp] theorem withBodyTimer_freeIndex (v : Nat) : (s.withBodyTimer v).freeIndex = s.freeIndex := rfl
@[simp] theorem withBodyTimer_resetHeld (v : Nat) : (s.withBodyTimer v).resetHeld = s.resetHeld := rfl
@[simp] theorem withBodyTimer_bodyTimer (v : Nat) : (s.withBodyTimer v).bodyTimer = v := rfl
@[simp] theorem withBodyTimer_lifters (v : Nat) : (s.withBodyTimer v).lifters = s.lifters := rfl
@[simp] theorem withBodyTimer_banks (v : Nat) : (s.withBodyTimer v).banks = s.banks := rfl
@[simp] theorem withBodyTimer_body (v : Nat) : (s.withBodyTimer v).body = s.body := rfl
@[simp] theorem withBodyTimer_flow (v : Nat) : (s.withBodyTimer v).flow = s.flow := rfl
@[simp] theorem withBodyTimer_packers (v : Nat) : (s.withBodyTimer v).packers = s.packers := rfl
@[simp] theorem withBodyTimer_compartments (v : Nat) : (s.withBodyTimer v).compartments = s.compartments := rfl
@[simp] theorem withBodyTimer_bodyLimit (v : Nat) : (s.withBodyTimer v).bodyLimit = s.bodyLimit := rfl
@[simp] theorem withBodyTimer_scan (v : Nat) : (s.withBodyTimer v).scan = s.scan := rfl
@[simp] theorem withBodyTimer_weigh (v : Nat) : (s.withBodyTimer v).weigh = s.weigh := rfl
@[simp] theorem withBodyTimer_calib (v : Nat) : (s.withBodyTimer v).calib = s.calib := rfl
@[simp] theorem withBodyTimer_tags (v : Nat) : (s.withBodyTimer v).tags = s.tags := rfl
@[simp] theorem withBodyTimer_journal (v : Nat) : (s.withBodyTimer v).journal = s.journal := rfl
@[simp] theorem withBodyTimer_integrity (v : Nat) : (s.withBodyTimer v).integrity = s.integrity := rfl
@[simp] theorem withBodyTimer_ports (v : Nat) : (s.withBodyTimer v).ports = s.ports := rfl
@[simp] theorem withBodyTimer_access (v : Nat) : (s.withBodyTimer v).access = s.access := rfl
@[simp] theorem withBodyTimer_loader (v : Nat) : (s.withBodyTimer v).loader = s.loader := rfl
@[simp] theorem withBodyTimer_withBodyTimer (v w : Nat) : (s.withBodyTimer v).withBodyTimer w = s.withBodyTimer w := rfl
@[simp] theorem withBodyTimer_self : s.withBodyTimer s.bodyTimer = s := rfl

/-! ### withLifters -/

@[simp] theorem withLifters_pending (v : PerLifter LifterUnit) : (s.withLifters v).pending = s.pending := rfl
@[simp] theorem withLifters_freeIndex (v : PerLifter LifterUnit) : (s.withLifters v).freeIndex = s.freeIndex := rfl
@[simp] theorem withLifters_resetHeld (v : PerLifter LifterUnit) : (s.withLifters v).resetHeld = s.resetHeld := rfl
@[simp] theorem withLifters_bodyTimer (v : PerLifter LifterUnit) : (s.withLifters v).bodyTimer = s.bodyTimer := rfl
@[simp] theorem withLifters_lifters (v : PerLifter LifterUnit) : (s.withLifters v).lifters = v := rfl
@[simp] theorem withLifters_banks (v : PerLifter LifterUnit) : (s.withLifters v).banks = s.banks := rfl
@[simp] theorem withLifters_body (v : PerLifter LifterUnit) : (s.withLifters v).body = s.body := rfl
@[simp] theorem withLifters_flow (v : PerLifter LifterUnit) : (s.withLifters v).flow = s.flow := rfl
@[simp] theorem withLifters_packers (v : PerLifter LifterUnit) : (s.withLifters v).packers = s.packers := rfl
@[simp] theorem withLifters_compartments (v : PerLifter LifterUnit) : (s.withLifters v).compartments = s.compartments := rfl
@[simp] theorem withLifters_bodyLimit (v : PerLifter LifterUnit) : (s.withLifters v).bodyLimit = s.bodyLimit := rfl
@[simp] theorem withLifters_scan (v : PerLifter LifterUnit) : (s.withLifters v).scan = s.scan := rfl
@[simp] theorem withLifters_weigh (v : PerLifter LifterUnit) : (s.withLifters v).weigh = s.weigh := rfl
@[simp] theorem withLifters_calib (v : PerLifter LifterUnit) : (s.withLifters v).calib = s.calib := rfl
@[simp] theorem withLifters_tags (v : PerLifter LifterUnit) : (s.withLifters v).tags = s.tags := rfl
@[simp] theorem withLifters_journal (v : PerLifter LifterUnit) : (s.withLifters v).journal = s.journal := rfl
@[simp] theorem withLifters_integrity (v : PerLifter LifterUnit) : (s.withLifters v).integrity = s.integrity := rfl
@[simp] theorem withLifters_ports (v : PerLifter LifterUnit) : (s.withLifters v).ports = s.ports := rfl
@[simp] theorem withLifters_access (v : PerLifter LifterUnit) : (s.withLifters v).access = s.access := rfl
@[simp] theorem withLifters_loader (v : PerLifter LifterUnit) : (s.withLifters v).loader = s.loader := rfl
@[simp] theorem withLifters_withLifters (v w : PerLifter LifterUnit) : (s.withLifters v).withLifters w = s.withLifters w := rfl
@[simp] theorem withLifters_self : s.withLifters s.lifters = s := rfl

/-! ### withBanks -/

@[simp] theorem withBanks_pending (v : PerProfile Bank) : (s.withBanks v).pending = s.pending := rfl
@[simp] theorem withBanks_freeIndex (v : PerProfile Bank) : (s.withBanks v).freeIndex = s.freeIndex := rfl
@[simp] theorem withBanks_resetHeld (v : PerProfile Bank) : (s.withBanks v).resetHeld = s.resetHeld := rfl
@[simp] theorem withBanks_bodyTimer (v : PerProfile Bank) : (s.withBanks v).bodyTimer = s.bodyTimer := rfl
@[simp] theorem withBanks_lifters (v : PerProfile Bank) : (s.withBanks v).lifters = s.lifters := rfl
@[simp] theorem withBanks_banks (v : PerProfile Bank) : (s.withBanks v).banks = v := rfl
@[simp] theorem withBanks_body (v : PerProfile Bank) : (s.withBanks v).body = s.body := rfl
@[simp] theorem withBanks_flow (v : PerProfile Bank) : (s.withBanks v).flow = s.flow := rfl
@[simp] theorem withBanks_packers (v : PerProfile Bank) : (s.withBanks v).packers = s.packers := rfl
@[simp] theorem withBanks_compartments (v : PerProfile Bank) : (s.withBanks v).compartments = s.compartments := rfl
@[simp] theorem withBanks_bodyLimit (v : PerProfile Bank) : (s.withBanks v).bodyLimit = s.bodyLimit := rfl
@[simp] theorem withBanks_scan (v : PerProfile Bank) : (s.withBanks v).scan = s.scan := rfl
@[simp] theorem withBanks_weigh (v : PerProfile Bank) : (s.withBanks v).weigh = s.weigh := rfl
@[simp] theorem withBanks_calib (v : PerProfile Bank) : (s.withBanks v).calib = s.calib := rfl
@[simp] theorem withBanks_tags (v : PerProfile Bank) : (s.withBanks v).tags = s.tags := rfl
@[simp] theorem withBanks_journal (v : PerProfile Bank) : (s.withBanks v).journal = s.journal := rfl
@[simp] theorem withBanks_integrity (v : PerProfile Bank) : (s.withBanks v).integrity = s.integrity := rfl
@[simp] theorem withBanks_ports (v : PerProfile Bank) : (s.withBanks v).ports = s.ports := rfl
@[simp] theorem withBanks_access (v : PerProfile Bank) : (s.withBanks v).access = s.access := rfl
@[simp] theorem withBanks_loader (v : PerProfile Bank) : (s.withBanks v).loader = s.loader := rfl
@[simp] theorem withBanks_withBanks (v w : PerProfile Bank) : (s.withBanks v).withBanks w = s.withBanks w := rfl
@[simp] theorem withBanks_self : s.withBanks s.banks = s := rfl

/-! ### withBody -/

@[simp] theorem withBody_pending (v : Body) : (s.withBody v).pending = s.pending := rfl
@[simp] theorem withBody_freeIndex (v : Body) : (s.withBody v).freeIndex = s.freeIndex := rfl
@[simp] theorem withBody_resetHeld (v : Body) : (s.withBody v).resetHeld = s.resetHeld := rfl
@[simp] theorem withBody_bodyTimer (v : Body) : (s.withBody v).bodyTimer = s.bodyTimer := rfl
@[simp] theorem withBody_lifters (v : Body) : (s.withBody v).lifters = s.lifters := rfl
@[simp] theorem withBody_banks (v : Body) : (s.withBody v).banks = s.banks := rfl
@[simp] theorem withBody_body (v : Body) : (s.withBody v).body = v := rfl
@[simp] theorem withBody_flow (v : Body) : (s.withBody v).flow = s.flow := rfl
@[simp] theorem withBody_packers (v : Body) : (s.withBody v).packers = s.packers := rfl
@[simp] theorem withBody_compartments (v : Body) : (s.withBody v).compartments = s.compartments := rfl
@[simp] theorem withBody_bodyLimit (v : Body) : (s.withBody v).bodyLimit = s.bodyLimit := rfl
@[simp] theorem withBody_scan (v : Body) : (s.withBody v).scan = s.scan := rfl
@[simp] theorem withBody_weigh (v : Body) : (s.withBody v).weigh = s.weigh := rfl
@[simp] theorem withBody_calib (v : Body) : (s.withBody v).calib = s.calib := rfl
@[simp] theorem withBody_tags (v : Body) : (s.withBody v).tags = s.tags := rfl
@[simp] theorem withBody_journal (v : Body) : (s.withBody v).journal = s.journal := rfl
@[simp] theorem withBody_integrity (v : Body) : (s.withBody v).integrity = s.integrity := rfl
@[simp] theorem withBody_ports (v : Body) : (s.withBody v).ports = s.ports := rfl
@[simp] theorem withBody_access (v : Body) : (s.withBody v).access = s.access := rfl
@[simp] theorem withBody_loader (v : Body) : (s.withBody v).loader = s.loader := rfl
@[simp] theorem withBody_withBody (v w : Body) : (s.withBody v).withBody w = s.withBody w := rfl
@[simp] theorem withBody_self : s.withBody s.body = s := rfl

/-! ### withFlow -/

@[simp] theorem withFlow_pending (v : Flow) : (s.withFlow v).pending = s.pending := rfl
@[simp] theorem withFlow_freeIndex (v : Flow) : (s.withFlow v).freeIndex = s.freeIndex := rfl
@[simp] theorem withFlow_resetHeld (v : Flow) : (s.withFlow v).resetHeld = s.resetHeld := rfl
@[simp] theorem withFlow_bodyTimer (v : Flow) : (s.withFlow v).bodyTimer = s.bodyTimer := rfl
@[simp] theorem withFlow_lifters (v : Flow) : (s.withFlow v).lifters = s.lifters := rfl
@[simp] theorem withFlow_banks (v : Flow) : (s.withFlow v).banks = s.banks := rfl
@[simp] theorem withFlow_body (v : Flow) : (s.withFlow v).body = s.body := rfl
@[simp] theorem withFlow_flow (v : Flow) : (s.withFlow v).flow = v := rfl
@[simp] theorem withFlow_packers (v : Flow) : (s.withFlow v).packers = s.packers := rfl
@[simp] theorem withFlow_compartments (v : Flow) : (s.withFlow v).compartments = s.compartments := rfl
@[simp] theorem withFlow_bodyLimit (v : Flow) : (s.withFlow v).bodyLimit = s.bodyLimit := rfl
@[simp] theorem withFlow_scan (v : Flow) : (s.withFlow v).scan = s.scan := rfl
@[simp] theorem withFlow_weigh (v : Flow) : (s.withFlow v).weigh = s.weigh := rfl
@[simp] theorem withFlow_calib (v : Flow) : (s.withFlow v).calib = s.calib := rfl
@[simp] theorem withFlow_tags (v : Flow) : (s.withFlow v).tags = s.tags := rfl
@[simp] theorem withFlow_journal (v : Flow) : (s.withFlow v).journal = s.journal := rfl
@[simp] theorem withFlow_integrity (v : Flow) : (s.withFlow v).integrity = s.integrity := rfl
@[simp] theorem withFlow_ports (v : Flow) : (s.withFlow v).ports = s.ports := rfl
@[simp] theorem withFlow_access (v : Flow) : (s.withFlow v).access = s.access := rfl
@[simp] theorem withFlow_loader (v : Flow) : (s.withFlow v).loader = s.loader := rfl
@[simp] theorem withFlow_withFlow (v w : Flow) : (s.withFlow v).withFlow w = s.withFlow w := rfl
@[simp] theorem withFlow_self : s.withFlow s.flow = s := rfl

/-! ### withPackers -/

@[simp] theorem withPackers_pending (v : PerStream Packer) : (s.withPackers v).pending = s.pending := rfl
@[simp] theorem withPackers_freeIndex (v : PerStream Packer) : (s.withPackers v).freeIndex = s.freeIndex := rfl
@[simp] theorem withPackers_resetHeld (v : PerStream Packer) : (s.withPackers v).resetHeld = s.resetHeld := rfl
@[simp] theorem withPackers_bodyTimer (v : PerStream Packer) : (s.withPackers v).bodyTimer = s.bodyTimer := rfl
@[simp] theorem withPackers_lifters (v : PerStream Packer) : (s.withPackers v).lifters = s.lifters := rfl
@[simp] theorem withPackers_banks (v : PerStream Packer) : (s.withPackers v).banks = s.banks := rfl
@[simp] theorem withPackers_body (v : PerStream Packer) : (s.withPackers v).body = s.body := rfl
@[simp] theorem withPackers_flow (v : PerStream Packer) : (s.withPackers v).flow = s.flow := rfl
@[simp] theorem withPackers_packers (v : PerStream Packer) : (s.withPackers v).packers = v := rfl
@[simp] theorem withPackers_compartments (v : PerStream Packer) : (s.withPackers v).compartments = s.compartments := rfl
@[simp] theorem withPackers_bodyLimit (v : PerStream Packer) : (s.withPackers v).bodyLimit = s.bodyLimit := rfl
@[simp] theorem withPackers_scan (v : PerStream Packer) : (s.withPackers v).scan = s.scan := rfl
@[simp] theorem withPackers_weigh (v : PerStream Packer) : (s.withPackers v).weigh = s.weigh := rfl
@[simp] theorem withPackers_calib (v : PerStream Packer) : (s.withPackers v).calib = s.calib := rfl
@[simp] theorem withPackers_tags (v : PerStream Packer) : (s.withPackers v).tags = s.tags := rfl
@[simp] theorem withPackers_journal (v : PerStream Packer) : (s.withPackers v).journal = s.journal := rfl
@[simp] theorem withPackers_integrity (v : PerStream Packer) : (s.withPackers v).integrity = s.integrity := rfl
@[simp] theorem withPackers_ports (v : PerStream Packer) : (s.withPackers v).ports = s.ports := rfl
@[simp] theorem withPackers_access (v : PerStream Packer) : (s.withPackers v).access = s.access := rfl
@[simp] theorem withPackers_loader (v : PerStream Packer) : (s.withPackers v).loader = s.loader := rfl
@[simp] theorem withPackers_withPackers (v w : PerStream Packer) : (s.withPackers v).withPackers w = s.withPackers w := rfl
@[simp] theorem withPackers_self : s.withPackers s.packers = s := rfl

/-! ### withCompartments -/

@[simp] theorem withCompartments_pending (v : PerStream Compartment) : (s.withCompartments v).pending = s.pending := rfl
@[simp] theorem withCompartments_freeIndex (v : PerStream Compartment) : (s.withCompartments v).freeIndex = s.freeIndex := rfl
@[simp] theorem withCompartments_resetHeld (v : PerStream Compartment) : (s.withCompartments v).resetHeld = s.resetHeld := rfl
@[simp] theorem withCompartments_bodyTimer (v : PerStream Compartment) : (s.withCompartments v).bodyTimer = s.bodyTimer := rfl
@[simp] theorem withCompartments_lifters (v : PerStream Compartment) : (s.withCompartments v).lifters = s.lifters := rfl
@[simp] theorem withCompartments_banks (v : PerStream Compartment) : (s.withCompartments v).banks = s.banks := rfl
@[simp] theorem withCompartments_body (v : PerStream Compartment) : (s.withCompartments v).body = s.body := rfl
@[simp] theorem withCompartments_flow (v : PerStream Compartment) : (s.withCompartments v).flow = s.flow := rfl
@[simp] theorem withCompartments_packers (v : PerStream Compartment) : (s.withCompartments v).packers = s.packers := rfl
@[simp] theorem withCompartments_compartments (v : PerStream Compartment) : (s.withCompartments v).compartments = v := rfl
@[simp] theorem withCompartments_bodyLimit (v : PerStream Compartment) : (s.withCompartments v).bodyLimit = s.bodyLimit := rfl
@[simp] theorem withCompartments_scan (v : PerStream Compartment) : (s.withCompartments v).scan = s.scan := rfl
@[simp] theorem withCompartments_weigh (v : PerStream Compartment) : (s.withCompartments v).weigh = s.weigh := rfl
@[simp] theorem withCompartments_calib (v : PerStream Compartment) : (s.withCompartments v).calib = s.calib := rfl
@[simp] theorem withCompartments_tags (v : PerStream Compartment) : (s.withCompartments v).tags = s.tags := rfl
@[simp] theorem withCompartments_journal (v : PerStream Compartment) : (s.withCompartments v).journal = s.journal := rfl
@[simp] theorem withCompartments_integrity (v : PerStream Compartment) : (s.withCompartments v).integrity = s.integrity := rfl
@[simp] theorem withCompartments_ports (v : PerStream Compartment) : (s.withCompartments v).ports = s.ports := rfl
@[simp] theorem withCompartments_access (v : PerStream Compartment) : (s.withCompartments v).access = s.access := rfl
@[simp] theorem withCompartments_loader (v : PerStream Compartment) : (s.withCompartments v).loader = s.loader := rfl
@[simp] theorem withCompartments_withCompartments (v w : PerStream Compartment) : (s.withCompartments v).withCompartments w = s.withCompartments w := rfl
@[simp] theorem withCompartments_self : s.withCompartments s.compartments = s := rfl

/-! ### withBodyLimit -/

@[simp] theorem withBodyLimit_pending (v : Nat) : (s.withBodyLimit v).pending = s.pending := rfl
@[simp] theorem withBodyLimit_freeIndex (v : Nat) : (s.withBodyLimit v).freeIndex = s.freeIndex := rfl
@[simp] theorem withBodyLimit_resetHeld (v : Nat) : (s.withBodyLimit v).resetHeld = s.resetHeld := rfl
@[simp] theorem withBodyLimit_bodyTimer (v : Nat) : (s.withBodyLimit v).bodyTimer = s.bodyTimer := rfl
@[simp] theorem withBodyLimit_lifters (v : Nat) : (s.withBodyLimit v).lifters = s.lifters := rfl
@[simp] theorem withBodyLimit_banks (v : Nat) : (s.withBodyLimit v).banks = s.banks := rfl
@[simp] theorem withBodyLimit_body (v : Nat) : (s.withBodyLimit v).body = s.body := rfl
@[simp] theorem withBodyLimit_flow (v : Nat) : (s.withBodyLimit v).flow = s.flow := rfl
@[simp] theorem withBodyLimit_packers (v : Nat) : (s.withBodyLimit v).packers = s.packers := rfl
@[simp] theorem withBodyLimit_compartments (v : Nat) : (s.withBodyLimit v).compartments = s.compartments := rfl
@[simp] theorem withBodyLimit_bodyLimit (v : Nat) : (s.withBodyLimit v).bodyLimit = v := rfl
@[simp] theorem withBodyLimit_scan (v : Nat) : (s.withBodyLimit v).scan = s.scan := rfl
@[simp] theorem withBodyLimit_weigh (v : Nat) : (s.withBodyLimit v).weigh = s.weigh := rfl
@[simp] theorem withBodyLimit_calib (v : Nat) : (s.withBodyLimit v).calib = s.calib := rfl
@[simp] theorem withBodyLimit_tags (v : Nat) : (s.withBodyLimit v).tags = s.tags := rfl
@[simp] theorem withBodyLimit_journal (v : Nat) : (s.withBodyLimit v).journal = s.journal := rfl
@[simp] theorem withBodyLimit_integrity (v : Nat) : (s.withBodyLimit v).integrity = s.integrity := rfl
@[simp] theorem withBodyLimit_ports (v : Nat) : (s.withBodyLimit v).ports = s.ports := rfl
@[simp] theorem withBodyLimit_access (v : Nat) : (s.withBodyLimit v).access = s.access := rfl
@[simp] theorem withBodyLimit_loader (v : Nat) : (s.withBodyLimit v).loader = s.loader := rfl
@[simp] theorem withBodyLimit_withBodyLimit (v w : Nat) : (s.withBodyLimit v).withBodyLimit w = s.withBodyLimit w := rfl
@[simp] theorem withBodyLimit_self : s.withBodyLimit s.bodyLimit = s := rfl

/-! ### withScan -/

@[simp] theorem withScan_pending (v : Scan) : (s.withScan v).pending = s.pending := rfl
@[simp] theorem withScan_freeIndex (v : Scan) : (s.withScan v).freeIndex = s.freeIndex := rfl
@[simp] theorem withScan_resetHeld (v : Scan) : (s.withScan v).resetHeld = s.resetHeld := rfl
@[simp] theorem withScan_bodyTimer (v : Scan) : (s.withScan v).bodyTimer = s.bodyTimer := rfl
@[simp] theorem withScan_lifters (v : Scan) : (s.withScan v).lifters = s.lifters := rfl
@[simp] theorem withScan_banks (v : Scan) : (s.withScan v).banks = s.banks := rfl
@[simp] theorem withScan_body (v : Scan) : (s.withScan v).body = s.body := rfl
@[simp] theorem withScan_flow (v : Scan) : (s.withScan v).flow = s.flow := rfl
@[simp] theorem withScan_packers (v : Scan) : (s.withScan v).packers = s.packers := rfl
@[simp] theorem withScan_compartments (v : Scan) : (s.withScan v).compartments = s.compartments := rfl
@[simp] theorem withScan_bodyLimit (v : Scan) : (s.withScan v).bodyLimit = s.bodyLimit := rfl
@[simp] theorem withScan_scan (v : Scan) : (s.withScan v).scan = v := rfl
@[simp] theorem withScan_weigh (v : Scan) : (s.withScan v).weigh = s.weigh := rfl
@[simp] theorem withScan_calib (v : Scan) : (s.withScan v).calib = s.calib := rfl
@[simp] theorem withScan_tags (v : Scan) : (s.withScan v).tags = s.tags := rfl
@[simp] theorem withScan_journal (v : Scan) : (s.withScan v).journal = s.journal := rfl
@[simp] theorem withScan_integrity (v : Scan) : (s.withScan v).integrity = s.integrity := rfl
@[simp] theorem withScan_ports (v : Scan) : (s.withScan v).ports = s.ports := rfl
@[simp] theorem withScan_access (v : Scan) : (s.withScan v).access = s.access := rfl
@[simp] theorem withScan_loader (v : Scan) : (s.withScan v).loader = s.loader := rfl
@[simp] theorem withScan_withScan (v w : Scan) : (s.withScan v).withScan w = s.withScan w := rfl
@[simp] theorem withScan_self : s.withScan s.scan = s := rfl

/-! ### withWeigh -/

@[simp] theorem withWeigh_pending (v : Weigh) : (s.withWeigh v).pending = s.pending := rfl
@[simp] theorem withWeigh_freeIndex (v : Weigh) : (s.withWeigh v).freeIndex = s.freeIndex := rfl
@[simp] theorem withWeigh_resetHeld (v : Weigh) : (s.withWeigh v).resetHeld = s.resetHeld := rfl
@[simp] theorem withWeigh_bodyTimer (v : Weigh) : (s.withWeigh v).bodyTimer = s.bodyTimer := rfl
@[simp] theorem withWeigh_lifters (v : Weigh) : (s.withWeigh v).lifters = s.lifters := rfl
@[simp] theorem withWeigh_banks (v : Weigh) : (s.withWeigh v).banks = s.banks := rfl
@[simp] theorem withWeigh_body (v : Weigh) : (s.withWeigh v).body = s.body := rfl
@[simp] theorem withWeigh_flow (v : Weigh) : (s.withWeigh v).flow = s.flow := rfl
@[simp] theorem withWeigh_packers (v : Weigh) : (s.withWeigh v).packers = s.packers := rfl
@[simp] theorem withWeigh_compartments (v : Weigh) : (s.withWeigh v).compartments = s.compartments := rfl
@[simp] theorem withWeigh_bodyLimit (v : Weigh) : (s.withWeigh v).bodyLimit = s.bodyLimit := rfl
@[simp] theorem withWeigh_scan (v : Weigh) : (s.withWeigh v).scan = s.scan := rfl
@[simp] theorem withWeigh_weigh (v : Weigh) : (s.withWeigh v).weigh = v := rfl
@[simp] theorem withWeigh_calib (v : Weigh) : (s.withWeigh v).calib = s.calib := rfl
@[simp] theorem withWeigh_tags (v : Weigh) : (s.withWeigh v).tags = s.tags := rfl
@[simp] theorem withWeigh_journal (v : Weigh) : (s.withWeigh v).journal = s.journal := rfl
@[simp] theorem withWeigh_integrity (v : Weigh) : (s.withWeigh v).integrity = s.integrity := rfl
@[simp] theorem withWeigh_ports (v : Weigh) : (s.withWeigh v).ports = s.ports := rfl
@[simp] theorem withWeigh_access (v : Weigh) : (s.withWeigh v).access = s.access := rfl
@[simp] theorem withWeigh_loader (v : Weigh) : (s.withWeigh v).loader = s.loader := rfl
@[simp] theorem withWeigh_withWeigh (v w : Weigh) : (s.withWeigh v).withWeigh w = s.withWeigh w := rfl
@[simp] theorem withWeigh_self : s.withWeigh s.weigh = s := rfl

/-! ### withCalib -/

@[simp] theorem withCalib_pending (v : CalStore) : (s.withCalib v).pending = s.pending := rfl
@[simp] theorem withCalib_freeIndex (v : CalStore) : (s.withCalib v).freeIndex = s.freeIndex := rfl
@[simp] theorem withCalib_resetHeld (v : CalStore) : (s.withCalib v).resetHeld = s.resetHeld := rfl
@[simp] theorem withCalib_bodyTimer (v : CalStore) : (s.withCalib v).bodyTimer = s.bodyTimer := rfl
@[simp] theorem withCalib_lifters (v : CalStore) : (s.withCalib v).lifters = s.lifters := rfl
@[simp] theorem withCalib_banks (v : CalStore) : (s.withCalib v).banks = s.banks := rfl
@[simp] theorem withCalib_body (v : CalStore) : (s.withCalib v).body = s.body := rfl
@[simp] theorem withCalib_flow (v : CalStore) : (s.withCalib v).flow = s.flow := rfl
@[simp] theorem withCalib_packers (v : CalStore) : (s.withCalib v).packers = s.packers := rfl
@[simp] theorem withCalib_compartments (v : CalStore) : (s.withCalib v).compartments = s.compartments := rfl
@[simp] theorem withCalib_bodyLimit (v : CalStore) : (s.withCalib v).bodyLimit = s.bodyLimit := rfl
@[simp] theorem withCalib_scan (v : CalStore) : (s.withCalib v).scan = s.scan := rfl
@[simp] theorem withCalib_weigh (v : CalStore) : (s.withCalib v).weigh = s.weigh := rfl
@[simp] theorem withCalib_calib (v : CalStore) : (s.withCalib v).calib = v := rfl
@[simp] theorem withCalib_tags (v : CalStore) : (s.withCalib v).tags = s.tags := rfl
@[simp] theorem withCalib_journal (v : CalStore) : (s.withCalib v).journal = s.journal := rfl
@[simp] theorem withCalib_integrity (v : CalStore) : (s.withCalib v).integrity = s.integrity := rfl
@[simp] theorem withCalib_ports (v : CalStore) : (s.withCalib v).ports = s.ports := rfl
@[simp] theorem withCalib_access (v : CalStore) : (s.withCalib v).access = s.access := rfl
@[simp] theorem withCalib_loader (v : CalStore) : (s.withCalib v).loader = s.loader := rfl
@[simp] theorem withCalib_withCalib (v w : CalStore) : (s.withCalib v).withCalib w = s.withCalib w := rfl
@[simp] theorem withCalib_self : s.withCalib s.calib = s := rfl

/-! ### withTags -/

@[simp] theorem withTags_pending (v : TagUnit) : (s.withTags v).pending = s.pending := rfl
@[simp] theorem withTags_freeIndex (v : TagUnit) : (s.withTags v).freeIndex = s.freeIndex := rfl
@[simp] theorem withTags_resetHeld (v : TagUnit) : (s.withTags v).resetHeld = s.resetHeld := rfl
@[simp] theorem withTags_bodyTimer (v : TagUnit) : (s.withTags v).bodyTimer = s.bodyTimer := rfl
@[simp] theorem withTags_lifters (v : TagUnit) : (s.withTags v).lifters = s.lifters := rfl
@[simp] theorem withTags_banks (v : TagUnit) : (s.withTags v).banks = s.banks := rfl
@[simp] theorem withTags_body (v : TagUnit) : (s.withTags v).body = s.body := rfl
@[simp] theorem withTags_flow (v : TagUnit) : (s.withTags v).flow = s.flow := rfl
@[simp] theorem withTags_packers (v : TagUnit) : (s.withTags v).packers = s.packers := rfl
@[simp] theorem withTags_compartments (v : TagUnit) : (s.withTags v).compartments = s.compartments := rfl
@[simp] theorem withTags_bodyLimit (v : TagUnit) : (s.withTags v).bodyLimit = s.bodyLimit := rfl
@[simp] theorem withTags_scan (v : TagUnit) : (s.withTags v).scan = s.scan := rfl
@[simp] theorem withTags_weigh (v : TagUnit) : (s.withTags v).weigh = s.weigh := rfl
@[simp] theorem withTags_calib (v : TagUnit) : (s.withTags v).calib = s.calib := rfl
@[simp] theorem withTags_tags (v : TagUnit) : (s.withTags v).tags = v := rfl
@[simp] theorem withTags_journal (v : TagUnit) : (s.withTags v).journal = s.journal := rfl
@[simp] theorem withTags_integrity (v : TagUnit) : (s.withTags v).integrity = s.integrity := rfl
@[simp] theorem withTags_ports (v : TagUnit) : (s.withTags v).ports = s.ports := rfl
@[simp] theorem withTags_access (v : TagUnit) : (s.withTags v).access = s.access := rfl
@[simp] theorem withTags_loader (v : TagUnit) : (s.withTags v).loader = s.loader := rfl
@[simp] theorem withTags_withTags (v w : TagUnit) : (s.withTags v).withTags w = s.withTags w := rfl
@[simp] theorem withTags_self : s.withTags s.tags = s := rfl

/-! ### withJournal -/

@[simp] theorem withJournal_pending (v : Journal) : (s.withJournal v).pending = s.pending := rfl
@[simp] theorem withJournal_freeIndex (v : Journal) : (s.withJournal v).freeIndex = s.freeIndex := rfl
@[simp] theorem withJournal_resetHeld (v : Journal) : (s.withJournal v).resetHeld = s.resetHeld := rfl
@[simp] theorem withJournal_bodyTimer (v : Journal) : (s.withJournal v).bodyTimer = s.bodyTimer := rfl
@[simp] theorem withJournal_lifters (v : Journal) : (s.withJournal v).lifters = s.lifters := rfl
@[simp] theorem withJournal_banks (v : Journal) : (s.withJournal v).banks = s.banks := rfl
@[simp] theorem withJournal_body (v : Journal) : (s.withJournal v).body = s.body := rfl
@[simp] theorem withJournal_flow (v : Journal) : (s.withJournal v).flow = s.flow := rfl
@[simp] theorem withJournal_packers (v : Journal) : (s.withJournal v).packers = s.packers := rfl
@[simp] theorem withJournal_compartments (v : Journal) : (s.withJournal v).compartments = s.compartments := rfl
@[simp] theorem withJournal_bodyLimit (v : Journal) : (s.withJournal v).bodyLimit = s.bodyLimit := rfl
@[simp] theorem withJournal_scan (v : Journal) : (s.withJournal v).scan = s.scan := rfl
@[simp] theorem withJournal_weigh (v : Journal) : (s.withJournal v).weigh = s.weigh := rfl
@[simp] theorem withJournal_calib (v : Journal) : (s.withJournal v).calib = s.calib := rfl
@[simp] theorem withJournal_tags (v : Journal) : (s.withJournal v).tags = s.tags := rfl
@[simp] theorem withJournal_journal (v : Journal) : (s.withJournal v).journal = v := rfl
@[simp] theorem withJournal_integrity (v : Journal) : (s.withJournal v).integrity = s.integrity := rfl
@[simp] theorem withJournal_ports (v : Journal) : (s.withJournal v).ports = s.ports := rfl
@[simp] theorem withJournal_access (v : Journal) : (s.withJournal v).access = s.access := rfl
@[simp] theorem withJournal_loader (v : Journal) : (s.withJournal v).loader = s.loader := rfl
@[simp] theorem withJournal_withJournal (v w : Journal) : (s.withJournal v).withJournal w = s.withJournal w := rfl
@[simp] theorem withJournal_self : s.withJournal s.journal = s := rfl

/-! ### withIntegrity -/

@[simp] theorem withIntegrity_pending (v : Integrity) : (s.withIntegrity v).pending = s.pending := rfl
@[simp] theorem withIntegrity_freeIndex (v : Integrity) : (s.withIntegrity v).freeIndex = s.freeIndex := rfl
@[simp] theorem withIntegrity_resetHeld (v : Integrity) : (s.withIntegrity v).resetHeld = s.resetHeld := rfl
@[simp] theorem withIntegrity_bodyTimer (v : Integrity) : (s.withIntegrity v).bodyTimer = s.bodyTimer := rfl
@[simp] theorem withIntegrity_lifters (v : Integrity) : (s.withIntegrity v).lifters = s.lifters := rfl
@[simp] theorem withIntegrity_banks (v : Integrity) : (s.withIntegrity v).banks = s.banks := rfl
@[simp] theorem withIntegrity_body (v : Integrity) : (s.withIntegrity v).body = s.body := rfl
@[simp] theorem withIntegrity_flow (v : Integrity) : (s.withIntegrity v).flow = s.flow := rfl
@[simp] theorem withIntegrity_packers (v : Integrity) : (s.withIntegrity v).packers = s.packers := rfl
@[simp] theorem withIntegrity_compartments (v : Integrity) : (s.withIntegrity v).compartments = s.compartments := rfl
@[simp] theorem withIntegrity_bodyLimit (v : Integrity) : (s.withIntegrity v).bodyLimit = s.bodyLimit := rfl
@[simp] theorem withIntegrity_scan (v : Integrity) : (s.withIntegrity v).scan = s.scan := rfl
@[simp] theorem withIntegrity_weigh (v : Integrity) : (s.withIntegrity v).weigh = s.weigh := rfl
@[simp] theorem withIntegrity_calib (v : Integrity) : (s.withIntegrity v).calib = s.calib := rfl
@[simp] theorem withIntegrity_tags (v : Integrity) : (s.withIntegrity v).tags = s.tags := rfl
@[simp] theorem withIntegrity_journal (v : Integrity) : (s.withIntegrity v).journal = s.journal := rfl
@[simp] theorem withIntegrity_integrity (v : Integrity) : (s.withIntegrity v).integrity = v := rfl
@[simp] theorem withIntegrity_ports (v : Integrity) : (s.withIntegrity v).ports = s.ports := rfl
@[simp] theorem withIntegrity_access (v : Integrity) : (s.withIntegrity v).access = s.access := rfl
@[simp] theorem withIntegrity_loader (v : Integrity) : (s.withIntegrity v).loader = s.loader := rfl
@[simp] theorem withIntegrity_withIntegrity (v w : Integrity) : (s.withIntegrity v).withIntegrity w = s.withIntegrity w := rfl
@[simp] theorem withIntegrity_self : s.withIntegrity s.integrity = s := rfl

/-! ### withPorts -/

@[simp] theorem withPorts_pending (v : PerPort PortState) : (s.withPorts v).pending = s.pending := rfl
@[simp] theorem withPorts_freeIndex (v : PerPort PortState) : (s.withPorts v).freeIndex = s.freeIndex := rfl
@[simp] theorem withPorts_resetHeld (v : PerPort PortState) : (s.withPorts v).resetHeld = s.resetHeld := rfl
@[simp] theorem withPorts_bodyTimer (v : PerPort PortState) : (s.withPorts v).bodyTimer = s.bodyTimer := rfl
@[simp] theorem withPorts_lifters (v : PerPort PortState) : (s.withPorts v).lifters = s.lifters := rfl
@[simp] theorem withPorts_banks (v : PerPort PortState) : (s.withPorts v).banks = s.banks := rfl
@[simp] theorem withPorts_body (v : PerPort PortState) : (s.withPorts v).body = s.body := rfl
@[simp] theorem withPorts_flow (v : PerPort PortState) : (s.withPorts v).flow = s.flow := rfl
@[simp] theorem withPorts_packers (v : PerPort PortState) : (s.withPorts v).packers = s.packers := rfl
@[simp] theorem withPorts_compartments (v : PerPort PortState) : (s.withPorts v).compartments = s.compartments := rfl
@[simp] theorem withPorts_bodyLimit (v : PerPort PortState) : (s.withPorts v).bodyLimit = s.bodyLimit := rfl
@[simp] theorem withPorts_scan (v : PerPort PortState) : (s.withPorts v).scan = s.scan := rfl
@[simp] theorem withPorts_weigh (v : PerPort PortState) : (s.withPorts v).weigh = s.weigh := rfl
@[simp] theorem withPorts_calib (v : PerPort PortState) : (s.withPorts v).calib = s.calib := rfl
@[simp] theorem withPorts_tags (v : PerPort PortState) : (s.withPorts v).tags = s.tags := rfl
@[simp] theorem withPorts_journal (v : PerPort PortState) : (s.withPorts v).journal = s.journal := rfl
@[simp] theorem withPorts_integrity (v : PerPort PortState) : (s.withPorts v).integrity = s.integrity := rfl
@[simp] theorem withPorts_ports (v : PerPort PortState) : (s.withPorts v).ports = v := rfl
@[simp] theorem withPorts_access (v : PerPort PortState) : (s.withPorts v).access = s.access := rfl
@[simp] theorem withPorts_loader (v : PerPort PortState) : (s.withPorts v).loader = s.loader := rfl
@[simp] theorem withPorts_withPorts (v w : PerPort PortState) : (s.withPorts v).withPorts w = s.withPorts w := rfl
@[simp] theorem withPorts_self : s.withPorts s.ports = s := rfl

/-! ### withAccess -/

@[simp] theorem withAccess_pending (v : Access) : (s.withAccess v).pending = s.pending := rfl
@[simp] theorem withAccess_freeIndex (v : Access) : (s.withAccess v).freeIndex = s.freeIndex := rfl
@[simp] theorem withAccess_resetHeld (v : Access) : (s.withAccess v).resetHeld = s.resetHeld := rfl
@[simp] theorem withAccess_bodyTimer (v : Access) : (s.withAccess v).bodyTimer = s.bodyTimer := rfl
@[simp] theorem withAccess_lifters (v : Access) : (s.withAccess v).lifters = s.lifters := rfl
@[simp] theorem withAccess_banks (v : Access) : (s.withAccess v).banks = s.banks := rfl
@[simp] theorem withAccess_body (v : Access) : (s.withAccess v).body = s.body := rfl
@[simp] theorem withAccess_flow (v : Access) : (s.withAccess v).flow = s.flow := rfl
@[simp] theorem withAccess_packers (v : Access) : (s.withAccess v).packers = s.packers := rfl
@[simp] theorem withAccess_compartments (v : Access) : (s.withAccess v).compartments = s.compartments := rfl
@[simp] theorem withAccess_bodyLimit (v : Access) : (s.withAccess v).bodyLimit = s.bodyLimit := rfl
@[simp] theorem withAccess_scan (v : Access) : (s.withAccess v).scan = s.scan := rfl
@[simp] theorem withAccess_weigh (v : Access) : (s.withAccess v).weigh = s.weigh := rfl
@[simp] theorem withAccess_calib (v : Access) : (s.withAccess v).calib = s.calib := rfl
@[simp] theorem withAccess_tags (v : Access) : (s.withAccess v).tags = s.tags := rfl
@[simp] theorem withAccess_journal (v : Access) : (s.withAccess v).journal = s.journal := rfl
@[simp] theorem withAccess_integrity (v : Access) : (s.withAccess v).integrity = s.integrity := rfl
@[simp] theorem withAccess_ports (v : Access) : (s.withAccess v).ports = s.ports := rfl
@[simp] theorem withAccess_access (v : Access) : (s.withAccess v).access = v := rfl
@[simp] theorem withAccess_loader (v : Access) : (s.withAccess v).loader = s.loader := rfl
@[simp] theorem withAccess_withAccess (v w : Access) : (s.withAccess v).withAccess w = s.withAccess w := rfl
@[simp] theorem withAccess_self : s.withAccess s.access = s := rfl

/-! ### withLoader -/

@[simp] theorem withLoader_pending (v : Loader) : (s.withLoader v).pending = s.pending := rfl
@[simp] theorem withLoader_freeIndex (v : Loader) : (s.withLoader v).freeIndex = s.freeIndex := rfl
@[simp] theorem withLoader_resetHeld (v : Loader) : (s.withLoader v).resetHeld = s.resetHeld := rfl
@[simp] theorem withLoader_bodyTimer (v : Loader) : (s.withLoader v).bodyTimer = s.bodyTimer := rfl
@[simp] theorem withLoader_lifters (v : Loader) : (s.withLoader v).lifters = s.lifters := rfl
@[simp] theorem withLoader_banks (v : Loader) : (s.withLoader v).banks = s.banks := rfl
@[simp] theorem withLoader_body (v : Loader) : (s.withLoader v).body = s.body := rfl
@[simp] theorem withLoader_flow (v : Loader) : (s.withLoader v).flow = s.flow := rfl
@[simp] theorem withLoader_packers (v : Loader) : (s.withLoader v).packers = s.packers := rfl
@[simp] theorem withLoader_compartments (v : Loader) : (s.withLoader v).compartments = s.compartments := rfl
@[simp] theorem withLoader_bodyLimit (v : Loader) : (s.withLoader v).bodyLimit = s.bodyLimit := rfl
@[simp] theorem withLoader_scan (v : Loader) : (s.withLoader v).scan = s.scan := rfl
@[simp] theorem withLoader_weigh (v : Loader) : (s.withLoader v).weigh = s.weigh := rfl
@[simp] theorem withLoader_calib (v : Loader) : (s.withLoader v).calib = s.calib := rfl
@[simp] theorem withLoader_tags (v : Loader) : (s.withLoader v).tags = s.tags := rfl
@[simp] theorem withLoader_journal (v : Loader) : (s.withLoader v).journal = s.journal := rfl
@[simp] theorem withLoader_integrity (v : Loader) : (s.withLoader v).integrity = s.integrity := rfl
@[simp] theorem withLoader_ports (v : Loader) : (s.withLoader v).ports = s.ports := rfl
@[simp] theorem withLoader_access (v : Loader) : (s.withLoader v).access = s.access := rfl
@[simp] theorem withLoader_loader (v : Loader) : (s.withLoader v).loader = v := rfl
@[simp] theorem withLoader_withLoader (v w : Loader) : (s.withLoader v).withLoader w = s.withLoader w := rfl
@[simp] theorem withLoader_self : s.withLoader s.loader = s := rfl

/-! ### PerLifter -/

@[simp] theorem PerLifter.get_set_self {α : Type} (p : PerLifter α) (x : Lifter) (v : α) : (p.set x v).get x = v := by
  cases x <;> rfl

theorem PerLifter.get_set_of_ne {α : Type} (p : PerLifter α) (x y : Lifter) (v : α) (h : y ≠ x) : (p.set x v).get y = p.get y := by
  cases x <;> cases y <;> first | rfl | exact absurd rfl h

@[simp] theorem PerLifter.set_get_self {α : Type} (p : PerLifter α) (x : Lifter) : p.set x (p.get x) = p := by
  cases x <;> rfl

theorem PerLifter.ext_get {α : Type} (p q : PerLifter α) (h : ∀ x, p.get x = q.get x) : p = q := by
  cases p; cases q; simpa [PerLifter.get] using And.intro (h .left) (h .right)

/-! ### PerStream -/

@[simp] theorem PerStream.get_set_self {α : Type} (p : PerStream α) (x : Stream) (v : α) : (p.set x v).get x = v := by
  cases x <;> rfl

theorem PerStream.get_set_of_ne {α : Type} (p : PerStream α) (x y : Stream) (v : α) (h : y ≠ x) : (p.set x v).get y = p.get y := by
  cases x <;> cases y <;> first | rfl | exact absurd rfl h

@[simp] theorem PerStream.set_get_self {α : Type} (p : PerStream α) (x : Stream) : p.set x (p.get x) = p := by
  cases x <;> rfl

theorem PerStream.ext_get {α : Type} (p q : PerStream α) (h : ∀ x, p.get x = q.get x) : p = q := by
  cases p; cases q; simpa [PerStream.get] using And.intro (h .residual) (h .recycle)

/-! ### PerProfile -/

@[simp] theorem PerProfile.get_set_self {α : Type} (p : PerProfile α) (x : Profile) (v : α) : (p.set x v).get x = v := by
  cases x <;> rfl

theorem PerProfile.get_set_of_ne {α : Type} (p : PerProfile α) (x y : Profile) (v : α) (h : y ≠ x) : (p.set x v).get y = p.get y := by
  cases x <;> cases y <;> first | rfl | exact absurd rfl h

@[simp] theorem PerProfile.set_get_self {α : Type} (p : PerProfile α) (x : Profile) : p.set x (p.get x) = p := by
  cases x <;> rfl

theorem PerProfile.ext_get {α : Type} (p q : PerProfile α) (h : ∀ x, p.get x = q.get x) : p = q := by
  cases p; cases q; simpa [PerProfile.get] using And.intro (h .twoWheel) (h .fourWheel)

/-! ### PerPort -/

@[simp] theorem PerPort.get_set_self {α : Type} (p : PerPort α) (x : Port) (v : α) : (p.set x v).get x = v := by
  cases x <;> rfl

theorem PerPort.get_set_of_ne {α : Type} (p : PerPort α) (x y : Port) (v : α) (h : y ≠ x) : (p.set x v).get y = p.get y := by
  cases x <;> cases y <;> first | rfl | exact absurd rfl h

@[simp] theorem PerPort.set_get_self {α : Type} (p : PerPort α) (x : Port) : p.set x (p.get x) = p := by
  cases x <;> rfl

theorem PerPort.ext_get {α : Type} (p q : PerPort α) (h : ∀ x, p.get x = q.get x) : p = q := by
  cases p; cases q; simpa [PerPort.get] using And.intro (h .cab) (And.intro (h .route) (h .chassis))

/-! ### PerConsumer -/

@[simp] theorem PerConsumer.get_set_self {α : Type} (p : PerConsumer α) (x : Consumer) (v : α) : (p.set x v).get x = v := by
  cases x with | lifter l => cases l <;> rfl | packer st => cases st <;> rfl

theorem PerConsumer.get_set_of_ne {α : Type} (p : PerConsumer α) (x y : Consumer) (v : α) (h : y ≠ x) : (p.set x v).get y = p.get y := by
  obtain ⟨⟨⟩⟩ | ⟨⟨⟩⟩ := x <;> obtain ⟨⟨⟩⟩ | ⟨⟨⟩⟩ := y <;> first | rfl | exact absurd rfl h

@[simp] theorem PerConsumer.set_get_self {α : Type} (p : PerConsumer α) (x : Consumer) : p.set x (p.get x) = p := by
  cases x with | lifter l => cases l <;> rfl | packer st => cases st <;> rfl

theorem PerConsumer.ext_get {α : Type} (p q : PerConsumer α) (h : ∀ x, p.get x = q.get x) : p = q := by
  cases p; cases q
  simpa [PerConsumer.get] using And.intro (h (.lifter .left))
    (And.intro (h (.lifter .right)) (And.intro (h (.packer .residual)) (h (.packer .recycle))))

/-! ### Lifters, packers, compartments and ports of a state -/

@[simp] theorem lifter_withLifter_self (l : Lifter) (v : LifterUnit) : (s.withLifter l v).lifter l = v := by
  simp [State.lifter, State.withLifter]

theorem lifter_withLifter_of_ne (l m : Lifter) (v : LifterUnit) (h : m ≠ l) :
    (s.withLifter l v).lifter m = s.lifter m := by
  simp [State.lifter, State.withLifter, PerLifter.get_set_of_ne _ _ _ _ h]

@[simp] theorem packer_withPacker_self (st : Stream) (v : Packer) : (s.withPacker st v).packer st = v := by
  simp [State.packer, State.withPacker]

theorem packer_withPacker_of_ne (st su : Stream) (v : Packer) (h : su ≠ st) :
    (s.withPacker st v).packer su = s.packer su := by
  simp [State.packer, State.withPacker, PerStream.get_set_of_ne _ _ _ _ h]

@[simp] theorem compartment_withCompartment_self (st : Stream) (v : Compartment) :
    (s.withCompartment st v).compartment st = v := by
  simp [State.compartment, State.withCompartment]

theorem compartment_withCompartment_of_ne (st su : Stream) (v : Compartment) (h : su ≠ st) :
    (s.withCompartment st v).compartment su = s.compartment su := by
  simp [State.compartment, State.withCompartment, PerStream.get_set_of_ne _ _ _ _ h]

@[simp] theorem port_withPort_self (p : Port) (v : PortState) : (s.withPort p v).port p = v := by
  simp [State.port, State.withPort]

theorem port_withPort_of_ne (p q : Port) (v : PortState) (h : q ≠ p) : (s.withPort p v).port q = s.port q := by
  simp [State.port, State.withPort, PerPort.get_set_of_ne _ _ _ _ h]

@[simp] theorem context_withContext_self (l : Lifter) (c : Option LiftContext) : (s.withContext l c).context l = c := by
  simp [State.context, State.withContext]

theorem context_withContext_of_ne (l m : Lifter) (c : Option LiftContext) (h : m ≠ l) :
    (s.withContext l c).context m = s.context m := by
  simp [State.context, State.withContext, lifter_withLifter_of_ne _ _ _ _ h]

@[simp] theorem context_withValves (l m : Lifter) (a b : Bool) : (s.withValves l a b).context m = s.context m := by
  by_cases h : m = l
  · subst h; simp [State.context, State.withValves]
  · simp [State.context, State.withValves, lifter_withLifter_of_ne _ _ _ _ h]

@[simp] theorem withLifter_pending (l : Lifter) (v : LifterUnit) : (s.withLifter l v).pending = s.pending := rfl
@[simp] theorem withLifter_freeIndex (l : Lifter) (v : LifterUnit) : (s.withLifter l v).freeIndex = s.freeIndex := rfl
@[simp] theorem withLifter_resetHeld (l : Lifter) (v : LifterUnit) : (s.withLifter l v).resetHeld = s.resetHeld := rfl
@[simp] theorem withLifter_bodyTimer (l : Lifter) (v : LifterUnit) : (s.withLifter l v).bodyTimer = s.bodyTimer := rfl
@[simp] theorem withLifter_banks (l : Lifter) (v : LifterUnit) : (s.withLifter l v).banks = s.banks := rfl
@[simp] theorem withLifter_body (l : Lifter) (v : LifterUnit) : (s.withLifter l v).body = s.body := rfl
@[simp] theorem withLifter_flow (l : Lifter) (v : LifterUnit) : (s.withLifter l v).flow = s.flow := rfl
@[simp] theorem withLifter_packers (l : Lifter) (v : LifterUnit) : (s.withLifter l v).packers = s.packers := rfl
@[simp] theorem withLifter_compartments (l : Lifter) (v : LifterUnit) : (s.withLifter l v).compartments = s.compartments := rfl
@[simp] theorem withLifter_bodyLimit (l : Lifter) (v : LifterUnit) : (s.withLifter l v).bodyLimit = s.bodyLimit := rfl
@[simp] theorem withLifter_scan (l : Lifter) (v : LifterUnit) : (s.withLifter l v).scan = s.scan := rfl
@[simp] theorem withLifter_weigh (l : Lifter) (v : LifterUnit) : (s.withLifter l v).weigh = s.weigh := rfl
@[simp] theorem withLifter_calib (l : Lifter) (v : LifterUnit) : (s.withLifter l v).calib = s.calib := rfl
@[simp] theorem withLifter_tags (l : Lifter) (v : LifterUnit) : (s.withLifter l v).tags = s.tags := rfl
@[simp] theorem withLifter_journal (l : Lifter) (v : LifterUnit) : (s.withLifter l v).journal = s.journal := rfl
@[simp] theorem withLifter_integrity (l : Lifter) (v : LifterUnit) : (s.withLifter l v).integrity = s.integrity := rfl
@[simp] theorem withLifter_ports (l : Lifter) (v : LifterUnit) : (s.withLifter l v).ports = s.ports := rfl
@[simp] theorem withLifter_access (l : Lifter) (v : LifterUnit) : (s.withLifter l v).access = s.access := rfl
@[simp] theorem withLifter_loader (l : Lifter) (v : LifterUnit) : (s.withLifter l v).loader = s.loader := rfl

@[simp] theorem withPacker_pending (l : Stream) (v : Packer) : (s.withPacker l v).pending = s.pending := rfl
@[simp] theorem withPacker_freeIndex (l : Stream) (v : Packer) : (s.withPacker l v).freeIndex = s.freeIndex := rfl
@[simp] theorem withPacker_resetHeld (l : Stream) (v : Packer) : (s.withPacker l v).resetHeld = s.resetHeld := rfl
@[simp] theorem withPacker_bodyTimer (l : Stream) (v : Packer) : (s.withPacker l v).bodyTimer = s.bodyTimer := rfl
@[simp] theorem withPacker_lifters (l : Stream) (v : Packer) : (s.withPacker l v).lifters = s.lifters := rfl
@[simp] theorem withPacker_banks (l : Stream) (v : Packer) : (s.withPacker l v).banks = s.banks := rfl
@[simp] theorem withPacker_body (l : Stream) (v : Packer) : (s.withPacker l v).body = s.body := rfl
@[simp] theorem withPacker_flow (l : Stream) (v : Packer) : (s.withPacker l v).flow = s.flow := rfl
@[simp] theorem withPacker_compartments (l : Stream) (v : Packer) : (s.withPacker l v).compartments = s.compartments := rfl
@[simp] theorem withPacker_bodyLimit (l : Stream) (v : Packer) : (s.withPacker l v).bodyLimit = s.bodyLimit := rfl
@[simp] theorem withPacker_scan (l : Stream) (v : Packer) : (s.withPacker l v).scan = s.scan := rfl
@[simp] theorem withPacker_weigh (l : Stream) (v : Packer) : (s.withPacker l v).weigh = s.weigh := rfl
@[simp] theorem withPacker_calib (l : Stream) (v : Packer) : (s.withPacker l v).calib = s.calib := rfl
@[simp] theorem withPacker_tags (l : Stream) (v : Packer) : (s.withPacker l v).tags = s.tags := rfl
@[simp] theorem withPacker_journal (l : Stream) (v : Packer) : (s.withPacker l v).journal = s.journal := rfl
@[simp] theorem withPacker_integrity (l : Stream) (v : Packer) : (s.withPacker l v).integrity = s.integrity := rfl
@[simp] theorem withPacker_ports (l : Stream) (v : Packer) : (s.withPacker l v).ports = s.ports := rfl
@[simp] theorem withPacker_access (l : Stream) (v : Packer) : (s.withPacker l v).access = s.access := rfl
@[simp] theorem withPacker_loader (l : Stream) (v : Packer) : (s.withPacker l v).loader = s.loader := rfl

@[simp] theorem withCompartment_pending (l : Stream) (v : Compartment) : (s.withCompartment l v).pending = s.pending := rfl
@[simp] theorem withCompartment_freeIndex (l : Stream) (v : Compartment) : (s.withCompartment l v).freeIndex = s.freeIndex := rfl
@[simp] theorem withCompartment_resetHeld (l : Stream) (v : Compartment) : (s.withCompartment l v).resetHeld = s.resetHeld := rfl
@[simp] theorem withCompartment_bodyTimer (l : Stream) (v : Compartment) : (s.withCompartment l v).bodyTimer = s.bodyTimer := rfl
@[simp] theorem withCompartment_lifters (l : Stream) (v : Compartment) : (s.withCompartment l v).lifters = s.lifters := rfl
@[simp] theorem withCompartment_banks (l : Stream) (v : Compartment) : (s.withCompartment l v).banks = s.banks := rfl
@[simp] theorem withCompartment_body (l : Stream) (v : Compartment) : (s.withCompartment l v).body = s.body := rfl
@[simp] theorem withCompartment_flow (l : Stream) (v : Compartment) : (s.withCompartment l v).flow = s.flow := rfl
@[simp] theorem withCompartment_packers (l : Stream) (v : Compartment) : (s.withCompartment l v).packers = s.packers := rfl
@[simp] theorem withCompartment_bodyLimit (l : Stream) (v : Compartment) : (s.withCompartment l v).bodyLimit = s.bodyLimit := rfl
@[simp] theorem withCompartment_scan (l : Stream) (v : Compartment) : (s.withCompartment l v).scan = s.scan := rfl
@[simp] theorem withCompartment_weigh (l : Stream) (v : Compartment) : (s.withCompartment l v).weigh = s.weigh := rfl
@[simp] theorem withCompartment_calib (l : Stream) (v : Compartment) : (s.withCompartment l v).calib = s.calib := rfl
@[simp] theorem withCompartment_tags (l : Stream) (v : Compartment) : (s.withCompartment l v).tags = s.tags := rfl
@[simp] theorem withCompartment_journal (l : Stream) (v : Compartment) : (s.withCompartment l v).journal = s.journal := rfl
@[simp] theorem withCompartment_integrity (l : Stream) (v : Compartment) : (s.withCompartment l v).integrity = s.integrity := rfl
@[simp] theorem withCompartment_ports (l : Stream) (v : Compartment) : (s.withCompartment l v).ports = s.ports := rfl
@[simp] theorem withCompartment_access (l : Stream) (v : Compartment) : (s.withCompartment l v).access = s.access := rfl
@[simp] theorem withCompartment_loader (l : Stream) (v : Compartment) : (s.withCompartment l v).loader = s.loader := rfl

@[simp] theorem withPort_pending (l : Port) (v : PortState) : (s.withPort l v).pending = s.pending := rfl
@[simp] theorem withPort_freeIndex (l : Port) (v : PortState) : (s.withPort l v).freeIndex = s.freeIndex := rfl
@[simp] theorem withPort_resetHeld (l : Port) (v : PortState) : (s.withPort l v).resetHeld = s.resetHeld := rfl
@[simp] theorem withPort_bodyTimer (l : Port) (v : PortState) : (s.withPort l v).bodyTimer = s.bodyTimer := rfl
@[simp] theorem withPort_lifters (l : Port) (v : PortState) : (s.withPort l v).lifters = s.lifters := rfl
@[simp] theorem withPort_banks (l : Port) (v : PortState) : (s.withPort l v).banks = s.banks := rfl
@[simp] theorem withPort_body (l : Port) (v : PortState) : (s.withPort l v).body = s.body := rfl
@[simp] theorem withPort_flow (l : Port) (v : PortState) : (s.withPort l v).flow = s.flow := rfl
@[simp] theorem withPort_packers (l : Port) (v : PortState) : (s.withPort l v).packers = s.packers := rfl
@[simp] theorem withPort_compartments (l : Port) (v : PortState) : (s.withPort l v).compartments = s.compartments := rfl
@[simp] theorem withPort_bodyLimit (l : Port) (v : PortState) : (s.withPort l v).bodyLimit = s.bodyLimit := rfl
@[simp] theorem withPort_scan (l : Port) (v : PortState) : (s.withPort l v).scan = s.scan := rfl
@[simp] theorem withPort_weigh (l : Port) (v : PortState) : (s.withPort l v).weigh = s.weigh := rfl
@[simp] theorem withPort_calib (l : Port) (v : PortState) : (s.withPort l v).calib = s.calib := rfl
@[simp] theorem withPort_tags (l : Port) (v : PortState) : (s.withPort l v).tags = s.tags := rfl
@[simp] theorem withPort_journal (l : Port) (v : PortState) : (s.withPort l v).journal = s.journal := rfl
@[simp] theorem withPort_integrity (l : Port) (v : PortState) : (s.withPort l v).integrity = s.integrity := rfl
@[simp] theorem withPort_access (l : Port) (v : PortState) : (s.withPort l v).access = s.access := rfl
@[simp] theorem withPort_loader (l : Port) (v : PortState) : (s.withPort l v).loader = s.loader := rfl

@[simp] theorem withContext_pending (l : Lifter) (v : Option LiftContext) : (s.withContext l v).pending = s.pending := rfl
@[simp] theorem withContext_freeIndex (l : Lifter) (v : Option LiftContext) : (s.withContext l v).freeIndex = s.freeIndex := rfl
@[simp] theorem withContext_resetHeld (l : Lifter) (v : Option LiftContext) : (s.withContext l v).resetHeld = s.resetHeld := rfl
@[simp] theorem withContext_bodyTimer (l : Lifter) (v : Option LiftContext) : (s.withContext l v).bodyTimer = s.bodyTimer := rfl
@[simp] theorem withContext_banks (l : Lifter) (v : Option LiftContext) : (s.withContext l v).banks = s.banks := rfl
@[simp] theorem withContext_body (l : Lifter) (v : Option LiftContext) : (s.withContext l v).body = s.body := rfl
@[simp] theorem withContext_flow (l : Lifter) (v : Option LiftContext) : (s.withContext l v).flow = s.flow := rfl
@[simp] theorem withContext_packers (l : Lifter) (v : Option LiftContext) : (s.withContext l v).packers = s.packers := rfl
@[simp] theorem withContext_compartments (l : Lifter) (v : Option LiftContext) : (s.withContext l v).compartments = s.compartments := rfl
@[simp] theorem withContext_bodyLimit (l : Lifter) (v : Option LiftContext) : (s.withContext l v).bodyLimit = s.bodyLimit := rfl
@[simp] theorem withContext_scan (l : Lifter) (v : Option LiftContext) : (s.withContext l v).scan = s.scan := rfl
@[simp] theorem withContext_weigh (l : Lifter) (v : Option LiftContext) : (s.withContext l v).weigh = s.weigh := rfl
@[simp] theorem withContext_calib (l : Lifter) (v : Option LiftContext) : (s.withContext l v).calib = s.calib := rfl
@[simp] theorem withContext_tags (l : Lifter) (v : Option LiftContext) : (s.withContext l v).tags = s.tags := rfl
@[simp] theorem withContext_journal (l : Lifter) (v : Option LiftContext) : (s.withContext l v).journal = s.journal := rfl
@[simp] theorem withContext_integrity (l : Lifter) (v : Option LiftContext) : (s.withContext l v).integrity = s.integrity := rfl
@[simp] theorem withContext_ports (l : Lifter) (v : Option LiftContext) : (s.withContext l v).ports = s.ports := rfl
@[simp] theorem withContext_access (l : Lifter) (v : Option LiftContext) : (s.withContext l v).access = s.access := rfl
@[simp] theorem withContext_loader (l : Lifter) (v : Option LiftContext) : (s.withContext l v).loader = s.loader := rfl

@[simp] theorem withValves_pending (l : Lifter) (a b : Bool) : (s.withValves l a b).pending = s.pending := rfl
@[simp] theorem withValves_freeIndex (l : Lifter) (a b : Bool) : (s.withValves l a b).freeIndex = s.freeIndex := rfl
@[simp] theorem withValves_resetHeld (l : Lifter) (a b : Bool) : (s.withValves l a b).resetHeld = s.resetHeld := rfl
@[simp] theorem withValves_bodyTimer (l : Lifter) (a b : Bool) : (s.withValves l a b).bodyTimer = s.bodyTimer := rfl
@[simp] theorem withValves_banks (l : Lifter) (a b : Bool) : (s.withValves l a b).banks = s.banks := rfl
@[simp] theorem withValves_body (l : Lifter) (a b : Bool) : (s.withValves l a b).body = s.body := rfl
@[simp] theorem withValves_flow (l : Lifter) (a b : Bool) : (s.withValves l a b).flow = s.flow := rfl
@[simp] theorem withValves_packers (l : Lifter) (a b : Bool) : (s.withValves l a b).packers = s.packers := rfl
@[simp] theorem withValves_compartments (l : Lifter) (a b : Bool) : (s.withValves l a b).compartments = s.compartments := rfl
@[simp] theorem withValves_bodyLimit (l : Lifter) (a b : Bool) : (s.withValves l a b).bodyLimit = s.bodyLimit := rfl
@[simp] theorem withValves_scan (l : Lifter) (a b : Bool) : (s.withValves l a b).scan = s.scan := rfl
@[simp] theorem withValves_weigh (l : Lifter) (a b : Bool) : (s.withValves l a b).weigh = s.weigh := rfl
@[simp] theorem withValves_calib (l : Lifter) (a b : Bool) : (s.withValves l a b).calib = s.calib := rfl
@[simp] theorem withValves_tags (l : Lifter) (a b : Bool) : (s.withValves l a b).tags = s.tags := rfl
@[simp] theorem withValves_journal (l : Lifter) (a b : Bool) : (s.withValves l a b).journal = s.journal := rfl
@[simp] theorem withValves_integrity (l : Lifter) (a b : Bool) : (s.withValves l a b).integrity = s.integrity := rfl
@[simp] theorem withValves_ports (l : Lifter) (a b : Bool) : (s.withValves l a b).ports = s.ports := rfl
@[simp] theorem withValves_access (l : Lifter) (a b : Bool) : (s.withValves l a b).access = s.access := rfl
@[simp] theorem withValves_loader (l : Lifter) (a b : Bool) : (s.withValves l a b).loader = s.loader := rfl

@[simp] theorem mapContext_pending (l : Lifter) (f : LiftContext → LiftContext) : (s.mapContext l f).pending = s.pending := rfl
@[simp] theorem mapContext_freeIndex (l : Lifter) (f : LiftContext → LiftContext) : (s.mapContext l f).freeIndex = s.freeIndex := rfl
@[simp] theorem mapContext_resetHeld (l : Lifter) (f : LiftContext → LiftContext) : (s.mapContext l f).resetHeld = s.resetHeld := rfl
@[simp] theorem mapContext_bodyTimer (l : Lifter) (f : LiftContext → LiftContext) : (s.mapContext l f).bodyTimer = s.bodyTimer := rfl
@[simp] theorem mapContext_banks (l : Lifter) (f : LiftContext → LiftContext) : (s.mapContext l f).banks = s.banks := rfl
@[simp] theorem mapContext_body (l : Lifter) (f : LiftContext → LiftContext) : (s.mapContext l f).body = s.body := rfl
@[simp] theorem mapContext_flow (l : Lifter) (f : LiftContext → LiftContext) : (s.mapContext l f).flow = s.flow := rfl
@[simp] theorem mapContext_packers (l : Lifter) (f : LiftContext → LiftContext) : (s.mapContext l f).packers = s.packers := rfl
@[simp] theorem mapContext_compartments (l : Lifter) (f : LiftContext → LiftContext) : (s.mapContext l f).compartments = s.compartments := rfl
@[simp] theorem mapContext_bodyLimit (l : Lifter) (f : LiftContext → LiftContext) : (s.mapContext l f).bodyLimit = s.bodyLimit := rfl
@[simp] theorem mapContext_scan (l : Lifter) (f : LiftContext → LiftContext) : (s.mapContext l f).scan = s.scan := rfl
@[simp] theorem mapContext_weigh (l : Lifter) (f : LiftContext → LiftContext) : (s.mapContext l f).weigh = s.weigh := rfl
@[simp] theorem mapContext_calib (l : Lifter) (f : LiftContext → LiftContext) : (s.mapContext l f).calib = s.calib := rfl
@[simp] theorem mapContext_tags (l : Lifter) (f : LiftContext → LiftContext) : (s.mapContext l f).tags = s.tags := rfl
@[simp] theorem mapContext_journal (l : Lifter) (f : LiftContext → LiftContext) : (s.mapContext l f).journal = s.journal := rfl
@[simp] theorem mapContext_integrity (l : Lifter) (f : LiftContext → LiftContext) : (s.mapContext l f).integrity = s.integrity := rfl
@[simp] theorem mapContext_ports (l : Lifter) (f : LiftContext → LiftContext) : (s.mapContext l f).ports = s.ports := rfl
@[simp] theorem mapContext_access (l : Lifter) (f : LiftContext → LiftContext) : (s.mapContext l f).access = s.access := rfl
@[simp] theorem mapContext_loader (l : Lifter) (f : LiftContext → LiftContext) : (s.mapContext l f).loader = s.loader := rfl

end Sys2Proof.Machine
end

