-- ==== Sys2Proof/Laws/Operations.lean ====
section
/-! SUPPORT. What each shared operation can change, once per operation: `Only parts s t` says that every part of the
state outside `parts` is the same in s and t. A caller reads one field off with `Only.same`, joins operations with
`Only.step`, and widens the parts with `Only.mono`. -/

namespace Sys2Proof.Machine

/-- The fields of State. -/
inductive Field where
  | pending | freeIndex | resetHeld | bodyTimer | lifters | banks | body | flow | packers | compartments | bodyLimit
  | scan | weigh | calib | tags | journal | integrity | ports | access | loader
deriving DecidableEq, Repr

/-- One field is the same in two states. -/
def sameOn (s t : State) : Field → Prop
  | .pending => t.pending = s.pending
  | .freeIndex => t.freeIndex = s.freeIndex
  | .resetHeld => t.resetHeld = s.resetHeld
  | .bodyTimer => t.bodyTimer = s.bodyTimer
  | .lifters => t.lifters = s.lifters
  | .banks => t.banks = s.banks
  | .body => t.body = s.body
  | .flow => t.flow = s.flow
  | .packers => t.packers = s.packers
  | .compartments => t.compartments = s.compartments
  | .bodyLimit => t.bodyLimit = s.bodyLimit
  | .scan => t.scan = s.scan
  | .weigh => t.weigh = s.weigh
  | .calib => t.calib = s.calib
  | .tags => t.tags = s.tags
  | .journal => t.journal = s.journal
  | .integrity => t.integrity = s.integrity
  | .ports => t.ports = s.ports
  | .access => t.access = s.access
  | .loader => t.loader = s.loader

/-- From s to t only the fields of a list have changed. -/
def Only (c : List Field) (s t : State) : Prop := ∀ q, q ∉ c → sameOn s t q

theorem Only.refl (c : List Field) (s : State) : Only c s s := by
  intro q _; cases q <;> rfl

theorem Only.step {c : List Field} {s t u : State} (h : Only c s t) (k : Only c t u) : Only c s u := by
  intro q hq
  have a := h q hq
  have b := k q hq
  cases q <;> exact Eq.trans b a

theorem Only.mono {c d : List Field} {s t : State} (h : Only c s t) (sub : ∀ q ∈ c, q ∈ d) : Only d s t :=
  fun q hq => h q (fun hc => hq (sub q hc))

/-- One field read off a frame: `h.same .flow (by decide) : t.flow = s.flow`. -/
theorem Only.same {c : List Field} {s t : State} (h : Only c s t) (q : Field) (hq : q ∉ c) : sameOn s t q := h q hq

/-- Two operations in a row, each with its own parts. -/
theorem Only.both {a b c : List Field} {s t u : State} (h : Only a s t) (k : Only b t u) (ha : ∀ q ∈ a, q ∈ c)
    (hb : ∀ q ∈ b, q ∈ c) : Only c s u := (h.mono ha).step (k.mono hb)

theorem Only.ite {c : List Field} {s t u : State} {p : Prop} [Decidable p] (h : Only c s t) (k : Only c s u) :
    Only c s (if p then t else u) := by
  split
  · exact h
  · exact k

/-! ### The named updates -/

theorem withFreeIndex_only (s : State) (v : Nat) : Only [.freeIndex] s (s.withFreeIndex v) := by
  intro q hq; cases q <;> first | rfl | simp at hq
theorem withPending_only (s : State) (v : List Instr) : Only [.pending] s (s.withPending v) := by
  intro q hq; cases q <;> first | rfl | simp at hq
theorem withLifters_only (s : State) (v : PerLifter LifterUnit) : Only [.lifters] s (s.withLifters v) := by
  intro q hq; cases q <;> first | rfl | simp at hq
theorem withBody_only (s : State) (v : Body) : Only [.body] s (s.withBody v) := by
  intro q hq; cases q <;> first | rfl | simp at hq
theorem withFlow_only (s : State) (v : Flow) : Only [.flow] s (s.withFlow v) := by
  intro q hq; cases q <;> first | rfl | simp at hq
theorem withPackers_only (s : State) (v : PerStream Packer) : Only [.packers] s (s.withPackers v) := by
  intro q hq; cases q <;> first | rfl | simp at hq
theorem withCompartments_only (s : State) (v : PerStream Compartment) :
    Only [.compartments] s (s.withCompartments v) := by
  intro q hq; cases q <;> first | rfl | simp at hq
theorem withScan_only (s : State) (v : Scan) : Only [.scan] s (s.withScan v) := by
  intro q hq; cases q <;> first | rfl | simp at hq
theorem withWeigh_only (s : State) (v : Weigh) : Only [.weigh] s (s.withWeigh v) := by
  intro q hq; cases q <;> first | rfl | simp at hq
theorem withTags_only (s : State) (v : TagUnit) : Only [.tags] s (s.withTags v) := by
  intro q hq; cases q <;> first | rfl | simp at hq
theorem withJournal_only (s : State) (v : Journal) : Only [.journal] s (s.withJournal v) := by
  intro q hq; cases q <;> first | rfl | simp at hq
theorem withIntegrity_only (s : State) (v : Integrity) : Only [.integrity] s (s.withIntegrity v) := by
  intro q hq; cases q <;> first | rfl | simp at hq
theorem withPorts_only (s : State) (v : PerPort PortState) : Only [.ports] s (s.withPorts v) := by
  intro q hq; cases q <;> first | rfl | simp at hq
theorem withLoader_only (s : State) (v : Loader) : Only [.loader] s (s.withLoader v) := by
  intro q hq; cases q <;> first | rfl | simp at hq

theorem withLifter_only (s : State) (l : Lifter) (v : LifterUnit) : Only [.lifters] s (s.withLifter l v) :=
  withLifters_only s _
theorem withPacker_only (s : State) (st : Stream) (v : Packer) : Only [.packers] s (s.withPacker st v) :=
  withPackers_only s _
theorem withCompartment_only (s : State) (st : Stream) (v : Compartment) :
    Only [.compartments] s (s.withCompartment st v) := withCompartments_only s _
theorem withPort_only (s : State) (p : Port) (v : PortState) : Only [.ports] s (s.withPort p v) :=
  withPorts_only s _
theorem withContext_only (s : State) (l : Lifter) (c : Option LiftContext) : Only [.lifters] s (s.withContext l c) :=
  withLifter_only s l _
theorem mapContext_only (s : State) (l : Lifter) (f : LiftContext → LiftContext) :
    Only [.lifters] s (s.mapContext l f) := withContext_only s l _
theorem withValves_only (s : State) (l : Lifter) (a b : Bool) : Only [.lifters] s (s.withValves l a b) :=
  withLifter_only s l _

/-! ### Events, limits and the drive inhibit -/

theorem latchAll_only (e : Event) (s : State) : Only [.ports] s (latchAll e s) := withPorts_only s _
theorem latchPort_only (p : Port) (e : Event) (s : State) : Only [.ports] s (latchPort p e s) := withPort_only s p _
theorem latchWhen_only (b : Bool) (e : Event) (s : State) : Only [.ports] s (latchWhen b e s) :=
  (latchAll_only e s).ite (Only.refl _ s)
theorem evaluateInhibit_only (s : State) : Only [.body] s (evaluateInhibit s) := withBody_only s _
theorem evaluateLimits_only (s : State) : Only [.compartments, .ports] s (evaluateLimits s) :=
  (withCompartments_only s _).both (latchWhen_only _ _ _) (by decide) (by decide)
theorem raisePayload_only (st : Stream) (mass : Nat) (s : State) :
    Only [.compartments, .ports] s (raisePayload st mass s) :=
  (withCompartment_only s st _).both (evaluateLimits_only _) (by decide) (by decide)

/-- Latching an event adds it to every port's set and leaves masks, services and counts. -/
theorem latchAll_port (e : Event) (s : State) (p : Port) : (latchAll e s).port p = (s.port p).latch e := by
  cases p <;> rfl

/-- A latch adds its event and removes none. -/
theorem latch_latched (x : PortState) (e : Event) : (x.latch e).latched = x.latched ||| eventSet e := rfl

/-! ### The flow arbiter -/

/-- The parts that a grant evaluation reaches: a grant opens its consumer's valve and starts its timer. -/
abbrev flowParts : List Field := [.flow, .lifters, .packers, .ports]

theorem testLine_only (s : State) : Only [.flow, .ports] s (testLine s) :=
  (Only.refl _ s).ite ((withFlow_only s _).both (latchAll_only _ _) (by decide) (by decide))
theorem handGrant_only (c : Consumer) (s : State) : Only flowParts s (handGrant c s) := by
  cases c with
  | packer st => exact (withPacker_only s st _).mono (by decide)
  | lifter l =>
    simp only [handGrant, grantLifter]
    split
    · exact Only.refl _ s
    · split
      · exact Only.refl _ s
      · exact (withValves_only s l _ _).both (mapContext_only _ l _) (by decide) (by decide)
theorem grantOne_only (c : Consumer) (s : State) : Only flowParts s (grantOne c s) :=
  (withFlow_only s _).both (handGrant_only c _) (by decide) (by decide)
theorem grantLoop_only (n : Nat) (s : State) : Only flowParts s (grantLoop n s) := by
  induction n generalizing s with
  | zero => exact Only.refl _ s
  | succ n ih =>
    simp only [grantLoop]
    split
    · exact Only.refl _ s
    · exact ((grantOne_only _ s).step (ih _)).ite (Only.refl _ s)
theorem evaluateGrants_only (s : State) : Only flowParts s (evaluateGrants s) :=
  ((grantLoop_only _ s).ite (Only.refl _ s)).both (testLine_only _) (by decide) (by decide)
theorem placeRequest_only (c : Consumer) (d : Nat) (s : State) : Only flowParts s (placeRequest c d s) := by
  unfold placeRequest
  split
  · exact (withFlow_only s _).both (evaluateGrants_only _) (by decide) (by decide)
  · exact Only.refl _ s
theorem releaseGrant_only (c : Consumer) (s : State) : Only flowParts s (releaseGrant c s) :=
  ((withFlow_only s _).both (evaluateGrants_only _) (by decide) (by decide)).ite (Only.refl _ s)
theorem withdrawRequest_only (c : Consumer) (s : State) : Only flowParts s (withdrawRequest c s) :=
  ((withFlow_only s _).both (evaluateGrants_only _) (by decide) (by decide)).ite (Only.refl _ s)
theorem giveBackFlow_only (c : Consumer) (s : State) : Only flowParts s (giveBackFlow c s) :=
  (releaseGrant_only c s).step (withdrawRequest_only c _)
theorem clearFlow_only (s : State) : Only [.flow, .ports] s (clearFlow s) :=
  (withFlow_only s _).both (testLine_only _) (by decide) (by decide)

/-! ### The scan unit and the weigh engine -/

theorem writeSlot_only (ch : Fin 12) (v : Int) (s : State) : Only [.scan] s (writeSlot ch v s) := withScan_only s _
theorem startComputation_only (s : State) : Only [.weigh] s (startComputation s) := by
  unfold startComputation
  split <;> exact withWeigh_only s _
theorem joinQueue_only (l : Lifter) (s : State) : Only [.weigh] s (joinQueue l s) := by
  unfold joinQueue
  split
  · exact (withWeigh_only s _).step (startComputation_only _)
  · exact withWeigh_only s _
theorem leaveQueue_only (l : Lifter) (s : State) : Only [.weigh] s (leaveQueue l s) := by
  unfold leaveQueue
  split
  · exact Only.refl _ s
  · exact ((withWeigh_only s _).step (startComputation_only _)).ite (withWeigh_only s _)
theorem withdrawWindow_only (l : Lifter) (s : State) : Only [.scan, .weigh] s (withdrawWindow l s) := by
  unfold withdrawWindow
  split
  · exact Only.refl _ s
  · exact (withScan_only s _).mono (by decide)
  · exact (withScan_only s _).both (leaveQueue_only l _) (by decide) (by decide)
theorem armWindow_only (l : Lifter) (s : State) : Only [.scan, .weigh] s (armWindow l s) :=
  (withdrawWindow_only l s).both (withScan_only _ _) (by decide) (by decide)
theorem addSample_only (l : Lifter) (v : Int) (s : State) : Only [.scan, .weigh, .lifters] s (addSample l v s) := by
  unfold addSample
  split
  · rename_i n xs _
    refine Only.ite ?_ ((withScan_only s _).mono (by decide))
    have h : Only [.scan, .weigh, .lifters] s (s.withBuffer l (.held n (xs ++ [v]) (copySlots s))) :=
      (withScan_only s _).mono (by decide)
    refine Only.both (a := [.scan, .weigh, .lifters]) ?_ (joinQueue_only l _) (fun q h => h) (by decide)
    exact (h.both (mapContext_only _ l _) (fun q h => h) (by decide)).ite h
  · exact Only.refl _ s
theorem afterRing_only (s : State) : Only [.scan] s (afterRing s) := by
  unfold afterRing
  split <;> exact withScan_only s _
theorem driftCheck_only (l : Lifter) (n : Nat) (s : State) : Only [.weigh, .ports] s (driftCheck l n s) := by
  unfold driftCheck
  split
  · exact Only.refl _ s
  · refine Only.ite (Only.ite ?_ ?_) ?_
    · exact (withWeigh_only s _).both (latchAll_only _ _) (by decide) (by decide)
    · exact (withWeigh_only s _).mono (by decide)
    · exact (withWeigh_only s _).mono (by decide)
theorem endPass_only (s : State) : Only [.scan, .weigh, .ports] s (endPass s) := by
  have h : Only [.scan, .weigh, .ports] s (s.withScan { s.scan with pass := (s.scan.pass + 1) % 65536 }) :=
    (withScan_only s _).mono (by decide)
  refine Only.ite ?_ h
  exact (h.both (driftCheck_only .left _ _) (fun q h => h) (by decide)).both (driftCheck_only .right _ _)
    (fun q h => h) (by decide)

/-! ### The two memories -/

/-- The parts a read of the account table reaches: repairs, removals, corrections, events. -/
abbrev tableParts : List Field := [.tags, .integrity, .ports]

theorem countAccountCorrection_only (s : State) : Only tableParts s (countAccountCorrection s) :=
  (withIntegrity_only s _).both (latchWhen_only _ _ _) (by decide) (by decide)
theorem countJournalCorrection_only (s : State) : Only [.integrity, .ports] s (countJournalCorrection s) :=
  (withIntegrity_only s _).both (latchWhen_only _ _ _) (by decide) (by decide)
theorem readEntry_only (i : Nat) (s : State) : Only tableParts s (readEntry i s).2 := by
  unfold readEntry
  split
  · exact Only.refl _ s
  · split
    · exact Only.refl _ s
    · exact (withTags_only s _).both (countAccountCorrection_only _) (by decide) (by decide)
    · exact Only.refl _ s
theorem removeDamaged_only (i : Nat) (s : State) : Only tableParts s (removeDamaged i s) :=
  (withTags_only s _).both (latchAll_only _ _) (by decide) (by decide)
theorem searchFrom_only (n low high tag : Nat) (s : State) : Only tableParts s (searchFrom n low high tag s).2 := by
  induction n generalizing low high s with
  | zero => exact Only.refl _ s
  | succ n ih =>
    simp only [searchFrom]
    split
    · have h := readEntry_only ((low + (high - 1)) / 2) s
      split
      · rename_i x hx; rw [hx] at h; exact h
      · rename_i x hx; rw [hx] at h; exact h
      · rename_i x hx; rw [hx] at h
        split
        · exact h
        · split
          · exact h.step (ih _ _ _)
          · exact h.step (ih _ _ _)
    · exact Only.refl _ s
theorem lookupFrom_only (n tag : Nat) (s : State) : Only tableParts s (lookupFrom n tag s).2 := by
  induction n generalizing s with
  | zero => exact Only.refl _ s
  | succ n ih =>
    simp only [lookupFrom]
    have h := searchFrom_only (s.tags.table.length + 1) 0 s.tags.table.length tag s
    split
    · rename_i x hx; rw [hx] at h; exact h
    · rename_i x hx; rw [hx] at h; exact h
    · rename_i x hx; rw [hx] at h; exact (h.step (removeDamaged_only _ _)).step (ih _)
theorem lookupTag_only (tag : Nat) (s : State) : Only tableParts s (lookupTag tag s).2 := lookupFrom_only _ tag s
theorem readIndexFrom_only (n i : Nat) (s : State) : Only tableParts s (readIndexFrom n i s).2 := by
  induction n generalizing s with
  | zero => exact Only.refl _ s
  | succ n ih =>
    simp only [readIndexFrom]
    have h := readEntry_only i s
    split
    · rename_i x hx; rw [hx] at h; exact h
    · rename_i x hx; rw [hx] at h; exact h
    · rename_i x hx; rw [hx] at h; exact (h.step (removeDamaged_only _ _)).step (ih _)
theorem readIndex_only (i : Nat) (s : State) : Only tableParts s (readIndex i s).2 := readIndexFrom_only _ i s
theorem writeEntry_only (i : Nat) (e : AccountEntry) (s : State) : Only [.tags] s (writeEntry i e s) :=
  withTags_only s _
theorem insertEntry_only (i : Nat) (e : AccountEntry) (s : State) : Only [.tags] s (insertEntry i e s) :=
  withTags_only s _

/-- The parts a read of the journal reaches. -/
abbrev journalParts : List Field := [.journal, .integrity, .ports]

theorem deliver_only (i : Nat) (s : State) : Only journalParts s (deliver i s).2 := by
  unfold deliver
  split
  · exact Only.refl _ s
  · split
    · exact Only.refl _ s
    · split
      · exact Only.refl _ s
      · exact (withJournal_only s _).both (countJournalCorrection_only _) (by decide) (by decide)
      · exact (withJournal_only s _).both (latchAll_only _ _) (by decide) (by decide)
theorem deliverFrom_only (n i : Nat) (s : State) : Only journalParts s (deliverFrom n i s).2 := by
  induction n generalizing i s with
  | zero => exact Only.refl _ s
  | succ n ih =>
    simp only [deliverFrom]
    have h := deliver_only i s
    split
    · rename_i x hx; rw [hx] at h; exact h
    · rename_i x hx; rw [hx] at h; exact h.step (ih _ _)
theorem makeReservation_only (l : Lifter) (s : State) : Only [.journal, .ports] s (makeReservation l s) :=
  (withJournal_only s _).both ((latchWhen_only _ _ _).step (latchWhen_only _ _ _)) (by decide) (by decide)
theorem writeRecord_only (r : Record) (s : State) : Only [.journal, .ports] s (writeRecord r s) :=
  (withJournal_only s _).both (latchAll_only _ _) (by decide) (by decide)

/-! ### The packers -/

theorem faultPacker_only (st : Stream) (x : PackFaultCause) (ph : StrokePhase) (s : State) :
    Only flowParts s (faultPacker st x ph s) :=
  ((withPacker_only s st _).both (giveBackFlow_only _ _) (by decide) (fun q h => h)).both (latchAll_only _ _)
    (fun q h => h) (by decide)
theorem enterStroke_only (st : Stream) (ph : StrokePhase) (s : State) : Only flowParts s (enterStroke st ph s) := by
  unfold enterStroke
  split
  · exact faultPacker_only st _ ph s
  · exact (withPacker_only s st _).both (placeRequest_only _ _ _) (by decide) (fun q h => h)
theorem startCycle_only (st : Stream) (s : State) : Only flowParts s (startCycle st s) :=
  (withPacker_only s st _).both (enterStroke_only st _ _) (by decide) (fun q h => h)
theorem tryStart_only (st : Stream) (s : State) : Only flowParts s (tryStart st s) :=
  (startCycle_only st s).ite (Only.refl _ s)
theorem packerToIdle_only (st : Stream) (s : State) : Only flowParts s (packerToIdle st s) :=
  (withPacker_only s st _).both (tryStart_only st _) (by decide) (fun q h => h)
theorem holdPacker_only (st : Stream) (flow : Bool) (s : State) : Only flowParts s (holdPacker st flow s) := by
  unfold holdPacker
  split
  · exact (withPacker_only s st _).both (giveBackFlow_only _ _) (by decide) (fun q h => h)
  · exact (withPacker_only s st _).mono (by decide)
  · exact Only.refl _ s
theorem haltPacker_only (st : Stream) (s : State) : Only [.packers] s (haltPacker st s) :=
  (Only.refl _ s).ite (withPacker_only s st _)
theorem unhaltPacker_only (st : Stream) (s : State) : Only flowParts s (unhaltPacker st s) :=
  (packerToIdle_only st s).ite (Only.refl _ s)
theorem addCycle_only (st : Stream) (s : State) : Only flowParts s (addCycle st s) :=
  ((withPacker_only s st _).both (tryStart_only st _) (by decide) (fun q h => h)).ite
    ((withPacker_only s st _).mono (by decide))
theorem addCycles_only (n : Nat) (st : Stream) (s : State) : Only flowParts s (addCycles n st s) := by
  induction n generalizing s with
  | zero => exact Only.refl _ s
  | succ n ih => exact (addCycle_only st s).step (ih _)
theorem liftTriggeredCycles_only (st : Stream) (s : State) : Only flowParts s (liftTriggeredCycles st s) :=
  addCycles_only _ st s

/-- The parts a packer's stroke reaches: the fill judgment adds the compartments. -/
abbrev strokeParts : List Field := [.flow, .lifters, .packers, .ports, .compartments]

theorem judgeExtend_only (st : Stream) (s : State) : Only strokeParts s (judgeExtend st s) := by
  refine Only.both (Only.both (c := strokeParts) (withPacker_only s st _) (withCompartment_only _ st _) (by decide)
    (by decide)) ((latchWhen_only _ _ _).step (latchWhen_only _ _ _)) (fun q h => h) (by decide)
theorem enterDwellPacker_only (st : Stream) (s : State) : Only flowParts s (enterDwellPacker st s) := by
  unfold enterDwellPacker
  split
  · exact faultPacker_only st _ _ s
  · exact (withPacker_only s st _).mono (by decide)
theorem endRetract_only (st : Stream) (s : State) : Only flowParts s (endRetract st s) := by
  have h : Only flowParts s (releaseGrant (.packer st) (s.withPacker st (stopPacker (s.packer st)))) :=
    (withPacker_only s st _).both (releaseGrant_only _ _) (by decide) (fun q h => h)
  simp only [endRetract]
  split
  · exact h.step (packerToIdle_only st _)
  · split
    · exact h.both (withPacker_only _ st _) (fun q h => h) (by decide)
    · exact h.step ((packerToIdle_only st _).ite (startCycle_only st _))
    · exact h.step (packerToIdle_only st _)
theorem packerConversion_only (st : Stream) (ch : Fin 12) (s : State) :
    Only strokeParts s (packerConversion st ch s) := by
  refine Only.ite ?_ (Only.refl _ s)
  split
  · exact Only.ite ((judgeExtend_only st s).both (enterDwellPacker_only st _) (fun q h => h) (by decide))
      (Only.refl _ s)
  · exact Only.ite ((endRetract_only st s).mono (by decide)) (Only.refl _ s)
  · exact Only.refl _ s
theorem packerStale_only (st : Stream) (s : State) : Only flowParts s (packerStale st s) := by
  unfold packerStale
  split
  · exact faultPacker_only st _ _ s
  · exact Only.refl _ s

/-! ### The lift sequencers -/

theorem faultLifter_only (l : Lifter) (x : LiftFaultCause) (s : State) : Only flowParts s (faultLifter l x s) := by
  unfold faultLifter
  split
  · exact Only.refl _ s
  · exact ((withLifter_only s l _).both (giveBackFlow_only _ _) (by decide) (fun q h => h)).both (latchAll_only _ _)
      (fun q h => h) (by decide)
theorem setPhase_only (l : Lifter) (ph : Phase) (s : State) : Only [.lifters] s (setPhase l ph s) :=
  (withValves_only s l _ _).step (mapContext_only _ l _)
theorem enterMotion_only (l : Lifter) (ph : Phase) (s : State) : Only flowParts s (enterMotion l ph s) := by
  have h := (setPhase_only l ph s).mono (d := flowParts) (by decide)
  exact Only.ite (h.step (faultLifter_only l _ _)) (h.step (placeRequest_only _ _ _))
theorem enterWeigh_only (l : Lifter) (ph : Phase) (afresh : Bool) (s : State) :
    Only flowParts s (enterWeigh l ph afresh s) := by
  have h := ((setPhase_only l ph s).step
    (mapContext_only _ l (fun c => if afresh then { c with retry := 0 } else c))).mono (d := flowParts) (by decide)
  exact Only.ite ((h.both (mapContext_only _ l _) (fun q h => h) (by decide)).step (enterMotion_only l _ _))
    (h.both (mapContext_only _ l _) (fun q h => h) (by decide))
theorem endWeigh_only (l : Lifter) (s : State) : Only flowParts s (endWeigh l s) := by
  unfold endWeigh
  split
  · exact Only.refl _ s
  · exact enterMotion_only l _ s
theorem enterDumpDwell_only (l : Lifter) (s : State) : Only [.lifters] s (enterDumpDwell l s) :=
  (setPhase_only l _ s).step (mapContext_only _ l _)
theorem giveLiftCycles_only (l : Lifter) (s : State) : Only flowParts s (giveLiftCycles l s) := by
  unfold giveLiftCycles
  split
  · exact Only.refl _ s
  · exact (mapContext_only s l _).both (liftTriggeredCycles_only _ _) (by decide) (fun q h => h)
theorem enterShake_only (l : Lifter) (s : State) : Only flowParts s (enterShake l s) := by
  unfold enterShake
  split
  · exact Only.refl _ s
  · exact (enterMotion_only l _ s).ite (enterMotion_only l _ s)

/-- The parts a lifter's hold or abort reaches: its window may be withdrawn. -/
abbrev liftParts : List Field := [.flow, .lifters, .packers, .ports, .scan, .weigh]

theorem holdMoving_only (l : Lifter) (r : HoldReason) (c : LiftContext) (s : State) :
    Only liftParts s (holdMoving l r c s) := by
  refine Only.both (a := liftParts) ?_ (latchAll_only _ _) (fun q h => h) (by decide)
  have h : Only liftParts s _ :=
    (withLifter_only s l
      { s.lifter l with
        raiseValve := false
        lowerValve := false
        context := some { stopTimers c with
          remembered := some c.phase, phase := .held, reasons := HoldReasons.add {} r } }).both
      (giveBackFlow_only (.lifter l) _) (by decide) (by decide)
  exact Only.ite (h.both (withdrawWindow_only l _) (fun q h => h) (by decide)) h
theorem holdLifter_only (l : Lifter) (r : HoldReason) (s : State) : Only liftParts s (holdLifter l r s) := by
  unfold holdLifter
  split
  · exact Only.refl _ s
  · split
    · exact Only.refl _ s
    · exact Only.ite (Only.refl _ s) ((mapContext_only s l _).both (latchAll_only _ _) (by decide) (by decide))
    · exact holdMoving_only l r _ s
theorem holdBoth_only (r : HoldReason) (s : State) : Only liftParts s (holdBoth r s) :=
  (holdLifter_only .left r s).step (holdLifter_only .right r _)
theorem reenterPhase_only (l : Lifter) (ph : Phase) (s : State) : Only flowParts s (reenterPhase l ph s) := by
  cases ph
  case grossWeigh => exact enterWeigh_only l _ _ s
  case tareWeigh => exact enterWeigh_only l _ _ s
  case dumpDwell => exact (enterDumpDwell_only l s).mono (by decide)
  case held => exact Only.refl _ s
  case fault => exact Only.refl _ s
  all_goals exact enterMotion_only l _ s
theorem resumeLifter_only (l : Lifter) (s t : State) (h : resumeLifter l s = .taken t) : Only flowParts s t := by
  unfold resumeLifter at h
  repeat' split at h
  all_goals first | cases h | skip
  exact (mapContext_only s l _).both (reenterPhase_only l _ _) (by decide) (fun q h => h)
theorem takeAbort_only (l : Lifter) (c : LiftContext) (s : State) : Only liftParts s (takeAbort l c s) := by
  have h : Only liftParts s _ :=
    ((withValves_only s l false false).step (withContext_only _ l
      (some { clearHold (stopTimers c) with abortPhase := some (abortPhaseOf c) }))).both
      (giveBackFlow_only (.lifter l) _) (by decide) (by decide)
  have k : Only liftParts s (if isWeigh c.phase then withdrawWindow l _ else _) :=
    Only.ite (h.both (withdrawWindow_only l _) (fun q h => h) (by decide)) h
  refine Only.both (a := liftParts) ?_ (enterMotion_only l _ _) (fun q h => h) (by decide)
  exact Only.ite (k.both (giveLiftCycles_only l _) (fun q h => h) (by decide)) k
theorem abortLifter_only (l : Lifter) (s t : State) (h : abortLifter l s = .taken t) : Only liftParts s t := by
  unfold abortLifter at h
  repeat' split at h
  all_goals first | cases h | skip
  exact takeAbort_only l _ s
theorem takeResult_only (l : Lifter) (o : WeighOutcome) (m : Option Int) (s : State) :
    Only liftParts s (takeResult l o m s) := by
  unfold takeResult
  split
  · exact Only.refl _ s
  · split
    · split
      · exact (mapContext_only s l _).both (endWeigh_only l _) (by decide) (by decide)
      · exact Only.ite ((mapContext_only s l _).both (armWindow_only l _) (by decide) (by decide))
          ((mapContext_only s l _).both (endWeigh_only l _) (by decide) (by decide))
      · exact (mapContext_only s l _).both (endWeigh_only l _) (by decide) (by decide)
    · exact Only.refl _ s
theorem lifterStale_only (l : Lifter) (s : State) : Only flowParts s (lifterStale l s) := by
  unfold lifterStale
  split
  · exact Only.refl _ s
  · exact (faultLifter_only l _ s).ite (Only.refl _ s)

/-! ### The end of a lift and its start -/

/-- The parts the end of a lift reaches. -/
abbrev endParts : List Field := [.lifters, .body, .compartments, .tags, .journal, .integrity, .ports]

theorem completionLookup_only (c : LiftContext) (s : State) : Only tableParts s (completionLookup c s).2 := by
  unfold completionLookup
  split
  · rename_i t _ _
    have h := lookupTag_only t s
    split
    · rename_i x hx; rw [hx] at h; exact h
    · rename_i x hx; rw [hx] at h; exact h
  · exact Only.refl _ s
theorem writeBack_only (d : Bool) (u : Nat) (f : Option (Nat × AccountEntry)) (s : State) :
    Only [.tags] s (writeBack d u f s) := by
  unfold writeBack
  split
  · exact Only.refl _ s
  · exact writeEntry_only _ _ s
theorem endContext_only (l : Lifter) (s : State) : Only [.lifters, .body] s (endContext l s) :=
  (withContext_only s l none).both (evaluateInhibit_only _) (by decide) (by decide)
theorem endLift_only (how : Ending) (l : Lifter) (s : State) : Only endParts s (endLift how l s) := by
  unfold endLift
  split
  · exact Only.refl _ s
  · rename_i c _
    have h1 := (completionLookup_only c s).mono (d := endParts) (by decide)
    have h2 := h1.both (writeRecord_only (buildRecord how l c (completionLookup c s).1 (completionLookup c s).2) _)
      (c := endParts) (fun q h => h) (by decide)
    have h3 := h2.both (writeBack_only c.dumped
      (usedOf (buildRecord how l c (completionLookup c s).1 (completionLookup c s).2)) (completionLookup c s).1 _)
      (c := endParts) (fun q h => h) (by decide)
    have h4 := h3.both (raisePayload_only c.stream
      (buildRecord how l c (completionLookup c s).1 (completionLookup c s).2).dumpedMass _) (c := endParts)
      (fun q h => h) (by decide)
    exact h4.both (endContext_only l _) (fun q h => h) (by decide)
theorem tagPermission_only (l : Lifter) (s : State) : Only tableParts s (tagPermission l s).2 := by
  unfold tagPermission
  split
  · exact Only.refl _ s
  · rename_i t _
    have h := lookupTag_only t.tag s
    split
    · rename_i x hx; rw [hx] at h; exact h
    · rename_i x hx; rw [hx] at h; exact h
theorem refuseStart_only (l : Lifter) (x : StartSource) (r : Reason) (s : State) :
    Only [.lifters, .ports] s (refuseStart l x r s) :=
  (withLifter_only s l _).both (latchAll_only _ _) (by decide) (by decide)

/-! ### Operations that reach several blocks -/

theorem holdConsumer_only (c : Consumer) (s : State) : Only liftParts s (holdConsumer c s) := by
  cases c with
  | lifter l => exact holdLifter_only l _ s
  | packer st => exact (holdPacker_only st true s).mono (by decide)
theorem handRevocation_only (was : PerConsumer FlowRecord) (c : Consumer) (s : State) :
    Only liftParts s (handRevocation was s c) := (holdConsumer_only c s).ite (Only.refl _ s)
theorem revokeAll_only (s : State) : Only liftParts s (revokeAll s) := by
  have h : Only liftParts s (testLine (s.withFlow { s.flow with records := revokeRecords s.flow.records })) :=
    (withFlow_only s _).both (testLine_only _) (by decide) (by decide)
  exact (((h.step (handRevocation_only _ _ _)).step (handRevocation_only _ _ _)).step
    (handRevocation_only _ _ _)).step (handRevocation_only _ _ _)
theorem handEngine_only (e : EngineState) (s : State) : Only liftParts s (handEngine e s) := by
  have h : Only liftParts s (s.withFlow { s.flow with engine := e, supply := supplyOf e }) :=
    (withFlow_only s _).mono (by decide)
  refine Only.ite ((withFlow_only s _).mono (by decide)) (Only.ite ?_ ?_)
  · exact (h.step (revokeAll_only _)).both (evaluateGrants_only _) (fun q h => h) (by decide)
  · exact h.both (evaluateGrants_only _) (fun q h => h) (by decide)
theorem handEngineChange_only (b : EngineState) (s : State) : Only liftParts s (handEngineChange b s) :=
  (Only.refl _ s).ite (handEngine_only _ s)

/-- The parts that vehicle data and the body states reach. -/
abbrev bodyParts : List Field := [.flow, .lifters, .packers, .ports, .scan, .weigh, .body]

theorem acceptVehicle_only (v : VehicleData) (s : State) : Only bodyParts s (acceptVehicle v s) := by
  have h : Only bodyParts s (handEngineChange (effectiveEngine s.body) (s.withBody
      { s.body with
        vehicle := some v
        lastAccepted := some s.bodyTimer
        fresh := true
        clockSeconds := v.clock
        clockMillis := 0 })) :=
    (withBody_only s _).both (handEngineChange_only _ _) (by decide) (by decide)
  exact Only.ite (h.both (holdBoth_only _ _) (fun q h => h) (by decide)) h
theorem expireVehicle_only (s : State) : Only bodyParts s (expireVehicle s) := by
  refine Only.both (a := bodyParts) ?_ (handEngineChange_only _ _) (fun q h => h) (by decide)
  exact ((withBody_only s _).both (latchAll_only _ _) (c := bodyParts) (by decide) (by decide)).both
    (holdBoth_only _ _) (fun q h => h) (by decide)
theorem allValvesOff_only (s : State) : Only [.lifters, .packers] s (allValvesOff s) := by
  refine Only.both (a := [.lifters, .packers]) ?_ (withPacker_only _ _ _) (fun q h => h) (by decide)
  exact ((withValves_only s _ _ _).step (withValves_only _ _ _ _)).both (withPacker_only _ _ _) (by decide) (by decide)
theorem enterHalted_only (s : State) : Only bodyParts s (enterHalted s) := by
  have h1 : Only bodyParts s (allValvesOff (s.withBody { s.body with state := .halted })) :=
    (withBody_only s _).both (allValvesOff_only _) (by decide) (by decide)
  have h2 := h1.both (clearFlow_only _) (c := bodyParts) (fun q h => h) (by decide)
  have h3 := h2.both (holdBoth_only .estop _) (c := bodyParts) (fun q h => h) (by decide)
  have h4 := h3.both (haltPacker_only .residual _) (c := bodyParts) (fun q h => h) (by decide)
  have h5 := h4.both (haltPacker_only .recycle _) (c := bodyParts) (fun q h => h) (by decide)
  exact h5.both (latchAll_only .estop _) (fun q h => h) (by decide)
theorem packersInTurn_only (b : Bool) (f : Stream → State → State) (hf : ∀ st s, Only flowParts s (f st s))
    (s : State) : Only (.freeIndex :: flowParts) s (packersInTurn b f s) := by
  have pair (x y : Stream) (u : State) (h : Only (.freeIndex :: flowParts) s u) :
      Only (.freeIndex :: flowParts) s (f y (f x u)) :=
    (h.both (hf x u) (fun q h => h) (by decide)).both (hf y _) (fun q h => h) (by decide)
  have h : Only (.freeIndex :: flowParts) s (s.withFreeIndex (s.freeIndex + 1)) :=
    (withFreeIndex_only s _).mono (by decide)
  exact Only.ite (Only.ite (pair _ _ _ h) (pair _ _ _ h)) (pair _ _ _ (Only.refl _ s))
theorem startPackers_only (s : State) : Only (.freeIndex :: flowParts) s (startPackers s) :=
  packersInTurn_only _ _ tryStart_only s
theorem resumeBodyTaken_only (s : State) : Only (.body :: .freeIndex :: flowParts) s (resumeBodyTaken s) := by
  refine Only.both (withBody_only s _) ?_ (by decide) (fun q h => h) (t := s.withBody { s.body with state := .running })
  exact ((evaluateGrants_only _).mono (by decide)).step
    ((packersInTurn_only _ _ unhaltPacker_only _).mono (by decide))

/-! ### Settling lines and the millisecond (R33, R44) -/

/-- A reading changes exactly when its line has held the opposite level for its 10 ms, and not under the reset line. -/
theorem readingChanges_eq_true {level : Bool} {s : State} {x : Debounced} :
    readingChanges level s x = true ↔
      s.resetHeld = false ∧ x.line = level ∧ x.reading = (!level) ∧ expired s x.settling settlingMs = true := by
  cases level <;> simp [readingChanges, readingDue, and_assoc]

/-- A reading is due for one level at most. -/
theorem readingDue_one {s : State} {x : Debounced} (h : readingDue true s x = true) : readingDue false s x = false := by
  simp_all [readingDue]

theorem passMillisecond_only (s : State) : Only [.bodyTimer, .body] s (passMillisecond s) := by
  intro q _; cases q <;> first | rfl | contradiction

/-! ### The EEPROM's writes (R211) -/

theorem withCalib_only (s : State) (v : CalStore) : Only [.calib] s (s.withCalib v) := by
  intro q _; cases q <;> first | rfl | contradiction

/-- What may end is the write at the head, and only once its 5 ms have run. -/
theorem endingWrite_eq_some {s : State} {j : WriteJob} :
    endingWrite s = some j ↔ expired s s.loader.writeStart writeMs = true ∧ s.loader.writes.head? = some j := by
  unfold endingWrite
  split <;> simp_all
theorem endingWrite_early {s : State} (h : expired s s.loader.writeStart writeMs = false) : endingWrite s = none := by
  simp [endingWrite, h]

theorem copyForCommit_only (s : State) : Only [.calib, .loader] s (copyForCommit s) := by
  unfold copyForCommit
  split
  · exact (withCalib_only s _).both (withLoader_only _ _) (by decide) (by decide)
  · exact Only.refl _ s
theorem beginHead_only (s : State) : Only [.calib, .loader] s (beginHead s) :=
  (withLoader_only s _).both (copyForCommit_only _) (by decide) (by decide)
theorem handWrite_only (j : WriteJob) (s : State) : Only [.calib, .loader] s (handWrite j s) := by
  unfold handWrite
  split
  · exact (withLoader_only s _).both (beginHead_only _) (by decide) (by decide)
  · exact (withLoader_only s _).mono (by decide)
theorem nextWrite_only (s : State) : Only [.calib, .loader] s (nextWrite s) :=
  (withLoader_only s _).both (beginHead_only _) (by decide) (by decide)

/-- The start of the write in progress is known after the head has begun exactly when there is one. -/
theorem beginHead_started (s : State) : (beginHead s).loader.writeStart = headStart s.loader.writes s.bodyTimer := by
  unfold beginHead copyForCommit
  split <;> rfl

/-! ### Reception -/

/-- What one character does at a port (R194): nothing, one more byte of the frame coming in, or the frame's end with
its command. -/
theorem receiveByte_cases (p : Port) (b : Byte) (stop : Bool) (s : State) :
    receiveByte p b stop s = s ∨ receiveByte p b stop s = frameGoesOn p b s
      ∨ ∃ i, receiveByte p b stop s = frameEnds p i s := by
  unfold receiveByte
  split
  · exact .inl rfl
  · split
    · exact .inl rfl
    · exact .inr (.inl rfl)
    · exact .inr (.inr ⟨_, rfl⟩)
    · exact .inr (.inr ⟨_, rfl⟩)
theorem receiveByte_only (p : Port) (b : Byte) (stop : Bool) (s : State) :
    Only [.pending, .ports] s (receiveByte p b stop s) := by
  obtain h | h | ⟨i, h⟩ := receiveByte_cases p b stop s <;> rw [h]
  · exact Only.refl _ s
  · exact (withPort_only s _ _).mono (by decide)
  · exact (withPort_only s _ _).both (withPending_only _ _) (by decide) (by decide)

end Sys2Proof.Machine
end

