-- ==== Sys2Proof/Tests/Slice0.lean ====
section
/-! SUPPORT. The writer's own tests: what well-formedness refuses, frames written out by hand, the manual's worked
sequences on small states, and for every statement with hypotheses a concrete state and operands that meet them. -/

namespace Sys2Proof.Tests

set_option Elab.async false

open Sys2Proof.Machine Sys2Proof.Safety

/-! ### Small states -/

/-- Every right GRANTED to every port. -/
def everyRight : AccessMap :=
  ⟨Vector.replicate 14 ⟨true, true⟩, Vector.replicate 14 ⟨true, true⟩, Vector.replicate 14 ⟨true, true⟩⟩

/-- Vehicle data of a standing vehicle, engine HIGH, park brake ON. -/
def standing : VehicleData := ⟨0, .high, true, false, 700, 5⟩

/-- A B40 at work: loaded, RUNNING, data FRESH, channels FRESH, every right granted, no lift, packers IDLE. -/
def ready : State :=
  { State.reset with
    bodyTimer := 50000
    access := ⟨everyRight, false⟩
    flow := ⟨.high, 16, ⟨.none, .none, .none, .none⟩, [], false⟩
    scan := { powerOnScan with converter := .ring, slots := Vector.replicate 12 ⟨some ⟨1000, 0⟩, true, some 49990⟩ }
    body :=
      { powerOnBody false true false false with
        state := .running, vehicle := some standing, lastAccepted := some 49900, fresh := true, clockSeconds := 700 }
    loader := ⟨[], none, .none, blankEeprom⟩ }

/-- A lift context in a phase, without tag and timers. -/
def lift (ph : Phase) : LiftContext :=
  { bank := .twoWheel
    stream := .residual
    tag := none
    account := none
    phase := ph
    remembered := none
    reasons := {}
    gross := none
    tare := none
    retry := 0
    outcome := .ok
    sealWasOpen := false
    dumped := false
    shakesDone := 0
    abortPhase := none
    startTime := 690
    flags := {}
    cyclesGiven := false
    phaseTimer := none
    settleTimer := none
    limitTimer := none
    dwellTimer := none
    pulse := none }

/-- The LEFT lifter with a context, its flow record as given. -/
def lifting (c : LiftContext) (r : FlowRecord) : State :=
  (ready.withContext .left (some c)).withRecord (.lifter .left) r

/-- The RESIDUAL packer in a state, its flow record as given. -/
def packing (k : PackerState) (r : FlowRecord) : State :=
  (ready.withPacker .residual { ready.packers.residual with state := k }).withRecord (.packer .residual) r

/-- s with the RESIDUAL packer's mode and pending count replaced. -/
def withMode (m : PackMode) (n : Nat) (s : State) : State :=
  s.withPacker .residual { s.packers.residual with mode := m, pending := n }

/-- s with the RESIDUAL packer's timer running since a time. -/
def withStrokeTimer (since : Nat) (s : State) : State :=
  s.withPacker .residual { s.packers.residual with timer := some since }

/-- s with a port's service state replaced. -/
def serving (p : Port) (x : Service) (s : State) : State := s.withPort p { s.port p with service := x }

/-- ready with a receive state of the CAB port. -/
def hearing (x : Receive) : State := ready.withPort .cab { ready.ports.cab with receive := x }

/-- s with the tailgate NOT_CLOSED. -/
def opened (s : State) : State := s.withBody { s.body with tailgate := ⟨false, false, none⟩ }

/-- s with the emergency stop ACTIVE. -/
def stopped (s : State) : State := s.withBody { s.body with estop := ⟨true, true, none⟩ }

/-- A line that has held a level, opposite to its reading, for 10 ms at the time of ready. -/
def moved (level : Bool) : Debounced := ⟨level, !level, some 49990⟩

/-- s with the emergency stop's line moved. -/
def estopMoved (level : Bool) (s : State) : State := s.withBody { s.body with estop := moved level }

/-- s with the tailgate's line moved. -/
def tailgateMoved (level : Bool) (s : State) : State := s.withBody { s.body with tailgate := moved level }

/-- s with LEFT's step line moved. -/
def stepMoved (level : Bool) (s : State) : State :=
  s.withBody { s.body with steps := s.body.steps.set .left (moved level) }

/-- s with the seal switch's line moved. -/
def sealMoved (level : Bool) (s : State) : State := s.withCalib { s.calib with sealSwitch := moved level }

/-- s with the body in a state. -/
def inBody (b : BodyState) (s : State) : State := s.withBody { s.body with state := b }

/-- s with the seal OPEN. -/
def unsealed (s : State) : State := s.withCalib { s.calib with sealSwitch := ⟨true, true, none⟩ }

/-- s with the LEFT calibration UNCOMMITTED. -/
def uncommitted (s : State) : State :=
  s.withCalib { s.calib with cal := { s.calib.cal with left := { s.calib.cal.left with committed := false } } }

/-- s with a zero-drift mark on the LEFT lifter. -/
def drifted (s : State) : State := s.withDrift .left ⟨true, 0, none⟩

/-- The entry of section 9.3: tag 4,471,002, account 30,218,007, class 3, allowance 50, lifts 6, quota 0. -/
def entry : AccountEntry :=
  { tag := 4471002
    account := 30218007
    stream := .residual
    profile := .twoWheel
    tariffClass := 3
    suspended := false
    quota := 0
    lifts := 6
    allowance := 50 }

/-- ready with that one entry in the table, its word in a health. -/
def listed (h : Health) : State := ready.withTable [⟨entry, h⟩]

/-- A record with a sequence. -/
def record (n : Nat) : Record :=
  { sequence := n
    lifter := .left
    profile := .twoWheel
    stream := .residual
    loadNumber := 1
    tag := none
    account := none
    gross := none
    tare := none
    net := none
    outcome := .ok
    dumpedMass := 0
    charge := none
    status := .aborted
    abortPhase := some .raiseWeigh
    sealWasOpen := false
    flags := {}
    startTime := 600
    completionTime := 610
    odometer := none }

/-- ready with one record, sequence 41, its word in a health, damaged or not. -/
def oneRecord (h : Health) (damaged : Bool) : State :=
  ready.withJournal { ready.journal with slots := [⟨⟨record 41, h⟩, damaged⟩], writePos := 1, nextSequence := 42 }

/-- ready with the power-on load at a part. -/
def loading (x : LoadState) : State := (inBody .starting ready).withLoader ⟨[], none, x, blankEeprom⟩

/-- s with one write in flight, which began 5 ms before the time of ready. -/
def writing (j : WriteJob) (s : State) : State :=
  s.withLoader { s.loader with writes := [j], writeStart := some 49995 }

/-- ready with a damaged entry before that of section 9.3. -/
def damagedFirst : State := ready.withTable [⟨{ entry with tag := 7 }, .double⟩, ⟨entry, .clean⟩]

/-- A command, and the state it leaves (its own state where it leaves none). -/
def after (i : Instr) (s : State) : State :=
  match exec i s with
  | .next t => t
  | _ => s

/-- Accepts as a Boolean. -/
def accepted (k : Kind) (p : Port) (d : List Byte) (s : State) : Bool :=
  !s.resetHeld && decide ((s.port p).service = .idle) && rightGranted s p k
    && (decide (s.body.state ≠ .starting) || takenWhileStarting k) && lengthAllowed k d.length

theorem accepts_of_accepted {k : Kind} {p : Port} {d : List Byte} {s : State} (h : accepted k p d s = true) :
    Accepts k p d s := by
  simp only [accepted, Bool.and_eq_true, Bool.or_eq_true, Bool.not_eq_true', decide_eq_true_eq] at h
  obtain ⟨⟨⟨⟨h1, h2⟩, h3⟩, h4⟩, h5⟩ := h
  exact ⟨h1, h2, h3, fun hs => h4.resolve_left (fun hn => hn hs), h5⟩

/-! ### Laws of the small states -/

theorem tableLaw_empty {s : State} (h : s.tags.table = []) : TableLaw s := by
  refine ⟨?_, ?_, ?_⟩ <;> simp [h]

theorem tableLaw_one {s : State} {w : Stored AccountEntry} (h : s.tags.table = [w]) (hw : entryFits w.content) :
    TableLaw s := by
  refine ⟨?_, ?_, ?_⟩ <;> simp [h, hw]

theorem tableLaw_damagedFirst : TableLaw damagedFirst := by
  refine ⟨?_, ?_, ?_⟩ <;>
    simp [damagedFirst, State.withTable, State.withTags, entry, entryFits]

theorem cleanTable_empty {s : State} (h : s.tags.table = []) : CleanTable s := by simp [CleanTable, h]

theorem cleanTable_one {s : State} {w : Stored AccountEntry} (h : s.tags.table = [w]) (hw : w.health = .clean) :
    CleanTable s := by simp [CleanTable, h, hw]

theorem sequenceLaw_one {s : State} {w : JournalSlot} (h : s.journal.slots = [w]) (hw : slotSequence w = 41)
    (hn : s.journal.nextSequence = 42) : SequenceLaw s := by
  refine ⟨by omega, ?_, ?_, ?_⟩
  · simp [h, hw]
  · intro i v x hv hx
    cases i <;> simp [h] at hx
  · intro x hx
    simp only [h, List.getLast?_singleton, Option.some.injEq] at hx
    rw [← hx, hw, hn]
    rfl

/-- The flow arbiter of ready is lawful, in every body state but HALTED. -/
theorem flowLaw_quiet {s : State} (h : s.flow = ready.flow) (he : effectiveEngine s.body = .high) : FlowLaw s := by
  have hr : ∀ c, s.flow.records.get c = .none := by
    intro c
    rw [h]
    rcases c with l | st
    · cases l <;> rfl
    · cases st <;> rfl
  refine ⟨?_, ?_, ?_, ?_, ?_, ?_, ?_, ?_⟩
  · intro c
    rw [hr c, h]
    simp [ready, isWaiting]
  · rw [h]
    exact List.nodup_nil
  · intro c d since hc
    rw [hr c] at hc
    cases hc
  · rw [he, h]
    rfl
  · rw [h]
    rfl
  · rw [h]
    decide
  · intro _ c
    rw [hr c]
    rfl
  · rw [h]
    decide +kernel

/-- ready with no channel timer and the data STALE: nothing is due. -/
def quiet : State :=
  (ready.withScan { ready.scan with slots := Vector.replicate 12 emptySlot }).withBody { ready.body with fresh := false }

/-- ready with LEFT's start button pressed. -/
def pressed : State := ready.withLifter .left { ready.lifter .left with startPressed := true }

/-- ready with LEFT's stop button pressed. -/
def stopButton : State := ready.withLifter .left { ready.lifter .left with stopPressed := true }

/-- A Set Bank payload with the built-in TWO_WHEEL bank's values (R27). -/
def setBankBytes : List Byte :=
  0 :: (beBytes 2 defaultBanks.twoWheel.weighAngle ++ beBytes 2 defaultBanks.twoWheel.dumpAngle
    ++ beBytes 2 defaultBanks.twoWheel.dumpDwell ++ beBytes 1 defaultBanks.twoWheel.shakeCount
    ++ beBytes 2 defaultBanks.twoWheel.raiseTimeout ++ beBytes 2 defaultBanks.twoWheel.lowerTimeout
    ++ beBytes 3 defaultBanks.twoWheel.nominalMass)

/-- A Set Payload Limits payload at the lowest values, 1,000 g each (R84). -/
def limitBytes : List Byte := [0, 0, 3, 232, 0, 0, 3, 232, 0, 0, 3, 232]

/-- s with the ring's next conversion on a channel. -/
def atChannel (ch : Fin 12) (s : State) : State := s.withScan { s.scan with ringPos := ch }

/-- s with LEFT's inserted conversion running and its buffer as given. -/
def filling (b : Buffer) : State :=
  ready.withScan { ready.scan with converter := .inserted .left, buffers := ⟨b, .empty⟩ }

/-- LEFT's gross window 3 of section 6.7: 32 samples of sum 5,869,184, smallest 183,251, largest 183,569. -/
def grossSamples : List Int :=
  183569 :: 183251 :: (List.replicate 26 183412 ++ List.replicate 4 183413)

/-- LEFT's calibration of section 6.7, as far as that section gives it. -/
def items : CalItems :=
  { defaultCalItems with
    zeroOffset := 12300
    span := 6554
    pitchZero := 2048
    rollZero := 2048
    pitchTable := (defaultCalItems.pitchTable.set 5 65576).set 6 65680
    division := ⟨500, defaultCalItems.division.fourWheel⟩
    maximum := ⟨120000, defaultCalItems.maximum.fourWheel⟩
    stabilityBand := 400
    windowSize := 32
    driftLimit := 2000 }

/-- The computation of section 6.7. -/
def computation : Computation :=
  { lifter := .left
    bank := .twoWheel
    startedAt := 5578
    calValid := true
    items := items
    size := 32
    samples := grossSamples
    copies := ⟨⟨some 2240, true⟩, ⟨some 2100, true⟩, ⟨some 2050, true⟩⟩ }

/-- The seal OPEN and the write of LEFT's span, 6,554, at its end, with the counter's successor. -/
def written : State :=
  serving .cab (.waiting 0 0x82) (writing (.counter .cab .left .span 6554 65535) (unsealed ready))

theorem inhibitLaw_ready : InhibitLaw ready := by
  refine ⟨?_, ?_, ?_, ?_⟩ <;> decide +kernel

theorem cleanJournal_one {s : State} {w : JournalSlot} (h : s.journal.slots = [w]) (hd : w.damaged = false)
    (hw : w.stored.health = .clean) : CleanJournal s := by simp [CleanJournal, h, hd, hw]

theorem newer_42 : NewerSeq (oneRecord .clean false) 42 := by
  refine ⟨by decide +kernel, 0, by decide, by decide +kernel⟩

theorem older_40 : OlderSeq (oneRecord .clean false) 40 := by
  refine ⟨by decide +kernel, ?_⟩
  rintro ⟨-, k, hk, h⟩
  have hn : (oneRecord .clean false).journal.nextSequence = 42 := rfl
  simp only [seqAfter, hn] at h
  omega


/-- LEFT in SHAKE, with its reservation, and one record in the journal. -/
def shaking : State :=
  (lifting (lift .shake) (.granted 4)).withJournal
    { (oneRecord .clean false).journal with reservations := ⟨true, false⟩ }

theorem reservationLaw_shaking : ReservationLaw shaking := by
  refine ⟨?_, by decide +kernel⟩
  rintro (_ | _) <;> decide +kernel

theorem grantLaw_running {s : State} (h : s.body.state = .running)
    (hb : ∀ c, (grantOrder s.flow).head? = some c → s.flow.supply < grantedUnits s.flow + demandOf s.flow c) :
    GrantLaw s := by
  refine ⟨fun _ => hb, fun hs => ?_⟩
  rw [h] at hs
  cases hs

theorem grantLaw_ready : GrantLaw ready := grantLaw_running rfl fun _ h => nomatch h

/-- ready with 13 of its 16 units granted, 8 and 5, to the packers. -/
def busyPump : State := ready.withFlow { ready.flow with records := ⟨.none, .none, .granted 8, .granted 5⟩ }

theorem grantLaw_busyPump : GrantLaw busyPump := grantLaw_running rfl fun _ h => nomatch h

/-- ready with a packer and then a lifter waiting. -/
def twoWaiting : State :=
  (lifting (lift .raiseWeigh) (.waiting 6 49000)).withFlow
    { ready.flow with
      records := ⟨.waiting 6 49000, .none, .waiting 8 48000, .none⟩
      waiting := [.packer .residual, .lifter .left] }

/-- The computation of section 6.7 with a band one count below its spread. -/
def unsteady : Computation := { computation with items := { items with stabilityBand := 317 } }

/-- The computation of section 6.7 with an INVALID calibration. -/
def uncalibrated : Computation := { computation with calValid := false }
/-! ### What well-formedness refuses -/

theorem test_payload_of_121_is_ill_formed : wellFormed (.startLift .cab 0 (List.replicate 121 0)) = false := by decide

theorem test_payload_of_120_is_well_formed : wellFormed (.startLift .cab 0 (List.replicate 120 0)) = true := by decide

theorem test_catalogued_kind_is_no_unknown_kind : wellFormed (.unknownKindRequest .cab 0 0x10 []) = false := by decide

theorem test_uncatalogued_kind_is_well_formed : wellFormed (.unknownKindRequest .cab 0 0x18 []) = true := by decide

theorem test_unknown_kind_payload_of_121_is_ill_formed :
    wellFormed (.unknownKindRequest .cab 0 0x18 (List.replicate 121 0)) = false := by decide

theorem test_length_byte_120_is_no_bad_frame : wellFormed (.badFrame .cab (.lengthByte 120)) = false := by decide

theorem test_length_byte_121_is_a_bad_frame : wellFormed (.badFrame .cab (.lengthByte 121)) = true := by decide

theorem test_ring_conversion_out_of_range_is_ill_formed : wellFormed (.ringConversionComplete (some 524288)) = false := by
  decide

theorem test_inserted_conversion_out_of_range_is_ill_formed :
    wellFormed (.insertedConversionComplete (some (-524289))) = false := by decide

/-! ### Frames and words (R193, R194, R216) -/

/-- The check value of the CRC R216 describes: the nine digits 1 to 9 give 0x29B1. -/
theorem test_crc_of_the_nine_digits : crc16 [49, 50, 51, 52, 53, 54, 55, 56, 57] = 0x29B1 := by decide +kernel

/-- Stop Lift RIGHT, request number 7: start, length 1, number, kind 0x11, lifter 1, CRC worked out by hand. -/
theorem test_stop_lift_frame :
    encodeFrame (.stopLift .cab 7 [1]) = some [0x7E, 1, 7, 0x11, 1, 0x57, 0x87] := by decide +kernel

theorem test_stop_lift_frame_is_judged_good :
    judgeFrame .cab ([0x7E, 1, 7, 0x11, 1, 0x57, 0x87].map fun b => (b, true)) = .good (.stopLift .cab 7 [1]) := by
  decide +kernel

theorem test_crc_mismatch_is_bad :
    judgeFrame .cab ([0x7E, 1, 7, 0x11, 1, 0x57, 0x86].map fun b => (b, true)) = .bad .crcMismatch := by decide +kernel

theorem test_length_byte_is_judged_at_once : judgeFrame .cab [(0x7E, true), (121, true)] = .bad (.lengthByte 121) := by
  decide +kernel

/-- R194: a HUNTING port discards what is no start byte, and the frame's last byte queues its request. -/
theorem test_hunting_port_takes_the_frame :
    receiveBytes .cab [0, 0x11, 0x7E, 1, 7, 0x11, 1, 0x57, 0x87] ready = ready.withPending [.stopLift .cab 7 [1]] := by
  decide +kernel

theorem test_start_byte_makes_the_port_receiving :
    receiveByte .cab 0x7E true ready = hearing (.receiving [0x7E] 50000) := by decide +kernel

/-- R194: 2 ms after the last character the gap is counted, and not before. -/
theorem test_gap_after_two_milliseconds :
    (after (.frameGapTimeout .cab) (hearing (.receiving [0x7E] 49998))).ports.cab.errors = 1
      ∧ after (.frameGapTimeout .cab) (hearing (.receiving [0x7E] 49999)) = hearing (.receiving [0x7E] 49999) := by
  decide +kernel

theorem test_kind_codes :
    Kind.code .setTagThreshold = 0x17 ∧ Kind.code .unloadComplete = 0x27 ∧ Kind.code .clearCounters = 0x45
      ∧ Kind.code .linkStatus = 0xB7 ∧ Kind.code .lockMap = 0xE2 := by decide

/-- No row of the table gives bits, so no word spells a command. -/
theorem test_no_word_spells_a_command : decodeTableWord 8 0 = none ∧ ready.withFetchWord 8 0 = ready := ⟨rfl, rfl⟩

/-! ### The weighing of section 6.7 -/

theorem test_gross_of_section_6_7 :
    computeResult computation 5580 = ⟨.ok, some 17136, some (300, 81), some 318, some 65628, 32, 5580⟩ := by
  decide +kernel

/-- The tare window: spread 204, mean 58,000, excitation copy 2,046; mass 4,577 g. -/
theorem test_tare_of_section_6_7 :
    (computeResult { computation with
      samples := 58102 :: 57898 :: List.replicate 30 58000
      copies := ⟨⟨some 2240, true⟩, ⟨some 2100, true⟩, ⟨some 2046, true⟩⟩ } 9000).mass = some 4577 := by decide +kernel

theorem test_net_of_section_6_7 : netOf 17136 4577 500 = 12500 := by decide

/-- Below 20 d, 10,000 g, a net is BELOW_MIN; at it, it is not (R121). -/
theorem test_minimum_weighing :
    (netFlags 9500 0 500 {}).belowMin = true ∧ (netFlags 10000 0 500 {}).belowMin = false := by decide

theorem test_spread_of_one_count_more_is_unstable :
    (computeResult { computation with items := { items with stabilityBand := 317 } } 0).outcome = .unstable := by
  decide +kernel

/-! ### The charges of section 9.3 -/

/-- Class 3 of section 9.3. -/
def class3 : Tariff := ⟨3500, 1200, 50, 2000⟩

theorem test_charge_of_section_9_3 : chargeOf 3 class3 .residual 12500 50 {} = (⟨263, 50⟩, {}) := by decide

theorem test_charge_within_allowance : chargeOf 3 class3 .residual 12500 200 {} = (⟨0, 125⟩, {}) := by decide

theorem test_charge_raised_to_minimum :
    chargeOf 3 class3 .residual 12500 120 {} = (⟨50, 120⟩, { minApplied := true }) := by decide

theorem test_charge_without_allowance : chargeOf 3 class3 .residual 12500 0 {} = (⟨438, 0⟩, {}) := by decide

theorem test_charge_capped :
    chargeOf 3 { class3 with cap := 400 } .residual 12500 0 {} = (⟨400, 0⟩, { capApplied := true }) := by decide

theorem test_class_0_costs_nothing : chargeOf 0 class3 .residual 12500 50 {} = (⟨0, 0⟩, {}) := by decide

theorem test_below_minimum_is_flat :
    chargeOf 3 class3 .residual 9500 50 { belowMin := true } = (⟨50, 0⟩, { belowMin := true, minApplied := true }) := by
  decide

/-! ### One step of a command -/

/-- R9: a started lift asks for 6 units; granted at once, its raise valve is on. -/
theorem test_start_lift_raises :
    (after (.startLift .cab 1 [0, 0, 0]) ready).phase .left = some .raiseWeigh
      ∧ (after (.startLift .cab 1 [0, 0, 0]) ready).flow.records.left = .granted 6
      ∧ (after (.startLift .cab 1 [0, 0, 0]) ready).lifters.left.raiseValve = true := by decide +kernel

/-- R4 check 3: an open tailgate refuses with reason 3. -/
theorem test_start_lift_with_open_tailgate :
    ((after (.startLift .cab 1 [0, 0, 0]) (opened ready)).ports.cab).service = .answering ⟨1, 0x10, [5, 3]⟩ := by
  decide +kernel

/-- R25: Stop Lift in SHAKE holds with OPERATOR and takes the valves' grant. -/
theorem test_stop_lift_holds :
    (after (.stopLift .cab 1 [0]) (lifting (lift .shake) (.granted 4))).phase .left = some .held
      ∧ (after (.stopLift .cab 1 [0]) (lifting (lift .shake) (.granted 4))).flow.records.left = .none := by
  decide +kernel

/-- R10: 103 x 225 / 512 = 45 ddeg, the rest angle 30 plus 15: the lowering ends and the record is written. -/
theorem test_lower_rest_ends_at_45_ddeg :
    (after (.ringConversionComplete (some 103)) (atChannel 2 (lifting (lift .lowerRest) (.granted 3)))).context .left = none
      ∧ (after (.ringConversionComplete (some 103))
          (atChannel 2 (lifting (lift .lowerRest) (.granted 3)))).journal.slots.length = 1 := by decide +kernel

/-- R10: 105 x 225 / 512 = 46 ddeg does not end it. -/
theorem test_lower_rest_goes_on_at_46_ddeg :
    (after (.ringConversionComplete (some 105)) (atChannel 2 (lifting (lift .lowerRest) (.granted 3)))).phase .left
      = some .lowerRest := by decide +kernel

/-- R74: the fourth pending cycle is answered FULL (7) and counted as dropped. -/
theorem test_fourth_pack_cycle_is_full :
    (after (.packCycle .cab 1 [0]) (withMode .step 3 ready)).packers.residual.dropped = 1
      ∧ (after (.packCycle .cab 1 [0]) (withMode .step 3 ready)).ports.cab.service = .answering ⟨1, 0x20, [7]⟩ := by
  decide +kernel

/-- R70: the stroke at its full reading ends the extend in the dwell. -/
theorem test_extend_ends_at_full_stroke :
    (after (.ringConversionComplete (some 3800)) (atChannel 8 (packing (.stroke .extending) (.granted 8)))).packers.residual.state
      = .stroke .dwell := by decide +kernel

/-- R53: of a packer that asked first and a lifter, the lifter is granted, 6 of 16 units, and the packer's 8 fit after
it. -/
theorem test_grants_lifters_first :
    (evaluateGrants twoWaiting).flow.records = ⟨.granted 6, .none, .granted 8, .none⟩
      ∧ (evaluateGrants (twoWaiting.withFlow { twoWaiting.flow with supply := 8 })).flow.records
        = ⟨.granted 6, .none, .waiting 8 48000, .none⟩
      ∧ (evaluateGrants (inBody .halted twoWaiting)).flow.records = twoWaiting.flow.records := by decide +kernel

/-- R95: a valid result taken before the expiry restarts the timer, and the slot stays FRESH. -/
theorem test_result_before_expiry_keeps_the_slot_fresh :
    (after (.channelFreshnessExpiry 0) (ready.withSlot 0 ⟨none, true, some 49980⟩)).slot 0 = ⟨none, false, none⟩
      ∧ ((after (.channelFreshnessExpiry 0) (after (.ringConversionComplete (some 7))
          (ready.withSlot 0 ⟨none, true, some 49980⟩))).slot 0).fresh = true := by decide +kernel

/-- R34: the emergency stop of a RUNNING body. -/
theorem test_emergency_stop_halts :
    (after .estopReadingActive (estopMoved true (packing (.stroke .extending) (.granted 8)))).packers.residual.state
        = .halted
      ∧ (after .estopReadingActive (estopMoved true ready)).body.state = .halted := by decide +kernel

/-- R33: after 9 ms, and with the line at the other level, the reading stays. -/
theorem test_reading_waits_for_its_line :
    exec .estopReadingActive ((estopMoved true ready).withBodyTimer 49999)
        = .next ((estopMoved true ready).withBodyTimer 49999)
      ∧ exec .estopReadingActive ready = .next ready := ⟨rfl, rfl⟩

/-- R44: a Vehicle Data that sets the remainder to 0 leaves no second to count. -/
theorem test_second_needs_a_full_remainder :
    (after .routeClockSecond (ready.withBody { ready.body with clockMillis := 1000 })).body.clockSeconds = 701
      ∧ exec .routeClockSecond ready = .next ready := ⟨rfl, rfl⟩

/-- R38: a closing tailgate sets both tailgate-cycled flags. -/
theorem test_closing_tailgate_cycles :
    (after .tailgateReadingClosed (tailgateMoved true ready)).body.tailgateCycled = ⟨true, true⟩ := by decide +kernel

/-- R141: quality below the threshold. -/
theorem test_low_quality_read :
    (after (.tagRead .left true 9 3) ready).tags.lastReads.left = some ⟨.lowQuality, some (9, 3), 50000⟩
      ∧ (after (.tagRead .left true 9 4) ready).tags.pendingTags.left = some ⟨9, 4, 50000⟩ := by decide +kernel

/-- R132 with the seal OPEN: the item, the counter and the EEPROM's counter block. -/
theorem test_counter_write_end_takes_the_item :
    (after (.counterWriteEnd true) written).calib.cal.left.items.span = 6554
      ∧ (after (.counterWriteEnd true) written).loader.eeprom.counter = ⟨65535, true⟩
      ∧ (after (.counterWriteEnd true) written).ports.cab.service = .answering ⟨0, 0x82, [0]⟩ := by decide +kernel

/-- R211: 4 ms after it began, the write goes on. -/
theorem test_counter_write_lasts_five_milliseconds :
    exec (.counterWriteEnd true) (written.withBodyTimer 49999) = .next (written.withBodyTimer 49999) := rfl

/-- R187: the read at index 0 removes the damaged entry and answers with the one that follows, index 0 of 1. -/
theorem test_read_by_index_passes_a_damaged_entry :
    (after (.readAccount .route 1 [1, 0, 0, 0, 0, 0]) damagedFirst).ports.route.service
      = .answering ⟨1, 0x40, 0 :: entryBytes entry ++ [0, 0, 0, 1]⟩ := by decide +kernel

/-- R178: acknowledging the only record empties the journal and is answered with 1 removed. -/
theorem test_acknowledge_removes :
    (after (.acknowledgeJournal .route 1 [0, 0, 0, 41]) (oneRecord .clean false)).journal.slots = []
      ∧ (after (.acknowledgeJournal .route 1 [0, 0, 0, 41]) (oneRecord .clean false)).ports.route.service
        = .answering ⟨1, 0x70, [0, 0, 1]⟩ := by decide +kernel

/-- R174: after 2^32-1 the sequence goes on from 1. -/
theorem test_sequence_wraps : nextSeq 4294967295 = 1 ∧ seqBefore 1 1 = 4294967295 := by decide

/-- The last row of section 11.7: the empty mask uncovers what was latched while masked. -/
theorem test_empty_mask_raises_attention :
    (after (.setEventMask .cab 1 [0, 0, 0, 0])
      (ready.withPort .cab { ready.ports.cab with latched := 1, mask := 1 })).ports.cab.attention = true := by
  decide +kernel

/-- R185: a doubly wrong entry leaves the table at its read, and the read finds none (6). -/
theorem test_damaged_entry_leaves :
    (after (.readAccount .route 1 [0, 0, 0, 68, 56, 218]) (listed .double)).tags.table = []
      ∧ (after (.readAccount .route 1 [0, 0, 0, 68, 56, 218]) (listed .double)).ports.route.service
        = .answering ⟨1, 0x40, [6, 0, 0]⟩ := by decide +kernel

/-- R212: the counter block ends STARTING. -/
theorem test_load_ends_in_running :
    (after (.loadPartRead false) (loading (.reading .counter))).body.state = .running
      ∧ (after (.loadPartRead false) (loading (.reading .counter))).calib.counter = 65535 := by decide +kernel

/-- An idle millisecond (log 1). -/
theorem test_idle_step_counts_a_millisecond :
    step quiet = .next ((quiet.withBodyTimer 50001).withBody { quiet.body with clockMillis := 1 }) := rfl

/-! ### States and operands that meet the hypotheses of the statements, clause by clause -/

theorem meets_StepTakesFrontCommand :
    ∃ (i : Instr) (rest : List Instr) (s : State),
      s.pending = i :: rest :=
  ⟨.estopReadingActive, [], (ready.withPending [.estopReadingActive]), by decide +kernel⟩

theorem meets_IdleStepPassesTime :
    (∃ (s : State),
      s.pending = []
        ∧ s.resetHeld = true)
    ∧ (∃ (s : State),
      s.pending = []
        ∧ s.resetHeld = false
        ∧ dueExpiries s = [])
    ∧ (∃ (s : State),
      s.pending = []
        ∧ s.resetHeld = false
        ∧ dueExpiries s ≠ [])
    ∧ (∃ (s : State),
      s.pending = []) :=
  ⟨⟨(ready.withResetHeld true), by decide +kernel⟩,
    ⟨quiet, by decide +kernel⟩,
    ⟨(ready.withBodyTimer 50500), by decide +kernel⟩,
    ⟨ready, by decide +kernel⟩⟩

theorem meets_FrameRoundTrip :
    (∃ (i : Instr) (p : Port) (n : Byte) (k : Byte) (d : List Byte) (s : State),
      wellFormed i = true
        ∧ i.frameParts = some (p, n, k, d)
        ∧ s.resetHeld = false)
    ∧ (∃ (i : Instr) (p : Port) (n : Byte) (k : Byte) (d : List Byte) (s : State) (m : Nat),
      wellFormed i = true
        ∧ i.frameParts = some (p, n, k, d)
        ∧ s.resetHeld = false
        ∧ m < (frameBytes n k d).length
        ∧ 0 < m)
    ∧ (∃ (i : Instr) (p : Port) (n : Byte) (k : Byte) (d : List Byte) (noise : List Byte) (s : State),
      wellFormed i = true
        ∧ i.frameParts = some (p, n, k, d)
        ∧ s.resetHeld = false
        ∧ (s.port p).receive = .hunting
        ∧ (∀ x ∈ noise, x ≠ 0x7E))
    ∧ (∃ (i : Instr) (p : Port) (n : Byte) (k : Byte) (d : List Byte) (last : Nat) (s : State) (m : Nat),
      wellFormed i = true
        ∧ i.frameParts = some (p, n, k, d)
        ∧ s.resetHeld = false
        ∧ m < (frameBytes n k d).length
        ∧ 0 < m
        ∧ (s.port p).receive = .receiving ((frameBytes n k d).take m) last)
    ∧ (∃ (i : Instr) (p : Port) (n : Byte) (k : Byte) (b : Byte) (d : List Byte) (last : Nat) (s : State),
      wellFormed i = true
        ∧ i.frameParts = some (p, n, k, d)
        ∧ s.resetHeld = false
        ∧ (s.port p).receive = .receiving [0x7E] last
        ∧ 120 < b.toNat)
    ∧ (∃ (i : Instr) (p : Port) (n : Byte) (k : Byte) (b : Byte) (d : List Byte) (last : Nat) (s : State),
      wellFormed i = true
        ∧ i.frameParts = some (p, n, k, d)
        ∧ s.resetHeld = false
        ∧ (s.port p).receive = .receiving (frameBytes n k d).dropLast last
        ∧ (frameBytes n k d).getLast? ≠ some b) :=
  ⟨⟨(.stopLift .cab 7 [1]), .cab, 7, 0x11, [1], ready, by decide +kernel⟩,
    ⟨(.stopLift .cab 7 [1]), .cab, 7, 0x11, [1], ready, 6, by decide +kernel⟩,
    ⟨(.stopLift .cab 7 [1]), .cab, 7, 0x11, [1], [0, 0x7F], ready, by decide +kernel⟩,
    ⟨(.stopLift .cab 7 [1]), .cab, 7, 0x11, [1], 49999, (hearing (.receiving [0x7E, 1, 7, 0x11] 49999)), 4,
      by decide +kernel⟩,
    ⟨(.stopLift .cab 7 [1]), .cab, 7, 0x11, 121, [1], 49999, (hearing (.receiving [0x7E] 49999)),
      by decide +kernel⟩,
    ⟨(.stopLift .cab 7 [1]), .cab, 7, 0x11, 0x86, [1], 49999, (hearing (.receiving [0x7E, 1, 7, 0x11, 1,
      0x57] 49999)), by decide +kernel⟩⟩

theorem meets_PortChecksRefuse :
    (∃ (s : State),
      s.resetHeld = true)
    ∧ (∃ (p : Port) (s : State),
      s.resetHeld = false
        ∧ (s.port p).service ≠ .idle)
    ∧ (∃ (k : Kind) (p : Port) (s : State),
      s.resetHeld = false
        ∧ (s.port p).service = .idle
        ∧ rightGranted s p k = false)
    ∧ (∃ (k : Kind) (p : Port) (s : State),
      s.resetHeld = false
        ∧ (s.port p).service = .idle
        ∧ rightGranted s p k = true
        ∧ s.body.state = .starting
        ∧ takenWhileStarting k = false)
    ∧ (∃ (k : Kind) (p : Port) (d : List Byte) (s : State),
      s.resetHeld = false
        ∧ (s.port p).service = .idle
        ∧ rightGranted s p k = true
        ∧ ((s.body.state = .starting → takenWhileStarting k = true))
        ∧ lengthAllowed k d.length = false) :=
  ⟨⟨(ready.withResetHeld true), by decide +kernel⟩,
    ⟨.cab, (serving .cab (.waiting 1 2) ready), by decide +kernel⟩,
    ⟨.putTariff, .cab, (ready.withAccess powerOnAccess), by decide +kernel⟩,
    ⟨.startLift, .cab, (inBody .starting ready), by decide +kernel⟩,
    ⟨.bodyStatus, .cab, [0], ready, by decide +kernel⟩⟩

theorem meets_LinkEventsCounted :
    (∃ (s : State),
      s.resetHeld = false)
    ∧ (∃ (p : Port) (s : State),
      s.resetHeld = false
        ∧ due s (gapOf (s.port p).receive) 2 = true)
    ∧ (∃ (p : Port) (s : State),
      due s (gapOf (s.port p).receive) 2 = false)
    ∧ (∃ (p : Port) (s : State),
      (s.port p).service ≠ .idle)
    ∧ (∃ (p : Port) (s : State),
      (s.port p).service = .idle)
    ∧ (∃ (p : Port) (a : Answer) (s : State),
      (s.port p).service = .answering a)
    ∧ (∃ (p : Port) (s : State),
      (∀ b, (s.port p).service ≠ .answering b))
    ∧ (∃ (p : Port) (s : State),
      s.resetHeld = false
        ∧ (s.port p).service = .idle)
    ∧ (∃ (p : Port) (s : State),
      s.resetHeld = false
        ∧ (s.port p).service ≠ .idle) :=
  ⟨⟨ready, by decide +kernel⟩,
    ⟨.cab, (hearing (.receiving [0x7E] 49998)), by decide +kernel⟩,
    ⟨.cab, (hearing (.receiving [0x7E] 49999)), by decide +kernel⟩,
    ⟨.cab, (serving .cab (.waiting 1 2) ready), by decide +kernel⟩,
    ⟨.cab, ready, by decide +kernel⟩,
    ⟨.cab, ⟨0, 0, []⟩, (serving .cab (.answering ⟨0, 0, []⟩) ready), by decide +kernel⟩,
    ⟨.cab, ready, (fun _ h => nomatch h)⟩,
    ⟨.cab, ready, by decide +kernel⟩,
    ⟨.cab, (serving .cab (.waiting 1 2) ready), by decide +kernel⟩⟩

theorem meets_StatusReadsAnswer :
    (∃ (p : Port) (d : List Byte) (s : State),
      Accepts .bodyStatus p d s)
    ∧ (∃ (p : Port) (d : List Byte) (s : State) (l : Lifter),
      Accepts .lifterStatus p d s
        ∧ lifterArg (byteAt d 0) = some l)
    ∧ (∃ (p : Port) (d : List Byte) (s : State),
      Accepts .lifterStatus p d s
        ∧ lifterArg (byteAt d 0) = none)
    ∧ (∃ (p : Port) (d : List Byte) (s : State),
      Accepts .flowStatus p d s)
    ∧ (∃ (p : Port) (d : List Byte) (s : State) (st : Stream),
      Accepts .compartmentStatus p d s
        ∧ streamArg (byteAt d 0) = some st)
    ∧ (∃ (p : Port) (d : List Byte) (s : State),
      Accepts .compartmentStatus p d s
        ∧ streamArg (byteAt d 0) = none)
    ∧ (∃ (p : Port) (d : List Byte) (s : State),
      Accepts .weighStatus p d s)
    ∧ (∃ (p : Port) (d : List Byte) (s : State),
      Accepts .tagStatus p d s)
    ∧ (∃ (p : Port) (d : List Byte) (s : State),
      Accepts .integrityStatus p d s)
    ∧ (∃ (p : Port) (n : Byte) (d : List Byte) (s : State) (t : State),
      Accepts .linkStatus p d s
        ∧ t = s.withPort p { s.port p with receive := .hunting, service := .waiting n Kind.linkStatus.code })
    ∧ (∃ (p : Port) (d : List Byte) (s : State),
      Accepts .readEvents p d s)
    ∧ (∃ (p : Port) (d : List Byte) (s : State),
      Accepts .scanStatus p d s)
    ∧ (∃ (p : Port) (d : List Byte) (s : State),
      Accepts .readAccess p d s)
    ∧ (∃ (p : Port) (d : List Byte) (s : State),
      Accepts .journalStatus p d s)
    ∧ (∃ (p : Port) (d : List Byte) (s : State),
      Accepts .readCounter p d s)
    ∧ (∃ (p : Port) (d : List Byte) (s : State),
      Accepts .readIdentity p d s)
    ∧ (∃ (p : Port) (d : List Byte) (s : State) (l : Lifter),
      Accepts .readCalibration p d s
        ∧ lifterArg (byteAt d 0) = some l)
    ∧ (∃ (p : Port) (d : List Byte) (s : State),
      Accepts .readCalibration p d s
        ∧ lifterArg (byteAt d 0) = none)
    ∧ (∃ (p : Port) (d : List Byte) (s : State),
      Accepts .readTariff p d s
        ∧ byteAt d 0 ≤ 15)
    ∧ (∃ (p : Port) (d : List Byte) (s : State),
      Accepts .readTariff p d s
        ∧ 15 < byteAt d 0) :=
  ⟨⟨.cab, [], ready, accepts_of_accepted (by decide +kernel)⟩,
    ⟨.cab, [1], ready, .right, accepts_of_accepted (by decide +kernel), by decide +kernel⟩,
    ⟨.cab, [2], ready, accepts_of_accepted (by decide +kernel), by decide +kernel⟩,
    ⟨.cab, [], ready, accepts_of_accepted (by decide +kernel)⟩,
    ⟨.cab, [1], ready, .recycle, accepts_of_accepted (by decide +kernel), by decide +kernel⟩,
    ⟨.cab, [2], ready, accepts_of_accepted (by decide +kernel), by decide +kernel⟩,
    ⟨.cab, [], ready, accepts_of_accepted (by decide +kernel)⟩,
    ⟨.cab, [], ready, accepts_of_accepted (by decide +kernel)⟩,
    ⟨.cab, [], ready, accepts_of_accepted (by decide +kernel)⟩,
    ⟨.cab, 0, [], ready, (serving .cab (.waiting 0 0xB7) ready), accepts_of_accepted (by decide +kernel), rfl⟩,
    ⟨.cab, [], ready, accepts_of_accepted (by decide +kernel)⟩,
    ⟨.cab, [], ready, accepts_of_accepted (by decide +kernel)⟩,
    ⟨.cab, [], ready, accepts_of_accepted (by decide +kernel)⟩,
    ⟨.cab, [], ready, accepts_of_accepted (by decide +kernel)⟩,
    ⟨.cab, [], ready, accepts_of_accepted (by decide +kernel)⟩,
    ⟨.cab, [], ready, accepts_of_accepted (by decide +kernel)⟩,
    ⟨.cab, [0], ready, .left, accepts_of_accepted (by decide +kernel), by decide +kernel⟩,
    ⟨.cab, [2], ready, accepts_of_accepted (by decide +kernel), by decide +kernel⟩,
    ⟨.cab, [15], ready, accepts_of_accepted (by decide +kernel), by decide +kernel⟩,
    ⟨.cab, [16], ready, accepts_of_accepted (by decide +kernel), by decide +kernel⟩⟩

theorem meets_ReadsChangeNothing :
    ∃ (k : Kind),
      kindReads k = true :=
  ⟨.readAccount, by decide +kernel⟩

theorem meets_StopLiftHolds :
    (∃ (p : Port) (d : List Byte) (l : Lifter) (s : State),
      Accepts .stopLift p d s
        ∧ lifterArg (byteAt d 0) = some l)
    ∧ (∃ (p : Port) (d : List Byte) (s : State),
      Accepts .stopLift p d s
        ∧ lifterArg (byteAt d 0) = none)
    ∧ (∃ (l : Lifter) (s : State),
      s.resetHeld = false
        ∧ (s.lifter l).stopPressed = false) :=
  ⟨⟨.cab, [0], .left, (lifting (lift .shake) (.granted 4)), accepts_of_accepted (by decide +kernel),
    by decide +kernel⟩,
    ⟨.cab, [2], ready, accepts_of_accepted (by decide +kernel), by decide +kernel⟩,
    ⟨.left, ready, by decide +kernel⟩⟩

theorem meets_StartLiftAccepted :
    ∃ (p : Port) (d : List Byte) (l : Lifter) (arg : Option Stream) (tag : Option Nat) (entry : Option AccountEntry)
      (s : State) (s1 : State),
      Accepts .startLift p d s
        ∧ lifterArg (byteAt d 0) = some l
        ∧ optionalStreamArg (byteAt d 1) (byteAt d 2) = some arg
        ∧ s.context l = none
        ∧ s.flow.records.get (.lifter l) = .none
        ∧ firstFailure (startChecks l s) = none
        ∧ tagPermission l s = (.granted tag entry, s1)
        ∧ firstFailure (settleChecks (streamFor (s.lifter l) arg entry) s1) = none :=
  ⟨.cab, [0, 1, 1], .left, (some .recycle), none, none, ready, ready, accepts_of_accepted (by decide +kernel),
    by decide +kernel⟩

theorem meets_StartLiftRefused :
    (∃ (p : Port) (d : List Byte) (l : Lifter) (arg : Option Stream) (r : Reason) (s : State),
      Accepts .startLift p d s
        ∧ lifterArg (byteAt d 0) = some l
        ∧ optionalStreamArg (byteAt d 1) (byteAt d 2) = some arg
        ∧ s.context l = none
        ∧ firstFailure (startChecks l s) = some r)
    ∧ (∃ (p : Port) (d : List Byte) (l : Lifter) (arg : Option Stream) (r : Reason) (s : State) (s1 : State),
      Accepts .startLift p d s
        ∧ lifterArg (byteAt d 0) = some l
        ∧ optionalStreamArg (byteAt d 1) (byteAt d 2) = some arg
        ∧ s.context l = none
        ∧ firstFailure (startChecks l s) = none
        ∧ tagPermission l s = (.refused r, s1))
    ∧ (∃ (p : Port) (d : List Byte) (l : Lifter) (arg : Option Stream) (tag : Option Nat)
      (entry : Option AccountEntry) (r : Reason) (s : State) (s1 : State),
      Accepts .startLift p d s
        ∧ lifterArg (byteAt d 0) = some l
        ∧ optionalStreamArg (byteAt d 1) (byteAt d 2) = some arg
        ∧ s.context l = none
        ∧ firstFailure (startChecks l s) = none
        ∧ tagPermission l s = (.granted tag entry, s1)
        ∧ firstFailure (settleChecks (streamFor (s.lifter l) arg entry) s1) = some r)
    ∧ (∃ (p : Port) (d : List Byte) (l : Lifter) (arg : Option Stream) (s : State),
      Accepts .startLift p d s
        ∧ lifterArg (byteAt d 0) = some l
        ∧ optionalStreamArg (byteAt d 1) (byteAt d 2) = some arg
        ∧ s.context l ≠ none)
    ∧ (∃ (p : Port) (d : List Byte) (s : State),
      Accepts .startLift p d s
        ∧ (lifterArg (byteAt d 0) = none ∨ optionalStreamArg (byteAt d 1) (byteAt d 2) = none)) :=
  ⟨⟨.cab, [0, 0, 0], .left, none, .tailgateOpen, (opened ready), accepts_of_accepted (by decide +kernel),
    by decide +kernel⟩,
    ⟨.cab, [0, 0, 0], .left, none, .untaggedRefused, (ready.withTags { ready.tags with untaggedAllow := false }),
      (ready.withTags { ready.tags with untaggedAllow := false }), accepts_of_accepted (by decide +kernel),
      by decide +kernel⟩,
    ⟨.cab, [0, 0, 0], .left, none, none, none, .payloadLimit, (ready.withBodyLimit 0), (ready.withBodyLimit 0),
      accepts_of_accepted (by decide +kernel), by decide +kernel⟩,
    ⟨.cab, [0, 0, 0], .left, none, (lifting (lift .shake) .none), accepts_of_accepted (by decide +kernel),
      by decide +kernel⟩,
    ⟨.cab, [0, 1, 2], ready, accepts_of_accepted (by decide +kernel), by decide +kernel⟩⟩

theorem meets_RearStartPressActs :
    (∃ (l : Lifter) (s : State) (s0 : State),
      s0 = s.withLifter l { s.lifter l with startPressed := true }
        ∧ s.resetHeld = false
        ∧ (s.lifter l).startPressed = true)
    ∧ (∃ (l : Lifter) (s : State) (s0 : State),
      s0 = s.withLifter l { s.lifter l with startPressed := true }
        ∧ s.resetHeld = false
        ∧ (s.lifter l).startPressed = false
        ∧ (s.lifter l).stopPressed = true)
    ∧ (∃ (l : Lifter) (tag : Option Nat) (entry : Option AccountEntry) (s : State) (s0 : State) (s1 : State),
      s0 = s.withLifter l { s.lifter l with startPressed := true }
        ∧ s.resetHeld = false
        ∧ (s.lifter l).startPressed = false
        ∧ (s.lifter l).stopPressed = false
        ∧ s.context l = none
        ∧ s.flow.records.get (.lifter l) = .none
        ∧ firstFailure (startChecks l s) = none
        ∧ tagPermission l s0 = (.granted tag entry, s1)
        ∧ firstFailure (settleChecks (streamFor (s.lifter l) none entry) s1) = none)
    ∧ (∃ (l : Lifter) (r : Reason) (s : State) (s0 : State),
      s0 = s.withLifter l { s.lifter l with startPressed := true }
        ∧ s.resetHeld = false
        ∧ (s.lifter l).startPressed = false
        ∧ (s.lifter l).stopPressed = false
        ∧ s.context l = none
        ∧ firstFailure (startChecks l s) = some r)
    ∧ (∃ (l : Lifter) (r : Reason) (s : State) (s0 : State) (s1 : State),
      s0 = s.withLifter l { s.lifter l with startPressed := true }
        ∧ s.resetHeld = false
        ∧ (s.lifter l).startPressed = false
        ∧ (s.lifter l).stopPressed = false
        ∧ s.context l = none
        ∧ firstFailure (startChecks l s) = none
        ∧ tagPermission l s0 = (.refused r, s1))
    ∧ (∃ (l : Lifter) (tag : Option Nat) (entry : Option AccountEntry) (r : Reason) (s : State) (s0 : State)
      (s1 : State),
      s0 = s.withLifter l { s.lifter l with startPressed := true }
        ∧ s.resetHeld = false
        ∧ (s.lifter l).startPressed = false
        ∧ (s.lifter l).stopPressed = false
        ∧ s.context l = none
        ∧ firstFailure (startChecks l s) = none
        ∧ tagPermission l s0 = (.granted tag entry, s1)
        ∧ firstFailure (settleChecks (streamFor (s.lifter l) none entry) s1) = some r)
    ∧ (∃ (l : Lifter) (r : Reason) (c : LiftContext) (s : State) (s0 : State),
      s0 = s.withLifter l { s.lifter l with startPressed := true }
        ∧ s.resetHeld = false
        ∧ (s.lifter l).startPressed = false
        ∧ (s.lifter l).stopPressed = false
        ∧ s.context l = some c
        ∧ c.phase = .held
        ∧ firstFailure (resumeChecks l c.reasons s) = some r)
    ∧ (∃ (l : Lifter) (c : LiftContext) (ph : Phase) (s : State) (s0 : State),
      s0 = s.withLifter l { s.lifter l with startPressed := true }
        ∧ moves ph
        ∧ s.resetHeld = false
        ∧ (s.lifter l).startPressed = false
        ∧ (s.lifter l).stopPressed = false
        ∧ s.context l = some c
        ∧ c.phase = .held
        ∧ firstFailure (resumeChecks l c.reasons s) = none
        ∧ c.remembered = some ph
        ∧ s.flow.records.get (.lifter l) = .none)
    ∧ (∃ (l : Lifter) (c : LiftContext) (ph : Phase) (s : State) (s0 : State),
      s0 = s.withLifter l { s.lifter l with startPressed := true }
        ∧ s.resetHeld = false
        ∧ (s.lifter l).startPressed = false
        ∧ (s.lifter l).stopPressed = false
        ∧ s.context l = some c
        ∧ c.phase = .held
        ∧ firstFailure (resumeChecks l c.reasons s) = none
        ∧ c.remembered = some ph
        ∧ isWeigh ph = true
        ∧ (s.weigh.drift.get l).disabled = false)
    ∧ (∃ (l : Lifter) (c : LiftContext) (ph : Phase) (s : State) (s0 : State),
      s0 = s.withLifter l { s.lifter l with startPressed := true }
        ∧ s.resetHeld = false
        ∧ (s.lifter l).startPressed = false
        ∧ (s.lifter l).stopPressed = false
        ∧ s.context l = some c
        ∧ c.phase = .held
        ∧ firstFailure (resumeChecks l c.reasons s) = none
        ∧ c.remembered = some ph
        ∧ s.flow.records.get (.lifter l) = .none
        ∧ isWeigh ph = true
        ∧ (s.weigh.drift.get l).disabled = true)
    ∧ (∃ (l : Lifter) (c : LiftContext) (s : State) (s0 : State),
      s0 = s.withLifter l { s.lifter l with startPressed := true }
        ∧ s.resetHeld = false
        ∧ (s.lifter l).startPressed = false
        ∧ (s.lifter l).stopPressed = false
        ∧ s.context l = some c
        ∧ c.phase = .held
        ∧ firstFailure (resumeChecks l c.reasons s) = none
        ∧ c.remembered = some .dumpDwell)
    ∧ (∃ (l : Lifter) (c : LiftContext) (s : State) (s0 : State),
      s0 = s.withLifter l { s.lifter l with startPressed := true }
        ∧ s.resetHeld = false
        ∧ (s.lifter l).startPressed = false
        ∧ (s.lifter l).stopPressed = false
        ∧ s.context l = some c
        ∧ c.phase ≠ .held)
    ∧ (∃ (l : Lifter) (s : State) (s0 : State),
      s0 = s.withLifter l { s.lifter l with startPressed := true }
        ∧ s.resetHeld = false
        ∧ (s.lifter l).stopPressed = true) :=
  ⟨⟨.left, pressed, pressed, rfl, by decide +kernel⟩,
    ⟨.left, stopButton, (stopButton.withLifter .left { stopButton.lifter .left with startPressed := true }), rfl,
      by decide +kernel⟩,
    ⟨.left, none, none, ready, pressed, pressed, rfl, by decide +kernel⟩,
    ⟨.left, .tailgateOpen, (opened ready),
      ((opened ready).withLifter .left { (opened ready).lifter .left with startPressed := true }), rfl,
      by decide +kernel⟩,
    ⟨.left, .untaggedRefused, (ready.withTags { ready.tags with untaggedAllow := false }),
      (pressed.withTags { ready.tags with untaggedAllow := false }),
      (pressed.withTags { ready.tags with untaggedAllow := false }), rfl, by decide +kernel⟩,
    ⟨.left, none, none, .payloadLimit, (ready.withBodyLimit 0), (pressed.withBodyLimit 0),
      (pressed.withBodyLimit 0), rfl, by decide +kernel⟩,
    ⟨.left, .tailgate, { lift .held with remembered := some .raiseWeigh, reasons := { tailgate := true } },
      (opened (lifting { lift .held with remembered := some .raiseWeigh, reasons := { tailgate := true } } .none)),
      ((opened (lifting { lift .held with remembered := some .raiseWeigh, reasons := { tailgate := true } } .none)).withLifter .left { (opened (lifting { lift .held with remembered := some .raiseWeigh, reasons := { tailgate := true } } .none)).lifter .left with startPressed := true }),
      rfl, by decide +kernel⟩,
    ⟨.left, { lift .held with remembered := some .raiseDump, reasons := { operator := true } }, .raiseDump,
      (lifting { lift .held with remembered := some .raiseDump, reasons := { operator := true } } .none),
      ((lifting { lift .held with remembered := some .raiseDump, reasons := { operator := true } } .none).withLifter .left { (lifting { lift .held with remembered := some .raiseDump, reasons := { operator := true } } .none).lifter .left with startPressed := true }),
      rfl, by unfold moves; decide, by decide +kernel⟩,
    ⟨.left, { lift .held with remembered := some .tareWeigh, reasons := { operator := true } }, .tareWeigh,
      (lifting { lift .held with remembered := some .tareWeigh, reasons := { operator := true } } .none),
      ((lifting { lift .held with remembered := some .tareWeigh, reasons := { operator := true } } .none).withLifter .left { (lifting { lift .held with remembered := some .tareWeigh, reasons := { operator := true } } .none).lifter .left with startPressed := true }),
      rfl, by decide +kernel⟩,
    ⟨.left, { lift .held with remembered := some .grossWeigh, reasons := { operator := true } }, .grossWeigh,
      (drifted (lifting { lift .held with remembered := some .grossWeigh, reasons := { operator := true } } .none)),
      ((drifted (lifting { lift .held with remembered := some .grossWeigh, reasons := { operator := true } } .none)).withLifter .left { (drifted (lifting { lift .held with remembered := some .grossWeigh, reasons := { operator := true } } .none)).lifter .left with startPressed := true }),
      rfl, by decide +kernel⟩,
    ⟨.left, { lift .held with remembered := some .dumpDwell, reasons := { operator := true } },
      (lifting { lift .held with remembered := some .dumpDwell, reasons := { operator := true } } .none),
      ((lifting { lift .held with remembered := some .dumpDwell, reasons := { operator := true } } .none).withLifter .left { (lifting { lift .held with remembered := some .dumpDwell, reasons := { operator := true } } .none).lifter .left with startPressed := true }),
      rfl, by decide +kernel⟩,
    ⟨.left, (lift .shake), (lifting (lift .shake) .none),
      ((lifting (lift .shake) .none).withLifter .left { (lifting (lift .shake) .none).lifter .left with startPressed := true }),
      rfl, by decide +kernel⟩,
    ⟨.left, stopButton, (stopButton.withLifter .left { stopButton.lifter .left with startPressed := true }), rfl,
      by decide +kernel⟩⟩

theorem meets_TagPermissionDecided :
    ∃ (s : State),
      TableLaw s
        ∧ CleanTable s :=
  ⟨(listed .clean), tableLaw_one rfl (by unfold entryFits; decide), cleanTable_one rfl rfl⟩

theorem meets_ResumeLiftDecided :
    (∃ (p : Port) (d : List Byte) (l : Lifter) (s : State),
      Accepts .resumeLift p d s
        ∧ lifterArg (byteAt d 0) = some l
        ∧ s.phase l ≠ some .held)
    ∧ (∃ (p : Port) (d : List Byte) (s : State),
      Accepts .resumeLift p d s
        ∧ lifterArg (byteAt d 0) = none)
    ∧ (∃ (p : Port) (d : List Byte) (l : Lifter) (c : LiftContext) (r : Reason) (s : State),
      Accepts .resumeLift p d s
        ∧ lifterArg (byteAt d 0) = some l
        ∧ s.context l = some c
        ∧ c.phase = .held
        ∧ firstFailure (resumeChecks l c.reasons s) = some r)
    ∧ (∃ (p : Port) (d : List Byte) (l : Lifter) (c : LiftContext) (ph : Phase) (s : State),
      Accepts .resumeLift p d s
        ∧ moves ph
        ∧ lifterArg (byteAt d 0) = some l
        ∧ s.context l = some c
        ∧ c.phase = .held
        ∧ c.remembered = some ph
        ∧ firstFailure (resumeChecks l c.reasons s) = none
        ∧ s.flow.records.get (.lifter l) = .none)
    ∧ (∃ (p : Port) (d : List Byte) (l : Lifter) (c : LiftContext) (ph : Phase) (s : State),
      Accepts .resumeLift p d s
        ∧ lifterArg (byteAt d 0) = some l
        ∧ s.context l = some c
        ∧ c.phase = .held
        ∧ c.remembered = some ph
        ∧ firstFailure (resumeChecks l c.reasons s) = none
        ∧ isWeigh ph = true
        ∧ (s.weigh.drift.get l).disabled = false)
    ∧ (∃ (p : Port) (d : List Byte) (l : Lifter) (c : LiftContext) (ph : Phase) (s : State),
      Accepts .resumeLift p d s
        ∧ lifterArg (byteAt d 0) = some l
        ∧ s.context l = some c
        ∧ c.phase = .held
        ∧ c.remembered = some ph
        ∧ firstFailure (resumeChecks l c.reasons s) = none
        ∧ s.flow.records.get (.lifter l) = .none
        ∧ isWeigh ph = true
        ∧ (s.weigh.drift.get l).disabled = true)
    ∧ (∃ (p : Port) (d : List Byte) (l : Lifter) (c : LiftContext) (s : State),
      Accepts .resumeLift p d s
        ∧ lifterArg (byteAt d 0) = some l
        ∧ s.context l = some c
        ∧ c.phase = .held
        ∧ c.remembered = some .dumpDwell
        ∧ firstFailure (resumeChecks l c.reasons s) = none) :=
  ⟨⟨.cab, [0], .left, ready, accepts_of_accepted (by decide +kernel), by decide +kernel⟩,
    ⟨.cab, [2], ready, accepts_of_accepted (by decide +kernel), by decide +kernel⟩,
    ⟨.cab, [0], .left, { lift .held with remembered := some .raiseWeigh, reasons := { tailgate := true } },
      .tailgate, (opened (lifting { lift .held with remembered := some .raiseWeigh, reasons := { tailgate := true } } .none)),
      accepts_of_accepted (by decide +kernel), by decide +kernel⟩,
    ⟨.cab, [0], .left, { lift .held with remembered := some .raiseDump, reasons := { operator := true } },
      .raiseDump, (lifting { lift .held with remembered := some .raiseDump, reasons := { operator := true } } .none),
      accepts_of_accepted (by decide +kernel), by unfold moves; decide, by decide +kernel⟩,
    ⟨.cab, [0], .left, { lift .held with remembered := some .tareWeigh, reasons := { operator := true } },
      .tareWeigh, (lifting { lift .held with remembered := some .tareWeigh, reasons := { operator := true } } .none),
      accepts_of_accepted (by decide +kernel), by decide +kernel⟩,
    ⟨.cab, [0], .left, { lift .held with remembered := some .grossWeigh, reasons := { operator := true } },
      .grossWeigh, (drifted (lifting { lift .held with remembered := some .grossWeigh, reasons := { operator := true } } .none)),
      accepts_of_accepted (by decide +kernel), by decide +kernel⟩,
    ⟨.cab, [0], .left, { lift .held with remembered := some .dumpDwell, reasons := { operator := true } },
      (lifting { lift .held with remembered := some .dumpDwell, reasons := { operator := true } } .none),
      accepts_of_accepted (by decide +kernel), by decide +kernel⟩⟩

theorem meets_AbortLiftReturns :
    (∃ (p : Port) (d : List Byte) (l : Lifter) (s : State),
      Accepts .abortLift p d s
        ∧ lifterArg (byteAt d 0) = some l
        ∧ s.context l = none)
    ∧ (∃ (p : Port) (d : List Byte) (s : State),
      Accepts .abortLift p d s
        ∧ lifterArg (byteAt d 0) = none)
    ∧ (∃ (p : Port) (d : List Byte) (l : Lifter) (s : State),
      Accepts .abortLift p d s
        ∧ lifterArg (byteAt d 0) = some l
        ∧ s.body.state = .halted
        ∧ (s.phase l = some .held ∨ s.phase l = some .fault))
    ∧ (∃ (p : Port) (d : List Byte) (l : Lifter) (c : LiftContext) (ph : Phase) (s : State),
      Accepts .abortLift p d s
        ∧ FlowLaw s
        ∧ lifterArg (byteAt d 0) = some l
        ∧ s.context l = some c
        ∧ (¬ (s.body.state = .halted ∧ (c.phase = .held ∨ c.phase = .fault)))
        ∧ ((if c.phase = .held ∨ c.phase = .fault then c.remembered = some ph else c.phase = ph))) :=
  ⟨⟨.cab, [0], .left, ready, accepts_of_accepted (by decide +kernel), by decide +kernel⟩,
    ⟨.cab, [2], ready, accepts_of_accepted (by decide +kernel), by decide +kernel⟩,
    ⟨.cab, [0], .left, (inBody .halted (lifting { lift .held with remembered := some .shake, reasons := { operator := true } } .none)),
      accepts_of_accepted (by decide +kernel), by decide +kernel⟩,
    ⟨.cab, [0], .left, { lift .fault with remembered := some .shake }, .shake,
      (lifting { lift .fault with remembered := some .shake } .none), accepts_of_accepted (by decide +kernel),
      flowLaw_quiet rfl rfl, by decide +kernel⟩⟩

theorem meets_SettingsRequests :
    (∃ (p : Port) (d : List Byte) (l : Lifter) (sel : Selection) (s : State),
      Accepts .selectProfile p d s
        ∧ lifterArg (byteAt d 0) = some l
        ∧ selectionArg (byteAt d 1) = some sel)
    ∧ (∃ (p : Port) (d : List Byte) (s : State),
      Accepts .selectProfile p d s
        ∧ (lifterArg (byteAt d 0) = none ∨ selectionArg (byteAt d 1) = none))
    ∧ (∃ (p : Port) (d : List Byte) (b : Profile) (bank : Bank) (s : State),
      Accepts .setBank p d s
        ∧ profileArg (byteAt d 0) = some b
        ∧ bankArg d = some bank)
    ∧ (∃ (p : Port) (d : List Byte) (s : State),
      Accepts .setBank p d s
        ∧ (profileArg (byteAt d 0) = none ∨ bankArg d = none))
    ∧ (∃ (p : Port) (d : List Byte) (l : Lifter) (ls : LifterSettings) (s : State),
      Accepts .setLifterDefaults p d s
        ∧ lifterArg (byteAt d 0) = some l
        ∧ lifterSettingsArg d = some ls)
    ∧ (∃ (p : Port) (d : List Byte) (s : State),
      Accepts .setLifterDefaults p d s
        ∧ (lifterArg (byteAt d 0) = none ∨ lifterSettingsArg d = none))
    ∧ (∃ (p : Port) (d : List Byte) (s : State),
      Accepts .setTagThreshold p d s)
    ∧ (∃ (p : Port) (d : List Byte) (st : Stream) (m : PackMode) (s : State),
      Accepts .setPackMode p d s
        ∧ streamArg (byteAt d 0) = some st
        ∧ modeArg (byteAt d 1) = some m
        ∧ ((s.packer st).state ≠ .idle ∨ s.loader.writes.any isSettingsJob = true))
    ∧ (∃ (p : Port) (d : List Byte) (st : Stream) (m : PackMode) (s : State),
      Accepts .setPackMode p d s
        ∧ streamArg (byteAt d 0) = some st
        ∧ modeArg (byteAt d 1) = some m
        ∧ (s.packer st).state = .idle
        ∧ s.loader.writes.any isSettingsJob = false
        ∧ ((s.packer st).mode ≠ .step ∨ m = .step ∨ (s.packer st).pending = 0 ∨ s.body.state ≠ .running ∨
          s.body.tailgate.reading = false))
    ∧ (∃ (p : Port) (d : List Byte) (st : Stream) (m : PackMode) (s : State),
      Accepts .setPackMode p d s
        ∧ streamArg (byteAt d 0) = some st
        ∧ modeArg (byteAt d 1) = some m
        ∧ (s.packer st).state = .idle
        ∧ s.loader.writes.any isSettingsJob = false
        ∧ (s.packer st).mode = .step
        ∧ m ≠ .step
        ∧ 0 < (s.packer st).pending
        ∧ s.body.state = .running
        ∧ s.body.tailgate.reading = true
        ∧ s.flow.records.get (.packer st) = .none)
    ∧ (∃ (p : Port) (d : List Byte) (s : State),
      Accepts .setPackMode p d s
        ∧ (streamArg (byteAt d 0) = none ∨ modeArg (byteAt d 1) = none))
    ∧ (∃ (p : Port) (d : List Byte) (st : Stream) (ps : PackerSettings) (s : State),
      Accepts .setPackerSettings p d s
        ∧ streamArg (byteAt d 0) = some st
        ∧ packerSettingsArg d = some ps)
    ∧ (∃ (p : Port) (d : List Byte) (s : State),
      Accepts .setPackerSettings p d s
        ∧ (streamArg (byteAt d 0) = none ∨ packerSettingsArg d = none))
    ∧ (∃ (p : Port) (d : List Byte) (s : State),
      Accepts .setPayloadLimits p d s
        ∧ limitsArg d = none)
    ∧ (∃ (p : Port) (d : List Byte) (x : Nat) (y : Nat) (z : Nat) (s : State),
      Accepts .setPayloadLimits p d s
        ∧ limitsArg d = some (x, y, z)
        ∧ s.loader.writes.any isSettingsJob = true)
    ∧ (∃ (p : Port) (d : List Byte) (x : Nat) (y : Nat) (z : Nat) (s : State),
      Accepts .setPayloadLimits p d s
        ∧ limitsArg d = some (x, y, z)
        ∧ s.loader.writes.any isSettingsJob = false) :=
  ⟨⟨.cab, [0, 2], .left, .auto, ready, accepts_of_accepted (by decide +kernel), by decide +kernel⟩,
    ⟨.cab, [0, 3], ready, accepts_of_accepted (by decide +kernel), by decide +kernel⟩,
    ⟨.cab, setBankBytes, .twoWheel, defaultBanks.twoWheel, ready, accepts_of_accepted (by decide +kernel),
      by decide +kernel⟩,
    ⟨.cab, (2 :: setBankBytes.tail), ready, accepts_of_accepted (by decide +kernel), by decide +kernel⟩,
    ⟨.cab, [0, 0, 0, 0, 2, 30], .left, ⟨true, .residual, .twoWheel, .auto, 30⟩, ready,
      accepts_of_accepted (by decide +kernel), by decide +kernel⟩,
    ⟨.cab, [0, 2, 0, 0, 2, 30], ready, accepts_of_accepted (by decide +kernel), by decide +kernel⟩,
    ⟨.cab, [15], ready, accepts_of_accepted (by decide +kernel)⟩,
    ⟨.cab, [0, 2], .residual, .step, (packing .halted .none), accepts_of_accepted (by decide +kernel),
      by decide +kernel⟩,
    ⟨.cab, [0, 2], .residual, .step, ready, accepts_of_accepted (by decide +kernel), by decide +kernel⟩,
    ⟨.cab, [0, 0], .residual, .single, (withMode .step 2 ready), accepts_of_accepted (by decide +kernel),
      by decide +kernel⟩,
    ⟨.cab, [0, 3], ready, accepts_of_accepted (by decide +kernel), by decide +kernel⟩,
    ⟨.cab, [0, 0, 200, 14, 216, 12, 228, 1], .residual, ⟨200, 3800, 3300, 1⟩, ready,
      accepts_of_accepted (by decide +kernel), by decide +kernel⟩,
    ⟨.cab, [2, 0, 200, 14, 216, 12, 228, 1], ready, accepts_of_accepted (by decide +kernel), by decide +kernel⟩,
    ⟨.cab, [0, 0, 3, 231, 0, 0, 3, 232, 0, 0, 3, 232], ready, accepts_of_accepted (by decide +kernel),
      by decide +kernel⟩,
    ⟨.cab, limitBytes, 1000, 1000, 1000, (ready.withWrites [.settings .route defaultSettings]),
      accepts_of_accepted (by decide +kernel), by decide +kernel⟩,
    ⟨.cab, limitBytes, 1000, 1000, 1000, ready, accepts_of_accepted (by decide +kernel), by decide +kernel⟩⟩

theorem meets_ArmReadingEndsPhase :
    ∃ (l : Lifter) (c : LiftContext) (v : Int) (u : Nat) (target : Nat) (s : State),
      s.scan.converter = .ring
        ∧ s.scan.ringPos = armAngle l
        ∧ inRing s.scan (armAngle l) = true
        ∧ 0 ≤ v
        ∧ v ≤ 4095
        ∧ s.context l = some c
        ∧ s.flow.records.get (.lifter l) = .granted u
        ∧ phaseTarget l c s = some target :=
  ⟨.left, (lift .raiseDump), 4095, 6, defaultBanks.twoWheel.dumpAngle, (atChannel 2 (lifting (lift .raiseDump)
    (.granted 6))), by decide +kernel⟩

theorem meets_LiftCompletes :
    (∃ (l : Lifter) (c : LiftContext) (v : Int) (u : Nat) (s : State),
      TableLaw s
        ∧ CleanTable s
        ∧ s.context l = some c
        ∧ s.scan.converter = .ring
        ∧ s.scan.ringPos = armAngle l
        ∧ 0 ≤ v
        ∧ v ≤ 4095
        ∧ s.flow.records.get (.lifter l) = .granted u
        ∧ c.phase = .lowerRest
        ∧ (v * 225).toNat / 512 ≤ (s.lifter l).settings.restAngle + 15)
    ∧ (∃ (l : Lifter) (c : LiftContext) (v : Int) (u : Nat) (s : State),
      TableLaw s
        ∧ CleanTable s
        ∧ s.context l = some c
        ∧ s.scan.converter = .ring
        ∧ s.scan.ringPos = armAngle l
        ∧ 0 ≤ v
        ∧ v ≤ 4095
        ∧ s.flow.records.get (.lifter l) = .granted u
        ∧ c.phase = .returning
        ∧ (v * 225).toNat / 512 ≤ (s.lifter l).settings.restAngle + 15)
    ∧ (∃ (l : Lifter) (c : LiftContext) (s : State),
      TableLaw s
        ∧ CleanTable s
        ∧ s.context l = some c
        ∧ c.phase = .returning
        ∧ due s c.phaseTimer 4000 = true)
    ∧ (∃ (l : Lifter) (c : LiftContext) (s : State),
      TableLaw s
        ∧ CleanTable s
        ∧ s.context l = some c
        ∧ (c.phase ≠ .returning ∨ due s c.phaseTimer 4000 = false)) :=
  ⟨⟨.left, (lift .lowerRest), 103, 3, (atChannel 2 (lifting (lift .lowerRest) (.granted 3))), tableLaw_empty rfl,
    cleanTable_empty rfl, by decide +kernel⟩,
    ⟨.left, (lift .returning), 0, 3, (atChannel 2 (lifting (lift .returning) (.granted 3))), tableLaw_empty rfl,
      cleanTable_empty rfl, by decide +kernel⟩,
    ⟨.left, { lift .returning with phaseTimer := some 46000 },
      (lifting { lift .returning with phaseTimer := some 46000 } (.granted 3)), tableLaw_empty rfl,
      cleanTable_empty rfl, by decide +kernel⟩,
    ⟨.left, { lift .returning with phaseTimer := some 46001 },
      (lifting { lift .returning with phaseTimer := some 46001 } (.granted 3)), tableLaw_empty rfl,
      cleanTable_empty rfl, by decide +kernel⟩⟩

theorem meets_LifterTimersExpire :
    (∃ (l : Lifter) (c : LiftContext) (s : State),
      s.context l = some c
        ∧ isMotion c.phase = true
        ∧ c.phase ≠ .shake
        ∧ (due s c.phaseTimer (if c.phase = .raiseWeigh ∨
          c.phase = .raiseDump then (s.banks.get c.bank).raiseTimeout else (s.banks.get c.bank).lowerTimeout) = true))
    ∧ (∃ (l : Lifter) (c : LiftContext) (s : State),
      s.context l = some c
        ∧ (isMotion c.phase = false ∨ c.phase = .shake ∨ due s c.phaseTimer (if c.phase = .raiseWeigh ∨
          c.phase = .raiseDump then (s.banks.get c.bank).raiseTimeout else (s.banks.get c.bank).lowerTimeout) = false))
    ∧ (∃ (l : Lifter) (c : LiftContext) (s : State),
      s.context l = some c
        ∧ due s c.settleTimer 200 = true
        ∧ s.scan.buffers.get l = .empty)
    ∧ (∃ (l : Lifter) (c : LiftContext) (s : State),
      s.context l = some c
        ∧ due s c.settleTimer 200 = false)
    ∧ (∃ (l : Lifter) (c : LiftContext) (s : State),
      s.context l = some c
        ∧ due s c.limitTimer 1500 = true
        ∧ isWeigh c.phase = true
        ∧ s.flow.records.get (.lifter l) = .none)
    ∧ (∃ (l : Lifter) (c : LiftContext) (s : State),
      s.context l = some c
        ∧ due s c.limitTimer 1500 = false) :=
  ⟨⟨.left, { lift .raiseWeigh with phaseTimer := some 44000 },
    (lifting { lift .raiseWeigh with phaseTimer := some 44000 } (.granted 6)), by decide +kernel⟩,
    ⟨.left, (lift .grossWeigh), (lifting (lift .grossWeigh) .none), by decide +kernel⟩,
    ⟨.left, { lift .grossWeigh with settleTimer := some 49800 },
      (lifting { lift .grossWeigh with settleTimer := some 49800 } .none), by decide +kernel⟩,
    ⟨.left, { lift .grossWeigh with settleTimer := some 49801 },
      (lifting { lift .grossWeigh with settleTimer := some 49801 } .none), by decide +kernel⟩,
    ⟨.left, { lift .tareWeigh with limitTimer := some 48500 },
      (lifting { lift .tareWeigh with limitTimer := some 48500 } .none), by decide +kernel⟩,
    ⟨.left, { lift .tareWeigh with limitTimer := some 48501 },
      (lifting { lift .tareWeigh with limitTimer := some 48501 } .none), by decide +kernel⟩⟩

theorem meets_DumpDwellAndShake :
    (∃ (l : Lifter) (c : LiftContext) (s : State),
      FlowLaw s
        ∧ s.context l = some c
        ∧ due s c.dwellTimer (s.banks.get c.bank).dumpDwell = true
        ∧ s.flow.records.get (.lifter l) = .none)
    ∧ (∃ (l : Lifter) (c : LiftContext) (s : State),
      s.context l = some c
        ∧ due s c.dwellTimer (s.banks.get c.bank).dumpDwell = false)
    ∧ (∃ (l : Lifter) (c : LiftContext) (x : Nat) (s : State),
      s.context l = some c
        ∧ c.pulse = some (.raise, x)
        ∧ x + 150 ≤ s.bodyTimer)
    ∧ (∃ (l : Lifter) (c : LiftContext) (x : Nat) (s : State),
      s.context l = some c
        ∧ c.pulse = some (.lower, x)
        ∧ x + 150 ≤ s.bodyTimer
        ∧ c.shakesDone + 1 ≠ (s.banks.get c.bank).shakeCount)
    ∧ (∃ (l : Lifter) (c : LiftContext) (x : Nat) (s : State),
      s.context l = some c
        ∧ c.pulse = some (.lower, x)
        ∧ x + 150 ≤ s.bodyTimer
        ∧ c.shakesDone + 1 = (s.banks.get c.bank).shakeCount
        ∧ isGranted (s.flow.records.get (.lifter l)) = true)
    ∧ (∃ (l : Lifter) (c : LiftContext) (s : State),
      s.context l = some c
        ∧ due s (c.pulse.map Prod.snd) 150 = false) :=
  ⟨⟨.left, { lift .dumpDwell with dwellTimer := some (50000 - defaultBanks.twoWheel.dumpDwell) },
    (lifting { lift .dumpDwell with dwellTimer := some (50000 - defaultBanks.twoWheel.dumpDwell) } .none),
    flowLaw_quiet rfl rfl, by decide +kernel⟩,
    ⟨.left, { lift .dumpDwell with dwellTimer := some (50001 - defaultBanks.twoWheel.dumpDwell) },
      (lifting { lift .dumpDwell with dwellTimer := some (50001 - defaultBanks.twoWheel.dumpDwell) } .none),
      by decide +kernel⟩,
    ⟨.left, { lift .shake with pulse := some (.raise, 49850) }, 49850,
      (lifting { lift .shake with pulse := some (.raise, 49850) } (.granted 4)), by decide +kernel⟩,
    ⟨.left, { lift .shake with pulse := some (.lower, 49850) }, 49850,
      (lifting { lift .shake with pulse := some (.lower, 49850) } (.granted 4)), by decide +kernel⟩,
    ⟨.left, { lift .shake with pulse := some (.lower, 49850), shakesDone := 1 }, 49850,
      (lifting { lift .shake with pulse := some (.lower, 49850), shakesDone := 1 } (.granted 4)),
      by decide +kernel⟩,
    ⟨.left, { lift .shake with pulse := some (.raise, 49851) }, (lifting { lift .shake with pulse := some (.raise, 49851) } (.granted 4)),
      by decide +kernel⟩⟩

theorem meets_PackCycleCounts :
    (∃ (p : Port) (d : List Byte) (s : State),
      Accepts .packCycle p d s
        ∧ streamArg (byteAt d 0) = none)
    ∧ (∃ (p : Port) (d : List Byte) (st : Stream) (s : State),
      Accepts .packCycle p d s
        ∧ streamArg (byteAt d 0) = some st
        ∧ 3 ≤ (s.packer st).pending)
    ∧ (∃ (p : Port) (d : List Byte) (st : Stream) (s : State),
      Accepts .packCycle p d s
        ∧ ¬ CycleStarts s st
        ∧ streamArg (byteAt d 0) = some st
        ∧ (s.packer st).pending < 3)
    ∧ (∃ (p : Port) (d : List Byte) (st : Stream) (s : State),
      Accepts .packCycle p d s
        ∧ CycleStarts s st
        ∧ streamArg (byteAt d 0) = some st
        ∧ (s.packer st).pending < 3
        ∧ s.flow.records.get (.packer st) = .none) :=
  ⟨⟨.cab, [2], ready, accepts_of_accepted (by decide +kernel), by decide +kernel⟩,
    ⟨.cab, [0], .residual, (withMode .single 3 ready), accepts_of_accepted (by decide +kernel), by decide +kernel⟩,
    ⟨.cab, [0], .residual, (withMode .step 2 ready), accepts_of_accepted (by decide +kernel),
      by unfold CycleStarts; decide +kernel, by decide +kernel⟩,
    ⟨.cab, [0], .residual, (withMode .single 2 ready), accepts_of_accepted (by decide +kernel),
      by unfold CycleStarts; decide +kernel, by decide +kernel⟩⟩

theorem meets_PackStopByState :
    (∃ (p : Port) (d : List Byte) (s : State),
      Accepts .packStop p d s
        ∧ streamArg (byteAt d 0) = none)
    ∧ (∃ (p : Port) (d : List Byte) (st : Stream) (s : State),
      Accepts .packStop p d s
        ∧ streamArg (byteAt d 0) = some st
        ∧ ((s.packer st).state = .idle ∨ (s.packer st).state = .halted))
    ∧ (∃ (p : Port) (d : List Byte) (st : Stream) (s : State),
      Accepts .packStop p d s
        ∧ streamArg (byteAt d 0) = some st
        ∧ (s.packer st).state = .stroke .extending)
    ∧ (∃ (p : Port) (d : List Byte) (st : Stream) (s : State),
      Accepts .packStop p d s
        ∧ streamArg (byteAt d 0) = some st
        ∧ ((s.packer st).state = .stroke .dwell ∨ (s.packer st).state = .stroke .retracting))
    ∧ (∃ (p : Port) (d : List Byte) (st : Stream) (s : State),
      Accepts .packStop p d s
        ∧ streamArg (byteAt d 0) = some st
        ∧ (s.packer st).state = .paused .extended
        ∧ s.flow.records.get (.packer st) = .none)
    ∧ (∃ (p : Port) (d : List Byte) (st : Stream) (s : State),
      Accepts .packStop p d s
        ∧ streamArg (byteAt d 0) = some st
        ∧ (s.packer st).state = .paused .retracted)
    ∧ (∃ (p : Port) (d : List Byte) (st : Stream) (ph : StrokePhase) (r : PackHoldReasons) (s : State),
      Accepts .packStop p d s
        ∧ streamArg (byteAt d 0) = some st
        ∧ (s.packer st).state = .held ph r
        ∧ s.body.tailgate.reading = true
        ∧ s.flow.records.get (.packer st) = .none)
    ∧ (∃ (p : Port) (d : List Byte) (st : Stream) (ph : StrokePhase) (r : PackHoldReasons) (s : State),
      Accepts .packStop p d s
        ∧ streamArg (byteAt d 0) = some st
        ∧ (s.packer st).state = .held ph r
        ∧ s.body.tailgate.reading = false)
    ∧ (∃ (p : Port) (d : List Byte) (st : Stream) (s : State),
      Accepts .packStop p d s
        ∧ streamArg (byteAt d 0) = some st
        ∧ (s.packer st).state = .fault
        ∧ s.body.state = .running)
    ∧ (∃ (p : Port) (d : List Byte) (st : Stream) (s : State),
      Accepts .packStop p d s
        ∧ streamArg (byteAt d 0) = some st
        ∧ (s.packer st).state = .fault
        ∧ s.body.state = .halted) :=
  ⟨⟨.cab, [2], ready, accepts_of_accepted (by decide +kernel), by decide +kernel⟩,
    ⟨.cab, [0], .residual, ready, accepts_of_accepted (by decide +kernel), by decide +kernel⟩,
    ⟨.cab, [0], .residual, (packing (.stroke .extending) (.granted 8)), accepts_of_accepted (by decide +kernel),
      by decide +kernel⟩,
    ⟨.cab, [0], .residual, (packing (.stroke .dwell) (.granted 8)), accepts_of_accepted (by decide +kernel),
      by decide +kernel⟩,
    ⟨.cab, [0], .residual, (packing (.paused .extended) .none), accepts_of_accepted (by decide +kernel),
      by decide +kernel⟩,
    ⟨.cab, [0], .residual, (packing (.paused .retracted) .none), accepts_of_accepted (by decide +kernel),
      by decide +kernel⟩,
    ⟨.cab, [0], .residual, .extending, ⟨true, false⟩, (packing (.held .extending ⟨true, false⟩) .none),
      accepts_of_accepted (by decide +kernel), by decide +kernel⟩,
    ⟨.cab, [0], .residual, .extending, ⟨true, false⟩, (opened (packing (.held .extending ⟨true, false⟩) .none)),
      accepts_of_accepted (by decide +kernel), by decide +kernel⟩,
    ⟨.cab, [0], .residual, (packing .fault .none), accepts_of_accepted (by decide +kernel), by decide +kernel⟩,
    ⟨.cab, [0], .residual, (inBody .halted (packing .fault .none)), accepts_of_accepted (by decide +kernel),
      by decide +kernel⟩⟩

theorem meets_PackStepAndResume :
    (∃ (p : Port) (d : List Byte) (s : State),
      Accepts .packStep p d s
        ∧ streamArg (byteAt d 0) = none)
    ∧ (∃ (p : Port) (d : List Byte) (st : Stream) (s : State),
      Accepts .packStep p d s
        ∧ streamArg (byteAt d 0) = some st
        ∧ (s.packer st).mode ≠ .step)
    ∧ (∃ (p : Port) (d : List Byte) (st : Stream) (ph : StrokePhase) (r : PackHoldReasons) (s : State),
      Accepts .packStep p d s
        ∧ streamArg (byteAt d 0) = some st
        ∧ (s.packer st).mode = .step
        ∧ ((s.packer st).state = .stroke ph ∨ (s.packer st).state = .held ph r ∨ (s.packer st).state = .fault))
    ∧ (∃ (p : Port) (d : List Byte) (st : Stream) (s : State),
      Accepts .packStep p d s
        ∧ streamArg (byteAt d 0) = some st
        ∧ (s.packer st).mode = .step
        ∧ (s.packer st).state = .halted)
    ∧ (∃ (p : Port) (d : List Byte) (st : Stream) (s : State),
      Accepts .packStep p d s
        ∧ streamArg (byteAt d 0) = some st
        ∧ (s.packer st).mode = .step
        ∧ ((s.packer st).state = .idle ∨ (s.packer st).state = .paused .extended ∨
          (s.packer st).state = .paused .retracted)
        ∧ s.body.tailgate.reading = false)
    ∧ (∃ (p : Port) (d : List Byte) (st : Stream) (s : State),
      Accepts .packStep p d s
        ∧ streamArg (byteAt d 0) = some st
        ∧ (s.packer st).mode = .step
        ∧ ((s.packer st).state = .idle ∨ (s.packer st).state = .paused .retracted)
        ∧ s.body.tailgate.reading = true
        ∧ s.flow.records.get (.packer st) = .none)
    ∧ (∃ (p : Port) (d : List Byte) (st : Stream) (s : State),
      Accepts .packStep p d s
        ∧ streamArg (byteAt d 0) = some st
        ∧ (s.packer st).mode = .step
        ∧ (s.packer st).state = .paused .extended
        ∧ s.body.tailgate.reading = true
        ∧ s.flow.records.get (.packer st) = .none)
    ∧ (∃ (p : Port) (d : List Byte) (s : State),
      Accepts .packResume p d s
        ∧ streamArg (byteAt d 0) = none)
    ∧ (∃ (p : Port) (d : List Byte) (st : Stream) (ph : StrokePhase) (r : PackHoldReasons) (s : State),
      Accepts .packResume p d s
        ∧ (∀ ph r, (s.packer st).state ≠ .held ph r)
        ∧ streamArg (byteAt d 0) = some st)
    ∧ (∃ (p : Port) (d : List Byte) (st : Stream) (ph : StrokePhase) (r : PackHoldReasons) (s : State),
      Accepts .packResume p d s
        ∧ streamArg (byteAt d 0) = some st
        ∧ (s.packer st).state = .held ph r
        ∧ s.body.tailgate.reading = false)
    ∧ (∃ (p : Port) (d : List Byte) (st : Stream) (ph : StrokePhase) (r : PackHoldReasons) (s : State),
      Accepts .packResume p d s
        ∧ streamArg (byteAt d 0) = some st
        ∧ (s.packer st).state = .held ph r
        ∧ s.body.tailgate.reading = true
        ∧ s.flow.records.get (.packer st) = .none) :=
  ⟨⟨.cab, [2], ready, accepts_of_accepted (by decide +kernel), by decide +kernel⟩,
    ⟨.cab, [0], .residual, ready, accepts_of_accepted (by decide +kernel), by decide +kernel⟩,
    ⟨.cab, [0], .residual, .extending, ⟨true, false⟩, (withMode .step 0 (packing .fault .none)),
      accepts_of_accepted (by decide +kernel), by decide +kernel⟩,
    ⟨.cab, [0], .residual, (withMode .step 0 (packing .halted .none)), accepts_of_accepted (by decide +kernel),
      by decide +kernel⟩,
    ⟨.cab, [0], .residual, (opened (withMode .step 0 ready)), accepts_of_accepted (by decide +kernel),
      by decide +kernel⟩,
    ⟨.cab, [0], .residual, (withMode .step 1 ready), accepts_of_accepted (by decide +kernel), by decide +kernel⟩,
    ⟨.cab, [0], .residual, (withMode .step 0 (packing (.paused .extended) .none)),
      accepts_of_accepted (by decide +kernel), by decide +kernel⟩,
    ⟨.cab, [2], ready, accepts_of_accepted (by decide +kernel), by decide +kernel⟩,
    ⟨.cab, [0], .residual, .extending, ⟨true, false⟩, ready, accepts_of_accepted (by decide +kernel),
      (by intros; exact fun h => nomatch h), by decide +kernel⟩,
    ⟨.cab, [0], .residual, .extending, ⟨true, false⟩, (opened (packing (.held .extending ⟨true, false⟩) .none)),
      accepts_of_accepted (by decide +kernel), by decide +kernel⟩,
    ⟨.cab, [0], .residual, .extending, ⟨true, false⟩, (packing (.held .extending ⟨true, false⟩) .none),
      accepts_of_accepted (by decide +kernel), by decide +kernel⟩⟩

theorem meets_UnloadCompleteEmpties :
    (∃ (p : Port) (d : List Byte) (s : State),
      Accepts .unloadComplete p d s
        ∧ streamArg (byteAt d 0) = none)
    ∧ (∃ (p : Port) (d : List Byte) (st : Stream) (r : Reason) (s : State),
      Accepts .unloadComplete p d s
        ∧ streamArg (byteAt d 0) = some st
        ∧ firstFailure (unloadChecks st s) = some r)
    ∧ (∃ (p : Port) (d : List Byte) (st : Stream) (s : State),
      Accepts .unloadComplete p d s
        ∧ streamArg (byteAt d 0) = some st
        ∧ firstFailure (unloadChecks st s) = none)
    ∧ (∃ (p : Port) (d : List Byte) (st : Stream) (s : State),
      Accepts .unloadComplete p d s
        ∧ LimitLaw s
        ∧ streamArg (byteAt d 0) = some st
        ∧ firstFailure (unloadChecks st s) = none) :=
  ⟨⟨.cab, [2], ready, accepts_of_accepted (by decide +kernel), by decide +kernel⟩,
    ⟨.cab, [0], .residual, .tailgateNotCycled, ready, accepts_of_accepted (by decide +kernel), by decide +kernel⟩,
    ⟨.cab, [0], .residual, (ready.withBody { ready.body with tailgateCycled := ⟨true, false⟩ }),
      accepts_of_accepted (by decide +kernel), by decide +kernel⟩,
    ⟨.cab, [0], .residual, (ready.withBody { ready.body with tailgateCycled := ⟨true, false⟩ }),
      accepts_of_accepted (by decide +kernel), (by intro st; cases st <;> decide +kernel), by decide +kernel⟩⟩

theorem meets_PackerTimersExpire :
    (∃ (st : Stream) (s : State),
      (s.packer st).state = .stroke .extending
        ∧ due s (s.packer st).timer 8000 = true)
    ∧ (∃ (st : Stream) (s : State),
      (s.packer st).state = .stroke .retracting
        ∧ due s (s.packer st).timer 6000 = true)
    ∧ (∃ (st : Stream) (s : State),
      (s.packer st).state = .stroke .dwell
        ∧ due s (s.packer st).timer 500 = true
        ∧ isGranted (s.flow.records.get (.packer st)) = true
        ∧ (s.packer st).mode = .step
        ∧ (s.packer st).stopRequested = false)
    ∧ (∃ (st : Stream) (s : State),
      (s.packer st).state = .stroke .dwell
        ∧ due s (s.packer st).timer 500 = true
        ∧ isGranted (s.flow.records.get (.packer st)) = true
        ∧ ((s.packer st).mode ≠ .step ∨ (s.packer st).stopRequested = true))
    ∧ (∃ (st : Stream) (s : State),
      ((s.packer st).state ≠ .stroke .extending ∨ due s (s.packer st).timer 8000 = false))
    ∧ (∃ (st : Stream) (s : State),
      ((s.packer st).state ≠ .stroke .retracting ∨ due s (s.packer st).timer 6000 = false))
    ∧ (∃ (st : Stream) (s : State),
      ((s.packer st).state ≠ .stroke .dwell ∨ due s (s.packer st).timer 500 = false)) :=
  ⟨⟨.residual, (withStrokeTimer 42000 (packing (.stroke .extending) (.granted 8))), by decide +kernel⟩,
    ⟨.residual, (withStrokeTimer 44000 (packing (.stroke .retracting) (.granted 5))), by decide +kernel⟩,
    ⟨.residual, (withMode .step 0 (withStrokeTimer 49500 (packing (.stroke .dwell) (.granted 8)))),
      by decide +kernel⟩,
    ⟨.residual, (withStrokeTimer 49500 (packing (.stroke .dwell) (.granted 8))), by decide +kernel⟩,
    ⟨.residual, (withStrokeTimer 42001 (packing (.stroke .extending) (.granted 8))), by decide +kernel⟩,
    ⟨.residual, (withStrokeTimer 44001 (packing (.stroke .retracting) (.granted 5))), by decide +kernel⟩,
    ⟨.residual, (withStrokeTimer 49501 (packing (.stroke .dwell) (.granted 8))), by decide +kernel⟩⟩

theorem meets_PackerReadingsEndStrokes :
    (∃ (st : Stream) (ch : Fin 12) (v : Int) (q : Int) (r : Int) (u : Nat) (s : State),
      s.scan.converter = .ring
        ∧ s.scan.ringPos = ch
        ∧ inRing s.scan ch = true
        ∧ 0 ≤ r
        ∧ r ≤ 4095
        ∧ ((ch = strokeChannel st ∧ r = v ∧ channelFresh s (pressureChannel st) = true ∧
          channelValue s (pressureChannel st) = some q ∨ ch = pressureChannel st ∧ r = q ∧
          channelFresh s (strokeChannel st) = true ∧ channelValue s (strokeChannel st) = some v))
        ∧ s.flow.records.get (.packer st) = .granted u)
    ∧ (∃ (st : Stream) (ch : Fin 12) (v : Int) (q : Int) (r : Int) (s : State),
      s.scan.converter = .ring
        ∧ s.scan.ringPos = ch
        ∧ inRing s.scan ch = true
        ∧ 0 ≤ r
        ∧ r ≤ 4095
        ∧ ((ch = strokeChannel st ∧ r = v ∧ channelFresh s (pressureChannel st) = true ∧
          channelValue s (pressureChannel st) = some q ∨ ch = pressureChannel st ∧ r = q ∧
          channelFresh s (strokeChannel st) = true ∧ channelValue s (strokeChannel st) = some v))
        ∧ isGranted (s.flow.records.get (.packer st)) = false) :=
  ⟨⟨.residual, 8, 3800, 1000, 3800, 8, (atChannel 8 (packing (.stroke .extending) (.granted 8))),
    by decide +kernel⟩,
    ⟨.residual, 8, 3800, 1000, 3800, (atChannel 8 (packing (.stroke .extending) (.waiting 8 49000))),
      by decide +kernel⟩⟩

theorem meets_ResumeBodyDecided :
    (∃ (p : Port) (d : List Byte) (s : State),
      Accepts .resumeBody p d s
        ∧ s.body.state ≠ .halted)
    ∧ (∃ (p : Port) (d : List Byte) (s : State),
      Accepts .resumeBody p d s
        ∧ s.body.state = .halted
        ∧ s.body.estop.reading = true)
    ∧ (∃ (p : Port) (d : List Byte) (s : State),
      Accepts .resumeBody p d s
        ∧ s.body.state = .halted
        ∧ s.body.estop.reading = false) :=
  ⟨⟨.cab, [], ready, accepts_of_accepted (by decide +kernel), by decide +kernel⟩,
    ⟨.cab, [], (stopped (inBody .halted ready)), accepts_of_accepted (by decide +kernel), by decide +kernel⟩,
    ⟨.cab, [], (inBody .halted ready), accepts_of_accepted (by decide +kernel), by decide +kernel⟩⟩

theorem meets_BodyResetEndsLifts :
    ∃ (p : Port) (d : List Byte) (s : State),
      Accepts .bodyReset p d s
        ∧ TableLaw s
        ∧ CleanTable s
        ∧ SequenceLaw s
        ∧ ReservationLaw s :=
  ⟨.cab, [], shaking, accepts_of_accepted (by decide +kernel), tableLaw_empty rfl, cleanTable_empty rfl,
    sequenceLaw_one rfl rfl rfl, reservationLaw_shaking⟩

theorem meets_SettingsAreSaved :
    (∃ (p : Port) (d : List Byte) (s : State),
      Accepts .saveSettings p d s
        ∧ ((s.context .left ≠ none ∨ s.context .right ≠ none ∨ s.packers.residual.state ≠ .idle ∨
          s.packers.recycle.state ≠ .idle ∨ s.loader.writes.any isSettingsJob = true)))
    ∧ (∃ (p : Port) (d : List Byte) (s : State),
      Accepts .saveSettings p d s
        ∧ s.context .left = none
        ∧ s.context .right = none
        ∧ s.packers.residual.state = .idle
        ∧ s.packers.recycle.state = .idle
        ∧ s.loader.writes.any isSettingsJob = false)
    ∧ (∃ (q : Port) (m : Byte) (k : Byte) (x : Settings) (rest : List WriteJob) (s : State),
      s.loader.writes = .settings q x :: rest
        ∧ due s s.loader.writeStart 5 = true
        ∧ (s.port q).service = .waiting m k)
    ∧ (∃ (q : Port) (m : Byte) (k : Byte) (x : Settings) (rest : List WriteJob) (s : State),
      s.loader.writes = .settings q x :: rest
        ∧ due s s.loader.writeStart 5 = true
        ∧ (s.port q).service = .waiting m k)
    ∧ (∃ (q : Port) (x : Settings) (rest : List WriteJob) (s : State),
      (∀ q x rest, s.loader.writes ≠ .settings q x :: rest))
    ∧ (∃ (s : State),
      due s s.loader.writeStart 5 = false) :=
  ⟨⟨.cab, [], (lifting (lift .shake) .none), accepts_of_accepted (by decide +kernel), by decide +kernel⟩,
    ⟨.cab, [], ready, accepts_of_accepted (by decide +kernel), by decide +kernel⟩,
    ⟨.cab, 0, 0, defaultSettings, [], (serving .cab (.waiting 0 0)
      (writing (.settings .cab defaultSettings) ready)), by decide +kernel⟩,
    ⟨.cab, 0, 0, defaultSettings, [], (serving .cab (.waiting 0 0)
      (writing (.settings .cab defaultSettings) ready)), by decide +kernel⟩,
    ⟨.cab, defaultSettings, [], ready, (by intros; exact fun h => nomatch h)⟩,
    ⟨((writing (.settings .cab defaultSettings) ready).withBodyTimer 49999), by decide +kernel⟩⟩

theorem meets_VehicleDataTaken :
    (∃ (p : Port) (d : List Byte) (s : State),
      Accepts .vehicleData p d s
        ∧ vehicleArg d = none)
    ∧ (∃ (p : Port) (d : List Byte) (v : VehicleData) (s : State),
      Accepts .vehicleData p d s
        ∧ vehicleArg d = some v
        ∧ effectiveEngine s.body = v.engine
        ∧ v.speed ≤ 50)
    ∧ (∃ (p : Port) (d : List Byte) (v : VehicleData) (s : State),
      Accepts .vehicleData p d s
        ∧ FlowLaw s
        ∧ vehicleArg d = some v)
    ∧ (∃ (s : State),
      due s (if s.body.fresh then s.body.lastAccepted else none) 500 = true)
    ∧ (∃ (s : State),
      due s (if s.body.fresh then s.body.lastAccepted else none) 500 = false)
    ∧ (∃ (s : State),
      s.resetHeld = false
        ∧ 1000 ≤ s.body.clockMillis)
    ∧ (∃ (s : State),
      s.body.clockMillis < 1000) :=
  ⟨⟨.chassis, [9, 247, 2, 0, 1, 0, 0, 2, 188, 0, 0, 5], ready, accepts_of_accepted (by decide +kernel),
    by decide +kernel⟩,
    ⟨.chassis, [0, 0, 2, 0, 1, 0, 0, 2, 188, 0, 0, 5], standing, ready, accepts_of_accepted (by decide +kernel),
      by decide +kernel⟩,
    ⟨.chassis, [0, 51, 0, 0, 1, 0, 0, 2, 188, 0, 0, 5], ⟨51, .off, true, false, 700, 5⟩, ready,
      accepts_of_accepted (by decide +kernel), flowLaw_quiet rfl rfl, by decide +kernel⟩,
    ⟨(ready.withBodyTimer 50400), by decide +kernel⟩,
    ⟨(ready.withBodyTimer 50399), by decide +kernel⟩,
    ⟨(ready.withBody { ready.body with clockMillis := 1000 }), by decide +kernel⟩,
    ⟨(ready.withBody { ready.body with clockMillis := 999 }), by decide +kernel⟩⟩

theorem meets_EmergencyStopHalts :
    (∃ (s : State),
      s.resetHeld = false
        ∧ settledTo true s s.body.estop = true
        ∧ s.body.state = .running)
    ∧ (∃ (s : State),
      s.resetHeld = false
        ∧ settledTo true s s.body.estop = true
        ∧ s.body.state ≠ .running)
    ∧ (∃ (s : State),
      s.resetHeld = false
        ∧ settledTo false s s.body.estop = true)
    ∧ (∃ (s : State),
      s.resetHeld = false
        ∧ settledTo true s s.body.estop = false)
    ∧ (∃ (s : State),
      s.resetHeld = false
        ∧ settledTo false s s.body.estop = false) :=
  ⟨⟨(estopMoved true ready), by decide +kernel⟩,
    ⟨(estopMoved true (inBody .starting ready)), by decide +kernel⟩,
    ⟨(estopMoved false ready), by decide +kernel⟩,
    ⟨((estopMoved true ready).withBodyTimer 49999), by decide +kernel⟩,
    ⟨((estopMoved false ready).withBodyTimer 49999), by decide +kernel⟩⟩

theorem meets_TailgateAndStepsHold :
    (∃ (s : State),
      FlowLaw s
        ∧ s.resetHeld = false
        ∧ settledTo false s s.body.tailgate = true)
    ∧ (∃ (s : State),
      s.resetHeld = false
        ∧ settledTo true s s.body.tailgate = true)
    ∧ (∃ (l : Lifter) (c : LiftContext) (s : State),
      s.resetHeld = false
        ∧ settledTo true s (s.body.steps.get l) = true
        ∧ s.context l = some c
        ∧ isHoldable c.phase = true)
    ∧ (∃ (l : Lifter) (c : LiftContext) (s : State),
      s.resetHeld = false
        ∧ settledTo true s (s.body.steps.get l) = true
        ∧ s.context l = some c
        ∧ c.phase = .held
        ∧ c.reasons.step = false)
    ∧ (∃ (l : Lifter) (c : LiftContext) (s : State),
      s.resetHeld = false
        ∧ settledTo true s (s.body.steps.get l) = true
        ∧ (s.context l = none ∨ s.phase l = some .fault ∨ s.phase l = some .held ∧
          (s.context l).any (fun c => c.reasons.step) = true))
    ∧ (∃ (l : Lifter) (s : State),
      s.resetHeld = false
        ∧ settledTo false s (s.body.steps.get l) = true)
    ∧ (∃ (s : State),
      s.resetHeld = false
        ∧ settledTo false s s.body.tailgate = false)
    ∧ (∃ (s : State),
      s.resetHeld = false
        ∧ settledTo true s s.body.tailgate = false)
    ∧ (∃ (l : Lifter) (s : State),
      s.resetHeld = false
        ∧ settledTo true s (s.body.steps.get l) = false)
    ∧ (∃ (l : Lifter) (s : State),
      s.resetHeld = false
        ∧ settledTo false s (s.body.steps.get l) = false) :=
  ⟨⟨(tailgateMoved false ready), flowLaw_quiet rfl rfl, by decide +kernel⟩,
    ⟨(tailgateMoved true ready), by decide +kernel⟩,
    ⟨.left, (lift .dumpDwell), (stepMoved true (lifting (lift .dumpDwell) .none)), by decide +kernel⟩,
    ⟨.left, { lift .held with remembered := some .shake, reasons := { operator := true } },
      (stepMoved true (lifting { lift .held with remembered := some .shake, reasons := { operator := true } } .none)),
      by decide +kernel⟩,
    ⟨.left, lift .raiseWeigh, (stepMoved true ready), by decide +kernel⟩,
    ⟨.left, (stepMoved false ready), by decide +kernel⟩,
    ⟨((tailgateMoved false ready).withBodyTimer 49999), by decide +kernel⟩,
    ⟨((tailgateMoved true ready).withBodyTimer 49999), by decide +kernel⟩,
    ⟨.left, ((stepMoved true ready).withBodyTimer 49999), by decide +kernel⟩,
    ⟨.left, ((stepMoved false ready).withBodyTimer 49999), by decide +kernel⟩⟩

theorem meets_LinesSettle :
    (∃ (b : Bool) (s : State),
      s.resetHeld = false
        ∧ s.body.estop.line ≠ b)
    ∧ (∃ (b : Bool) (l : Lifter) (s : State),
      s.resetHeld = false
        ∧ (s.body.steps.get l).line ≠ b)
    ∧ (∃ (b : Bool) (s : State),
      InhibitLaw s
        ∧ s.resetHeld = false
        ∧ s.body.tailgate.line ≠ b)
    ∧ (∃ (b : Bool) (s : State),
      s.resetHeld = false
        ∧ s.calib.sealSwitch.line ≠ b)
    ∧ (∃ (b : Bool) (s : State),
      s.resetHeld = false
        ∧ s.body.estop.line = b) :=
  ⟨⟨true, ready, by decide +kernel⟩,
    ⟨true, .left, ready, by decide +kernel⟩,
    ⟨false, ready, inhibitLaw_ready, by decide +kernel⟩,
    ⟨true, ready, by decide +kernel⟩,
    ⟨false, ready, by decide +kernel⟩⟩

theorem meets_ReadAccountFinds :
    (∃ (p : Port) (d : List Byte) (i : Nat) (e : AccountEntry) (s : State),
      Accepts .readAccount p d s
        ∧ TableLaw s
        ∧ CleanTable s
        ∧ byteAt d 0 = 0
        ∧ s.tags.table[i]? = some ⟨e, .clean⟩
        ∧ e.tag = beAt d 1 5)
    ∧ (∃ (p : Port) (d : List Byte) (s : State),
      Accepts .readAccount p d s
        ∧ TableLaw s
        ∧ CleanTable s
        ∧ byteAt d 0 = 0
        ∧ 0 < beAt d 1 5
        ∧ (∀ w ∈ s.tags.table, w.content.tag ≠ beAt d 1 5))
    ∧ (∃ (p : Port) (d : List Byte) (i : Nat) (e : AccountEntry) (s : State),
      Accepts .readAccount p d s
        ∧ TableLaw s
        ∧ byteAt d 0 = 1
        ∧ s.tags.table[i]? = some ⟨e, .clean⟩
        ∧ i = beAt d 4 2)
    ∧ (∃ (p : Port) (d : List Byte) (s : State),
      Accepts .readAccount p d s
        ∧ TableLaw s
        ∧ byteAt d 0 = 1
        ∧ s.tags.table.length ≤ beAt d 4 2
        ∧ beAt d 4 2 ≤ 4095)
    ∧ (∃ (p : Port) (d : List Byte) (s : State),
      Accepts .readAccount p d s
        ∧ TableLaw s
        ∧ (1 < byteAt d 0 ∨ byteAt d 0 = 0 ∧ beAt d 1 5 = 0 ∨ byteAt d 0 = 1 ∧ 4095 < beAt d 4 2))
    ∧ (∃ (p : Port) (d : List Byte) (i : Nat) (e : AccountEntry) (before : List (Stored AccountEntry))
      (damaged : List (Stored AccountEntry)) (after : List (Stored AccountEntry)) (s : State),
      Accepts .readAccount p d s
        ∧ TableLaw s
        ∧ byteAt d 0 = 1
        ∧ i = beAt d 4 2
        ∧ s.tags.table = before ++ damaged ++ ⟨e, .clean⟩ :: after
        ∧ before.length = i
        ∧ damaged ≠ []
        ∧ (∀ w ∈ damaged, w.health = .double))
    ∧ (∃ (p : Port) (d : List Byte) (i : Nat) (before : List (Stored AccountEntry))
      (damaged : List (Stored AccountEntry)) (s : State),
      Accepts .readAccount p d s
        ∧ TableLaw s
        ∧ byteAt d 0 = 1
        ∧ i = beAt d 4 2
        ∧ s.tags.table = before ++ damaged
        ∧ before.length = i
        ∧ damaged ≠ []
        ∧ (∀ w ∈ damaged, w.health = .double)) :=
  ⟨⟨.cab, [0, 0, 0, 68, 56, 218], 0, entry, (listed .clean), accepts_of_accepted (by decide +kernel),
    tableLaw_one rfl (by unfold entryFits; decide), cleanTable_one rfl rfl, by decide +kernel⟩,
    ⟨.cab, [0, 0, 0, 0, 0, 1], (listed .clean), accepts_of_accepted (by decide +kernel),
      tableLaw_one rfl (by unfold entryFits; decide), cleanTable_one rfl rfl, by decide +kernel⟩,
    ⟨.cab, [1, 0, 0, 0, 0, 0], 0, entry, (listed .clean), accepts_of_accepted (by decide +kernel),
      tableLaw_one rfl (by unfold entryFits; decide), by decide +kernel⟩,
    ⟨.cab, [1, 0, 0, 0, 15, 255], (listed .clean), accepts_of_accepted (by decide +kernel),
      tableLaw_one rfl (by unfold entryFits; decide), by decide +kernel⟩,
    ⟨.cab, [1, 0, 0, 0, 16, 0], (listed .clean), accepts_of_accepted (by decide +kernel),
      tableLaw_one rfl (by unfold entryFits; decide), by decide +kernel⟩,
    ⟨.cab, [1, 0, 0, 0, 0, 0], 0, entry, [], [⟨{ entry with tag := 7 }, .double⟩], [], damagedFirst,
      accepts_of_accepted (by decide +kernel), tableLaw_damagedFirst, by decide +kernel⟩,
    ⟨.cab, [1, 0, 0, 0, 0, 0], 0, [], [⟨entry, .double⟩], (listed .double), accepts_of_accepted (by decide +kernel),
      tableLaw_one rfl (by unfold entryFits; decide), by decide +kernel⟩⟩

theorem meets_PutAndDeleteAccount :
    (∃ (p : Port) (d : List Byte) (s : State),
      TableLaw s
        ∧ CleanTable s
        ∧ Accepts .putAccount p d s
        ∧ entryArg d = none)
    ∧ (∃ (p : Port) (d : List Byte) (e : AccountEntry) (s : State),
      TableLaw s
        ∧ CleanTable s
        ∧ Accepts .putAccount p d s
        ∧ entryArg d = some e
        ∧ (∃ w ∈ s.tags.table, w.content.tag = e.tag))
    ∧ (∃ (p : Port) (d : List Byte) (e : AccountEntry) (s : State),
      TableLaw s
        ∧ CleanTable s
        ∧ Accepts .putAccount p d s
        ∧ entryArg d = some e
        ∧ (∀ w ∈ s.tags.table, w.content.tag ≠ e.tag)
        ∧ s.tags.table.length < 4096)
    ∧ (∃ (p : Port) (d : List Byte) (tag : Nat) (s : State),
      TableLaw s
        ∧ CleanTable s
        ∧ Accepts .deleteAccount p d s
        ∧ tag = beAt d 0 5
        ∧ 0 < tag
        ∧ (∃ w ∈ s.tags.table, w.content.tag = tag))
    ∧ (∃ (p : Port) (d : List Byte) (tag : Nat) (s : State),
      TableLaw s
        ∧ CleanTable s
        ∧ Accepts .deleteAccount p d s
        ∧ tag = beAt d 0 5
        ∧ 0 < tag
        ∧ (∀ w ∈ s.tags.table, w.content.tag ≠ tag))
    ∧ (∃ (p : Port) (d : List Byte) (s : State),
      TableLaw s
        ∧ CleanTable s
        ∧ Accepts .deleteAccount p d s
        ∧ beAt d 0 5 = 0) :=
  ⟨⟨.cab, (List.replicate 15 0), ready, tableLaw_empty rfl, cleanTable_empty rfl,
    accepts_of_accepted (by decide +kernel), by decide +kernel⟩,
    ⟨.cab, entryBytes entry, entry, (listed .clean), tableLaw_one rfl (by unfold entryFits; decide),
      cleanTable_one rfl rfl, accepts_of_accepted (by decide +kernel), by decide +kernel⟩,
    ⟨.cab, entryBytes entry, entry, ready, tableLaw_empty rfl, cleanTable_empty rfl,
      accepts_of_accepted (by decide +kernel), by decide +kernel⟩,
    ⟨.cab, [0, 0, 68, 56, 218], 4471002, (listed .clean), tableLaw_one rfl (by unfold entryFits; decide),
      cleanTable_one rfl rfl, accepts_of_accepted (by decide +kernel), by decide +kernel⟩,
    ⟨.cab, [0, 0, 68, 56, 218], 4471002, ready, tableLaw_empty rfl, cleanTable_empty rfl,
      accepts_of_accepted (by decide +kernel), by decide +kernel⟩,
    ⟨.cab, [0, 0, 0, 0, 0], ready, tableLaw_empty rfl, cleanTable_empty rfl,
      accepts_of_accepted (by decide +kernel), by decide +kernel⟩⟩

theorem meets_DamagedEntriesLeave :
    (∃ (tag : Nat) (s : State) (t : State) (e : LookupEnd) (i : Nat) (x : AccountEntry),
      TableLaw s
        ∧ lookupTag tag s = (e, t)
        ∧ s.integrity.accountCorrections ≤ 255
        ∧ e = .found i x)
    ∧ (∃ (tag : Nat) (s : State) (t : State) (e : LookupEnd) (i : Nat),
      TableLaw s
        ∧ lookupTag tag s = (e, t)
        ∧ s.integrity.accountCorrections ≤ 255
        ∧ e = .absent i)
    ∧ (∃ (tag : Nat) (s : State) (t : State) (e : LookupEnd),
      TableLaw s
        ∧ lookupTag tag s = (e, t)
        ∧ s.integrity.accountCorrections ≤ 255
        ∧ t.tags.table.length < s.tags.table.length)
    ∧ (∃ (tag : Nat) (s : State) (t : State) (e : LookupEnd),
      TableLaw s
        ∧ lookupTag tag s = (e, t)
        ∧ s.integrity.accountCorrections ≤ 255
        ∧ s.integrity.accountCorrections < 255
        ∧ t.integrity.accountCorrections = 255) :=
  ⟨⟨4471002, (listed .single), (lookupTag 4471002 (listed .single)).2, (.found 0 entry), 0, entry,
    tableLaw_one rfl (by unfold entryFits; decide), rfl, by decide +kernel⟩,
    ⟨4471002, (listed .double), (lookupTag 4471002 (listed .double)).2, (.absent 0), 0,
      tableLaw_one rfl (by unfold entryFits; decide), rfl, by decide +kernel⟩,
    ⟨4471002, (listed .double), (lookupTag 4471002 (listed .double)).2, (.absent 0),
      tableLaw_one rfl (by unfold entryFits; decide), rfl, by decide +kernel⟩,
    ⟨4471002, ((listed .single).withIntegrity ⟨254, 0⟩), (lookupTag 4471002 ((listed .single).withIntegrity ⟨254,
      0⟩)).2, (.found 0 entry), tableLaw_one rfl (by unfold entryFits; decide), rfl, by decide +kernel⟩⟩

theorem meets_AccountRequests :
    (∃ (p : Port) (d : List Byte) (s : State),
      Accepts .clearAccounts p d s
        ∧ (s.context .left ≠ none ∨ s.context .right ≠ none))
    ∧ (∃ (p : Port) (d : List Byte) (s : State),
      Accepts .clearAccounts p d s
        ∧ s.context .left = none
        ∧ s.context .right = none)
    ∧ (∃ (p : Port) (d : List Byte) (a : Bool) (b : Bool) (s : State),
      Accepts .setRoutePolicy p d s
        ∧ firstMeansYes (byteAt d 0) = some a
        ∧ firstMeansYes (byteAt d 1) = some b)
    ∧ (∃ (p : Port) (d : List Byte) (s : State),
      Accepts .setRoutePolicy p d s
        ∧ (1 < byteAt d 0 ∨ 1 < byteAt d 1))
    ∧ (∃ (p : Port) (d : List Byte) (s : State),
      Accepts .clearCounters p d s)
    ∧ (∃ (p : Port) (d : List Byte) (cls : Fin 16) (x : Tariff) (s : State),
      Accepts .putTariff p d s
        ∧ cls.val = byteAt d 0
        ∧ 1 ≤ cls.val
        ∧ x = ⟨beAt d 1 2, beAt d 3 2, beAt d 5 2, beAt d 7 3⟩
        ∧ x.minimum ≤ 9999
        ∧ x.cap ≤ 99999
        ∧ x.minimum ≤ x.cap)
    ∧ (∃ (p : Port) (d : List Byte) (s : State),
      Accepts .putTariff p d s
        ∧ (byteAt d 0 = 0 ∨ 15 < byteAt d 0 ∨ 9999 < beAt d 5 2 ∨ 99999 < beAt d 7 3 ∨ beAt d 7 3 < beAt d 5 2)) :=
  ⟨⟨.cab, [], (lifting (lift .shake) .none), accepts_of_accepted (by decide +kernel), by decide +kernel⟩,
    ⟨.cab, [], ready, accepts_of_accepted (by decide +kernel), by decide +kernel⟩,
    ⟨.cab, [0, 1], true, false, ready, accepts_of_accepted (by decide +kernel), by decide +kernel⟩,
    ⟨.cab, [0, 2], ready, accepts_of_accepted (by decide +kernel), by decide +kernel⟩,
    ⟨.cab, [], ready, accepts_of_accepted (by decide +kernel)⟩,
    ⟨.cab, [3, 13, 172, 4, 176, 0, 50, 0, 7, 208], 3, ⟨3500, 1200, 50, 2000⟩, ready,
      accepts_of_accepted (by decide +kernel), by decide +kernel⟩,
    ⟨.cab, [3, 13, 172, 4, 176, 0, 51, 0, 0, 50], ready, accepts_of_accepted (by decide +kernel),
      by decide +kernel⟩⟩

theorem meets_ReadJournalDelivers :
    (∃ (p : Port) (d : List Byte) (s : State),
      Accepts .readJournal p d s
        ∧ SequenceLaw s
        ∧ s.journal.slots.length ≤ 1024
        ∧ (beAt d 0 4 = 0 ∨ byteAt d 4 = 0 ∨ 8 < byteAt d 4))
    ∧ (∃ (p : Port) (d : List Byte) (s : State),
      Accepts .readJournal p d s
        ∧ SequenceLaw s
        ∧ NewerSeq s (beAt d 0 4)
        ∧ s.journal.slots.length ≤ 1024
        ∧ 1 ≤ byteAt d 4
        ∧ byteAt d 4 ≤ 8
        ∧ 1 ≤ beAt d 0 4)
    ∧ (∃ (p : Port) (d : List Byte) (i : Nat) (w : JournalSlot) (s : State),
      Accepts .readJournal p d s
        ∧ SequenceLaw s
        ∧ CleanJournal s
        ∧ s.journal.slots.length ≤ 1024
        ∧ 1 ≤ byteAt d 4
        ∧ byteAt d 4 ≤ 8
        ∧ s.journal.slots[i]? = some w
        ∧ slotSequence w = beAt d 0 4)
    ∧ (∃ (p : Port) (d : List Byte) (s : State),
      Accepts .readJournal p d s
        ∧ SequenceLaw s
        ∧ CleanJournal s
        ∧ OlderSeq s (beAt d 0 4)
        ∧ s.journal.slots.length ≤ 1024
        ∧ 1 ≤ byteAt d 4
        ∧ byteAt d 4 ≤ 8
        ∧ 1 ≤ beAt d 0 4)
    ∧ (∃ (p : Port) (d : List Byte) (i : Nat) (w : JournalSlot) (s : State),
      Accepts .readJournal p d s
        ∧ SequenceLaw s
        ∧ s.journal.slots.length ≤ 1024
        ∧ byteAt d 4 = 1
        ∧ s.journal.slots[i]? = some w
        ∧ slotSequence w = beAt d 0 4
        ∧ w.damaged = true)
    ∧ (∃ (p : Port) (d : List Byte) (i : Nat) (w : JournalSlot) (s : State),
      Accepts .readJournal p d s
        ∧ SequenceLaw s
        ∧ s.journal.slots.length ≤ 1024
        ∧ byteAt d 4 = 1
        ∧ s.journal.slots[i]? = some w
        ∧ slotSequence w = beAt d 0 4
        ∧ w.damaged = false
        ∧ w.stored.health = .double)
    ∧ (∃ (p : Port) (d : List Byte) (i : Nat) (w : JournalSlot) (s : State),
      Accepts .readJournal p d s
        ∧ SequenceLaw s
        ∧ s.journal.slots.length ≤ 1024
        ∧ byteAt d 4 = 1
        ∧ s.journal.slots[i]? = some w
        ∧ slotSequence w = beAt d 0 4
        ∧ w.damaged = false
        ∧ w.stored.health = .single) :=
  ⟨⟨.cab, [0, 0, 0, 0, 9], (oneRecord .clean false), accepts_of_accepted (by decide +kernel),
    sequenceLaw_one rfl rfl rfl, by decide +kernel⟩,
    ⟨.cab, [0, 0, 0, 42, 1], (oneRecord .clean false), accepts_of_accepted (by decide +kernel),
      sequenceLaw_one rfl rfl rfl, newer_42, by decide +kernel⟩,
    ⟨.cab, [0, 0, 0, 41, 8], 0, ⟨⟨record 41, .clean⟩, false⟩, (oneRecord .clean false),
      accepts_of_accepted (by decide +kernel), sequenceLaw_one rfl rfl rfl, cleanJournal_one rfl rfl rfl,
      by decide +kernel⟩,
    ⟨.cab, [0, 0, 0, 40, 8], (oneRecord .clean false), accepts_of_accepted (by decide +kernel),
      sequenceLaw_one rfl rfl rfl, cleanJournal_one rfl rfl rfl, older_40, by decide +kernel⟩,
    ⟨.cab, [0, 0, 0, 41, 1], 0, ⟨⟨record 41, .clean⟩, true⟩, (oneRecord .clean true),
      accepts_of_accepted (by decide +kernel), sequenceLaw_one rfl rfl rfl, by decide +kernel⟩,
    ⟨.cab, [0, 0, 0, 41, 1], 0, ⟨⟨record 41, .double⟩, false⟩, (oneRecord .double false),
      accepts_of_accepted (by decide +kernel), sequenceLaw_one rfl rfl rfl, by decide +kernel⟩,
    ⟨.cab, [0, 0, 0, 41, 1], 0, ⟨⟨record 41, .single⟩, false⟩, (oneRecord .single false),
      accepts_of_accepted (by decide +kernel), sequenceLaw_one rfl rfl rfl, by decide +kernel⟩⟩

theorem meets_AcknowledgeRemoves :
    (∃ (p : Port) (d : List Byte) (i : Nat) (w : JournalSlot) (s : State),
      Accepts .acknowledgeJournal p d s
        ∧ SequenceLaw s
        ∧ s.journal.slots.length ≤ 1024
        ∧ s.journal.slots[i]? = some w
        ∧ slotSequence w = beAt d 0 4)
    ∧ (∃ (p : Port) (d : List Byte) (s : State),
      Accepts .acknowledgeJournal p d s
        ∧ SequenceLaw s
        ∧ OlderSeq s (beAt d 0 4)
        ∧ s.journal.slots.length ≤ 1024
        ∧ 1 ≤ beAt d 0 4)
    ∧ (∃ (p : Port) (d : List Byte) (s : State),
      Accepts .acknowledgeJournal p d s
        ∧ SequenceLaw s
        ∧ NewerSeq s (beAt d 0 4)
        ∧ s.journal.slots.length ≤ 1024
        ∧ 1 ≤ beAt d 0 4)
    ∧ (∃ (p : Port) (d : List Byte) (s : State),
      Accepts .acknowledgeJournal p d s
        ∧ SequenceLaw s
        ∧ s.journal.slots.length ≤ 1024
        ∧ beAt d 0 4 = 0) :=
  ⟨⟨.cab, [0, 0, 0, 41], 0, ⟨⟨record 41, .clean⟩, false⟩, (oneRecord .clean false),
    accepts_of_accepted (by decide +kernel), sequenceLaw_one rfl rfl rfl, by decide +kernel⟩,
    ⟨.cab, [0, 0, 0, 40], (oneRecord .clean false), accepts_of_accepted (by decide +kernel),
      sequenceLaw_one rfl rfl rfl, older_40, by decide +kernel⟩,
    ⟨.cab, [0, 0, 0, 42], (oneRecord .clean false), accepts_of_accepted (by decide +kernel),
      sequenceLaw_one rfl rfl rfl, newer_42, by decide +kernel⟩,
    ⟨.cab, [0, 0, 0, 0], (oneRecord .clean false), accepts_of_accepted (by decide +kernel),
      sequenceLaw_one rfl rfl rfl, by decide +kernel⟩⟩

theorem meets_WriteCalibrationChecked :
    (∃ (p : Port) (d : List Byte) (s : State),
      Accepts .writeCalibration p d s
        ∧ s.calib.sealSwitch.reading = false)
    ∧ (∃ (p : Port) (d : List Byte) (s : State),
      Accepts .writeCalibration p d s
        ∧ s.calib.sealSwitch.reading = true
        ∧ (lifterArg (byteAt d 0) = none ∨ itemArg (byteAt d 1) = none))
    ∧ (∃ (p : Port) (d : List Byte) (l : Lifter) (item : CalItem) (s : State),
      Accepts .writeCalibration p d s
        ∧ s.calib.sealSwitch.reading = true
        ∧ lifterArg (byteAt d 0) = some l
        ∧ itemArg (byteAt d 1) = some item
        ∧ itemInRange item (signedAt d 2 3) = false)
    ∧ (∃ (p : Port) (d : List Byte) (l : Lifter) (s : State) (b : Profile),
      Accepts .writeCalibration p d s
        ∧ s.calib.sealSwitch.reading = true
        ∧ lifterArg (byteAt d 0) = some l
        ∧ itemArg (byteAt d 1) = some (.maximum b)
        ∧ signedAt d 2 3 < 100 * ((s.calib.cal.get l).items.division.get b : Int))
    ∧ (∃ (p : Port) (d : List Byte) (l : Lifter) (s : State) (b : Profile),
      Accepts .writeCalibration p d s
        ∧ s.calib.sealSwitch.reading = true
        ∧ lifterArg (byteAt d 0) = some l
        ∧ itemArg (byteAt d 1) = some (.division b)
        ∧ ((s.calib.cal.get l).items.maximum.get b : Int) < 100 * signedAt d 2 3)
    ∧ (∃ (p : Port) (d : List Byte) (l : Lifter) (item : CalItem) (s : State),
      Accepts .writeCalibration p d s
        ∧ s.calib.sealSwitch.reading = true
        ∧ lifterArg (byteAt d 0) = some l
        ∧ itemArg (byteAt d 1) = some item
        ∧ itemInRange item (signedAt d 2 3) = true
        ∧ divisionFits (s.calib.cal.get l).items item (signedAt d 2 3) = true) :=
  ⟨⟨.cab, [0, 1, 0, 0, 0], ready, accepts_of_accepted (by decide +kernel), by decide +kernel⟩,
    ⟨.cab, [0, 20, 0, 0, 0], (unsealed ready), accepts_of_accepted (by decide +kernel), by decide +kernel⟩,
    ⟨.cab, [0, 1, 0, 0, 0], .left, .span, (unsealed ready), accepts_of_accepted (by decide +kernel),
      by decide +kernel⟩,
    ⟨.cab, [0, 15, 0, 0, 0], .left, (unsealed ready), .twoWheel, accepts_of_accepted (by decide +kernel),
      by decide +kernel⟩,
    ⟨.cab, [0, 13, 15, 66, 64], .left, (unsealed ready), .twoWheel, accepts_of_accepted (by decide +kernel),
      by decide +kernel⟩,
    ⟨.cab, [0, 19, 0, 0, 16], .left, .windowSize, (unsealed ready), accepts_of_accepted (by decide +kernel),
      by decide +kernel⟩⟩

theorem meets_CounterWriteEnds :
    (∃ (p : Port) (m : Byte) (k : Byte) (l : Lifter) (item : CalItem) (v : Int) (c : Nat) (rest : List WriteJob)
      (s : State),
      s.loader.writes = .counter p l item v c :: rest
        ∧ due s s.loader.writeStart 5 = true
        ∧ (s.port p).service = .waiting m k
        ∧ s.calib.sealSwitch.reading = true)
    ∧ (∃ (p : Port) (m : Byte) (k : Byte) (l : Lifter) (item : CalItem) (v : Int) (c : Nat) (rest : List WriteJob)
      (s : State),
      s.loader.writes = .counter p l item v c :: rest
        ∧ due s s.loader.writeStart 5 = true
        ∧ (s.port p).service = .waiting m k
        ∧ s.calib.sealSwitch.reading = false)
    ∧ (∃ (p : Port) (m : Byte) (k : Byte) (l : Lifter) (item : CalItem) (v : Int) (c : Nat) (rest : List WriteJob)
      (s : State),
      s.loader.writes = .counter p l item v c :: rest
        ∧ due s s.loader.writeStart 5 = true
        ∧ (s.port p).service = .waiting m k)
    ∧ (∃ (s : State),
      (due s s.loader.writeStart 5 = false ∨ s.loader.writes.head?.all (fun j => !isCounterJob j) = true)) :=
  ⟨⟨.cab, 0, 0, .left, .span, 0, 0, [], (serving .cab (.waiting 0 0) (writing (.counter .cab .left .span 0 0)
    (unsealed ready))), by decide +kernel⟩,
    ⟨.cab, 0, 0, .left, .span, 0, 0, [], (serving .cab (.waiting 0 0)
      (writing (.counter .cab .left .span 0 0) ready)), by decide +kernel⟩,
    ⟨.cab, 0, 0, .left, .span, 0, 0, [], (serving .cab (.waiting 0 0)
      (writing (.counter .cab .left .span 0 0) ready)), by decide +kernel⟩,
    ⟨((writing (.counter .cab .left .span 0 0) ready).withBodyTimer 49999), by decide +kernel⟩⟩

theorem meets_SealAndCommit :
    (∃ (s : State),
      s.resetHeld = false
        ∧ settledTo true s s.calib.sealSwitch = true)
    ∧ (∃ (s : State),
      s.resetHeld = false
        ∧ settledTo false s s.calib.sealSwitch = true
        ∧ s.calib.cal.left.committed = true
        ∧ s.calib.cal.right.committed = true)
    ∧ (∃ (s : State),
      s.resetHeld = false
        ∧ settledTo false s s.calib.sealSwitch = true
        ∧ (s.calib.cal.left.committed = false ∨ s.calib.cal.right.committed = false)
        ∧ s.loader.writes.any isCommitJob = true)
    ∧ (∃ (s : State),
      s.resetHeld = false
        ∧ settledTo false s s.calib.sealSwitch = true
        ∧ (s.calib.cal.left.committed = false ∨ s.calib.cal.right.committed = false)
        ∧ s.loader.writes.any isCommitJob = false)
    ∧ (∃ (copies : PerLifter (Option CalItems)) (rest : List WriteJob) (s : State),
      s.resetHeld = false
        ∧ s.loader.writes = .commit copies :: rest
        ∧ due s s.loader.writeStart 5 = true
        ∧ s.calib.commitOwed = false)
    ∧ (∃ (copies : PerLifter (Option CalItems)) (rest : List WriteJob) (s : State),
      s.resetHeld = false
        ∧ s.loader.writes = .commit copies :: rest
        ∧ due s s.loader.writeStart 5 = true
        ∧ s.calib.commitOwed = true)
    ∧ (∃ (s : State),
      s.resetHeld = false
        ∧ (due s s.loader.writeStart 5 = false ∨ s.loader.writes.head?.all (fun j => !isCommitJob j) = true))
    ∧ (∃ (s : State),
      s.resetHeld = false
        ∧ settledTo true s s.calib.sealSwitch = false)
    ∧ (∃ (s : State),
      s.resetHeld = false
        ∧ settledTo false s s.calib.sealSwitch = false) :=
  ⟨⟨(sealMoved true ready), by decide +kernel⟩,
    ⟨(sealMoved false ready), by decide +kernel⟩,
    ⟨(uncommitted (writing (.commit ⟨none, none⟩) (sealMoved false ready))), by decide +kernel⟩,
    ⟨(uncommitted (writing (.identity .cab emptyIdentity) (sealMoved false ready))), by decide +kernel⟩,
    ⟨⟨none, none⟩, [], (writing (.commit ⟨none, none⟩) ready), by decide +kernel⟩,
    ⟨⟨none, none⟩, [], (writing (.commit ⟨none, none⟩) (ready.withCalib { ready.calib with commitOwed := true })),
      by decide +kernel⟩,
    ⟨((writing (.commit ⟨none, none⟩) ready).withBodyTimer 49999), by decide +kernel⟩,
    ⟨((sealMoved true ready).withBodyTimer 49999), by decide +kernel⟩,
    ⟨((sealMoved false ready).withBodyTimer 49999), by decide +kernel⟩⟩

theorem meets_IdentityWritten :
    (∃ (p : Port) (d : List Byte) (s : State),
      Accepts .writeIdentity p d s
        ∧ (16 < byteAt d 0 + (d.drop 1).length ∨ (∃ c ∈ d.drop 1, c.toNat < 32 ∨ 126 < c.toNat)))
    ∧ (∃ (p : Port) (d : List Byte) (s : State),
      Accepts .writeIdentity p d s
        ∧ byteAt d 0 + (d.drop 1).length ≤ 16
        ∧ (∀ c ∈ d.drop 1, 32 ≤ c.toNat ∧ c.toNat ≤ 126)
        ∧ (∃ i : Fin 16, byteAt d 0 ≤ i.val ∧ i.val < byteAt d 0 + (d.drop 1).length ∧
          (s.calib.identity.get i).isSome = true))
    ∧ (∃ (p : Port) (d : List Byte) (x : Vector (Option Byte) 16) (s : State),
      Accepts .writeIdentity p d s
        ∧ byteAt d 0 + (d.drop 1).length ≤ 16
        ∧ (∀ c ∈ d.drop 1, 32 ≤ c.toNat ∧ c.toNat ≤ 126)
        ∧ ((∀ i : Fin 16, byteAt d 0 ≤ i.val → i.val < byteAt d 0 + (d.drop 1).length →
          s.calib.identity.get i = none))
        ∧ (∀ i : Fin 16, x.get i = if byteAt d 0 ≤ i.val ∧
          i.val < byteAt d 0 + (d.drop 1).length then d[i.val - byteAt d 0 + 1]? else s.calib.identity.get i))
    ∧ (∃ (q : Port) (m : Byte) (k : Byte) (x : Vector (Option Byte) 16) (rest : List WriteJob) (s : State),
      s.loader.writes = .identity q x :: rest
        ∧ due s s.loader.writeStart 5 = true
        ∧ (s.port q).service = .waiting m k)
    ∧ (∃ (s : State),
      (due s s.loader.writeStart 5 = false ∨ s.loader.writes.head?.all (fun j => !isIdentityJob j) = true)) :=
  ⟨⟨.cab, [15, 65, 66], ready, accepts_of_accepted (by decide +kernel), by decide +kernel⟩,
    ⟨.cab, [15, 65], (ready.withCalib { ready.calib with identity := emptyIdentity.set 15 (some 66) }),
      accepts_of_accepted (by decide +kernel), by decide +kernel⟩,
    ⟨.cab, [15, 65], (emptyIdentity.set 15 (some 65)), ready, accepts_of_accepted (by decide +kernel),
      by decide +kernel⟩,
    ⟨.cab, 0, 0, emptyIdentity, [], (serving .cab (.waiting 0 0) (writing (.identity .cab emptyIdentity) ready)),
      by decide +kernel⟩,
    ⟨((writing (.identity .cab emptyIdentity) ready).withBodyTimer 49999), by decide +kernel⟩⟩

theorem meets_CalibrationIsSealed :
    ∃ (i : Instr) (s : State) (t : State),
      exec i s = .next t
        ∧ (∃ l, (t.calib.cal.get l).items ≠ (s.calib.cal.get l).items)
        ∧ isLoad i = false :=
  ⟨(.counterWriteEnd true), written, (after (.counterWriteEnd true) written), rfl, ⟨.left, by decide +kernel⟩,
    by decide +kernel⟩

theorem meets_EventAndMapRequests :
    (∃ (p : Port) (d : List Byte) (s : State),
      Accepts .clearEvents p d s
        ∧ beAt d 0 4 < 2 ^ 26)
    ∧ (∃ (p : Port) (d : List Byte) (s : State),
      Accepts .clearEvents p d s
        ∧ 2 ^ 26 ≤ beAt d 0 4)
    ∧ (∃ (p : Port) (d : List Byte) (s : State),
      Accepts .setEventMask p d s)
    ∧ (∃ (p : Port) (d : List Byte) (s : State),
      Accepts .setAccess p d s
        ∧ s.access.locked = true)
    ∧ (∃ (p : Port) (d : List Byte) (s : State),
      Accepts .setAccess p d s
        ∧ s.access.locked = false
        ∧ rightsArg d = none)
    ∧ (∃ (p : Port) (q : Port) (d : List Byte) (c : Fin 14) (r : Bool) (w : Bool) (s : State),
      Accepts .setAccess p d s
        ∧ s.access.locked = false
        ∧ rightsArg d = some (q, c, ⟨r, w⟩))
    ∧ (∃ (p : Port) (d : List Byte) (s : State),
      Accepts .lockMap p d s) :=
  ⟨⟨.cab, [3, 255, 255, 255], ready, accepts_of_accepted (by decide +kernel), by decide +kernel⟩,
    ⟨.cab, [4, 0, 0, 0], ready, accepts_of_accepted (by decide +kernel), by decide +kernel⟩,
    ⟨.cab, [0, 0, 0, 1], ready, accepts_of_accepted (by decide +kernel)⟩,
    ⟨.cab, [0, 3, 0, 0], (ready.withAccess ⟨everyRight, true⟩), accepts_of_accepted (by decide +kernel),
      by decide +kernel⟩,
    ⟨.cab, [0, 14, 0, 0], ready, accepts_of_accepted (by decide +kernel), by decide +kernel⟩,
    ⟨.cab, .cab, [0, 3, 0, 0], 3, true, true, ready, accepts_of_accepted (by decide +kernel), by decide +kernel⟩,
    ⟨.cab, [], ready, accepts_of_accepted (by decide +kernel)⟩⟩

theorem meets_ScanRingReplaced :
    (∃ (p : Port) (d : List Byte) (s : State),
      Accepts .setScanRing p d s
        ∧ (12 ≤ byteAt d 0 ∨ 12 ≤ byteAt d 1))
    ∧ (∃ (p : Port) (d : List Byte) (a : Fin 12) (b : Fin 12) (s : State),
      Accepts .setScanRing p d s
        ∧ a.val = byteAt d 0
        ∧ b.val = byteAt d 1
        ∧ ((s.context .left ≠ none ∨ s.context .right ≠ none ∨ s.packers.residual.state ≠ .idle ∨
          s.packers.recycle.state ≠ .idle ∨ s.loader.writes.any isSettingsJob = true)))
    ∧ (∃ (p : Port) (d : List Byte) (a : Fin 12) (b : Fin 12) (s : State),
      Accepts .setScanRing p d s
        ∧ a.val = byteAt d 0
        ∧ b.val = byteAt d 1
        ∧ s.context .left = none
        ∧ s.context .right = none
        ∧ s.packers.residual.state = .idle
        ∧ s.packers.recycle.state = .idle
        ∧ s.loader.writes.any isSettingsJob = false) :=
  ⟨⟨.cab, [0, 12], ready, accepts_of_accepted (by decide +kernel), by decide +kernel⟩,
    ⟨.cab, [0, 11], 0, 11, (packing .halted .none), accepts_of_accepted (by decide +kernel), by decide +kernel⟩,
    ⟨.cab, [0, 11], 0, 11, ready, accepts_of_accepted (by decide +kernel), by decide +kernel⟩⟩

theorem meets_RingConversionWritten :
    (∃ (v : Int) (r : Option Int) (ch : Fin 12) (s : State),
      s.scan.converter = .ring
        ∧ ch = s.scan.ringPos
        ∧ (if ch.val < 2 then -524288 ≤ v ∧ v ≤ 524287 else 0 ≤ v ∧ v ≤ 4095)
        ∧ (r = some v ∨ r = none))
    ∧ (∃ (s : State),
      s.scan.converter ≠ .ring)
    ∧ (∃ (ch : Fin 12) (s : State),
      due s (s.slot ch).timer 20 = true)
    ∧ (∃ (ch : Fin 12) (s : State),
      due s (s.slot ch).timer 20 = false) :=
  ⟨⟨524287, (some 524287), 0, ready, by decide +kernel⟩,
    ⟨(ready.withScan { ready.scan with converter := .idle }), by decide +kernel⟩,
    ⟨0, (ready.withSlot 0 ⟨none, true, some 49980⟩), by decide +kernel⟩,
    ⟨0, (ready.withSlot 0 ⟨none, true, some 49981⟩), by decide +kernel⟩⟩

theorem meets_InsertedConversionSamples :
    (∃ (l : Lifter) (v : Int) (N : Nat) (samples : List Int) (s : State),
      s.scan.converter = .inserted l
        ∧ -524288 ≤ v
        ∧ v ≤ 524287
        ∧ s.scan.buffers.get l = .filling N samples)
    ∧ (∃ (l : Lifter) (v : Int) (s : State),
      s.scan.converter = .inserted l
        ∧ -524288 ≤ v
        ∧ v ≤ 524287
        ∧ isFilling (s.scan.buffers.get l) = false)
    ∧ (∃ (l : Lifter) (s : State),
      s.scan.converter = .inserted l)
    ∧ (∃ (s : State),
      (∀ l, s.scan.converter ≠ .inserted l)) :=
  ⟨⟨.left, -524288, 16, (List.replicate 15 1), (filling (.filling 16 (List.replicate 15 1))), by decide +kernel⟩,
    ⟨.left, 524287, (filling .empty), by decide +kernel⟩,
    ⟨.left, (filling .empty), by decide +kernel⟩,
    ⟨ready, (by intros; exact fun h => nomatch h)⟩⟩

theorem meets_WeighComputationDelivers :
    (∃ (l : Lifter) (rest : List Lifter) (x : Computation) (c : LiftContext) (s : State),
      s.weigh.computation = some x
        ∧ x.startedAt + 2 ≤ s.bodyTimer
        ∧ s.weigh.queue = l :: rest
        ∧ l ∉ rest
        ∧ s.context l = some c
        ∧ isWeigh c.phase = true
        ∧ s.flow.records.get (.lifter l) = .none)
    ∧ (∃ (s : State),
      (due s (s.weigh.computation.map Computation.startedAt) 2 = false ∨ s.weigh.queue = [])) :=
  ⟨⟨.left, [], computation, (lift .grossWeigh),
    ((lifting (lift .grossWeigh) .none).withWeigh { ready.weigh with queue := [.left], computation := some computation }),
    by decide +kernel⟩,
    ⟨ready, by decide +kernel⟩⟩

theorem meets_WeighingAndChargeArithmetic :
    (∃ (x : Computation),
      x.calValid = false)
    ∧ (∃ (x : Computation),
      x.calValid = true
        ∧ ((x.copies.excitation.fresh = false ∨ x.copies.pitch.fresh = false ∨ x.copies.roll.fresh = false)))
    ∧ (∃ (x : Computation) (e : Int) (p : Int) (r : Int),
      x.calValid = true
        ∧ x.copies.excitation = ⟨some e, true⟩
        ∧ x.copies.pitch = ⟨some p, true⟩
        ∧ x.copies.roll = ⟨some r, true⟩)
    ∧ (∃ (x : Computation) (time : Nat),
      (computeResult x time).outcome = .ok)
    ∧ (∃ (x : Computation) (time : Nat),
      (computeResult x time).outcome ≠ .ok)
    ∧ (∃ (pitch : Int) (k : Fin 8),
      200 * (k.val : Int) - 800 ≤ pitch
        ∧ pitch < 200 * (k.val : Int) - 600)
    ∧ (∃ (x : Computation),
      x.samples ≠ [])
    ∧ (∃ (den : Nat),
      0 < den)
    ∧ (∃ (d : Nat),
      0 < d)
    ∧ (∃ (tf : Tariff),
      tf.minimum ≤ tf.cap)
    ∧ (∃ (cls : Nat) (f : RecordFlags),
      cls ≠ 0
        ∧ f.belowMin = true)
    ∧ (∃ (cls : Nat) (net : Nat) (allowance : Nat) (f : RecordFlags),
      cls ≠ 0
        ∧ f.belowMin = false
        ∧ net ≤ allowance * 100)
    ∧ (∃ (cls : Nat) (net : Nat) (allowance : Nat) (tf : Tariff) (st : Stream) (f : RecordFlags) (raw : Nat),
      raw = ((net - allowance * 100) * (if st = .residual then tf.residualRate else tf.recycleRate) + 50000) / 100000
        ∧ cls ≠ 0
        ∧ f.belowMin = false
        ∧ allowance * 100 < net
        ∧ tf.minimum ≤ tf.cap) :=
  ⟨⟨{ computation with calValid := false }, by decide +kernel⟩,
    ⟨{ computation with copies := { computation.copies with pitch := ⟨none, false⟩ } }, by decide +kernel⟩,
    ⟨computation, 2050, 2240, 2100, by decide +kernel⟩,
    ⟨computation, 0, by decide +kernel⟩,
    ⟨{ computation with calValid := false }, 0, by decide +kernel⟩,
    ⟨-800, 0, by decide +kernel⟩,
    ⟨computation, by decide +kernel⟩,
    ⟨1, by decide +kernel⟩,
    ⟨500, by decide +kernel⟩,
    ⟨⟨3500, 1200, 50, 2000⟩, by decide +kernel⟩,
    ⟨3, { belowMin := true }, by decide +kernel⟩,
    ⟨3, 12500, 125, {}, by decide +kernel⟩,
    ⟨3, 12500, 50, ⟨3500, 1200, 50, 2000⟩, .residual, {}, (((12500 - 5000) * 3500 + 50000) / 100000),
      by decide +kernel⟩⟩

theorem meets_FlowWaitTimesOut :
    (∃ (l : Lifter) (c : LiftContext) (d : Nat) (since : Nat) (s : State),
      s.flow.records.get (.lifter l) = .waiting d since
        ∧ since + 3000 ≤ s.bodyTimer
        ∧ s.context l = some c
        ∧ isHoldable c.phase = true)
    ∧ (∃ (st : Stream) (ph : StrokePhase) (d : Nat) (since : Nat) (s : State),
      s.flow.records.get (.packer st) = .waiting d since
        ∧ since + 3000 ≤ s.bodyTimer
        ∧ (s.packer st).state = .stroke ph)
    ∧ (∃ (x : Consumer) (s : State),
      due s (waitOf (s.flow.records.get x)) 3000 = false)
    ∧ (∃ (x : Consumer) (s : State),
      s.flow.records.get x = .none)
    ∧ (∃ (x : Consumer) (s : State),
      s.flow.records.get x ≠ .none)
    ∧ (∃ (s : State),
      s.body.state ≠ .running)
    ∧ (∃ (s : State),
      s.body.state = .running
        ∧ s.flow.waiting.Nodup
        ∧ (∀ y ∈ s.flow.waiting, isWaiting (s.flow.records.get y) = true)) :=
  ⟨⟨.left, (lift .raiseWeigh), 6, 47000, (lifting (lift .raiseWeigh) (.waiting 6 47000)), by decide +kernel⟩,
    ⟨.residual, .extending, 8, 47000, (packing (.stroke .extending) (.waiting 8 47000)), by decide +kernel⟩,
    ⟨.lifter .left, (lifting (lift .raiseWeigh) (.waiting 6 47001)), by decide +kernel⟩,
    ⟨.lifter .left, ready, by decide +kernel⟩,
    ⟨.lifter .left, (lifting (lift .raiseWeigh) (.granted 6)), by decide +kernel⟩,
    ⟨(inBody .halted ready), by decide +kernel⟩,
    ⟨ready, by decide +kernel⟩⟩

theorem meets_ResetsPowerOn :
    (∃ (s : State),
      s.loader.writes = [])
    ∧ (∃ (j : WriteJob) (rest : List WriteJob) (s : State),
      s.loader.writes = j :: rest)
    ∧ (∃ (s : State),
      s.resetHeld = false) :=
  ⟨⟨ready, by decide +kernel⟩,
    ⟨(.counter .cab .left .span 6554 65535), [], written, by decide +kernel⟩,
    ⟨ready, by decide +kernel⟩⟩

theorem meets_LoadPartsTaken :
    (∃ (ok : Bool) (x : Settings) (s : State),
      s.resetHeld = false
        ∧ s.loader.load = .reading .settings
        ∧ x = (if ok && s.loader.eeprom.settings.good then s.loader.eeprom.settings.content else defaultSettings))
    ∧ (∃ (l : Lifter) (s : State),
      s.resetHeld = false
        ∧ s.loader.load = .reading (.calibration l))
    ∧ (∃ (s : State),
      s.resetHeld = false
        ∧ s.loader.load = .reading .identity)
    ∧ (∃ (s : State),
      s.resetHeld = false
        ∧ s.loader.load = .reading .counter
        ∧ s.body.estop.reading = false)
    ∧ (∃ (s : State),
      s.resetHeld = false
        ∧ s.loader.load = .reading .counter
        ∧ s.body.estop.reading = true)
    ∧ (∃ (since : Nat) (s : State),
      s.resetHeld = false
        ∧ s.loader.load = .pass since
        ∧ since + 20 ≤ s.bodyTimer
        ∧ s.body.estop.reading = false)
    ∧ (∃ (since : Nat) (s : State),
      s.resetHeld = false
        ∧ s.loader.load = .pass since
        ∧ since + 20 ≤ s.bodyTimer
        ∧ s.body.estop.reading = true)
    ∧ (∃ (since : Nat) (s : State),
      s.resetHeld = false
        ∧ s.loader.load = .pass since
        ∧ s.bodyTimer < since + 20) :=
  ⟨⟨true, defaultSettings, (loading (.reading .settings)), by decide +kernel⟩,
    ⟨.left, (loading (.reading (.calibration .left))), by decide +kernel⟩,
    ⟨(loading (.reading .identity)), by decide +kernel⟩,
    ⟨(loading (.reading .counter)), by decide +kernel⟩,
    ⟨(stopped (loading (.reading .counter))), by decide +kernel⟩,
    ⟨49980, (loading (.pass 49980)), by decide +kernel⟩,
    ⟨49980, (stopped (loading (.pass 49980))), by decide +kernel⟩,
    ⟨49981, (loading (.pass 49981)), by decide +kernel⟩⟩

theorem meets_TagReadsSorted :
    (∃ (ok : Bool) (tag : BitVec 40) (q : BitVec 4) (dis : Disposition) (s : State),
      s.resetHeld = false
        ∧ (dis = (if ok = false ∨
          tag.toNat = 0 then .invalid else if s.body.state = .starting then .starting else if q.toNat < s.tags.threshold then .lowQuality else if bound s .left = some tag.toNat ∨
          bound s .right = some tag.toNat then .bound else .accepted))
        ∧ dis ≠ .accepted)
    ∧ (∃ (l : Lifter) (ok : Bool) (tag : BitVec 40) (q : BitVec 4) (dis : Disposition) (s : State),
      s.resetHeld = false
        ∧ (dis = (if ok = false ∨
          tag.toNat = 0 then .invalid else if s.body.state = .starting then .starting else if q.toNat < s.tags.threshold then .lowQuality else if bound s .left = some tag.toNat ∨
          bound s .right = some tag.toNat then .bound else .accepted))
        ∧ dis = .accepted
        ∧ (s.tags.pendingTags.get (otherLifter l)).map PendingTag.tag ≠ some tag.toNat)
    ∧ (∃ (l : Lifter) (ok : Bool) (tag : BitVec 40) (q : BitVec 4) (dis : Disposition) (s : State),
      s.resetHeld = false
        ∧ (dis = (if ok = false ∨
          tag.toNat = 0 then .invalid else if s.body.state = .starting then .starting else if q.toNat < s.tags.threshold then .lowQuality else if bound s .left = some tag.toNat ∨
          bound s .right = some tag.toNat then .bound else .accepted))
        ∧ dis = .accepted
        ∧ (s.tags.pendingTags.get (otherLifter l)).map PendingTag.tag = some tag.toNat) :=
  ⟨⟨false, 5, 9, .invalid, ready, by decide +kernel⟩,
    ⟨.left, true, 5, 9, .accepted, ready, by decide +kernel⟩,
    ⟨.left, true, 5, 9, .accepted, (ready.withTags { ready.tags with pendingTags := ⟨none, some ⟨5, 9, 49000⟩⟩ }),
      by decide +kernel⟩⟩

theorem meets_StartLiftAccepted_within :
    (∃ (p : Port) (d : List Byte) (l : Lifter) (arg : Option Stream) (tag : Option Nat)
      (entry : Option AccountEntry) (s : State) (s1 : State),
      Accepts .startLift p d s
        ∧ lifterArg (byteAt d 0) = some l
        ∧ optionalStreamArg (byteAt d 1) (byteAt d 2) = some arg
        ∧ s.context l = none
        ∧ s.flow.records.get (.lifter l) = .none
        ∧ firstFailure (startChecks l s) = none
        ∧ tagPermission l s = (.granted tag entry, s1)
        ∧ firstFailure (settleChecks (streamFor (s.lifter l) arg entry) s1) = none
        ∧ channelFresh s (armAngle l) = true
        ∧ lifterFits s 6 = true)
    ∧ (∃ (p : Port) (d : List Byte) (l : Lifter) (arg : Option Stream) (tag : Option Nat)
      (entry : Option AccountEntry) (s : State) (s1 : State),
      Accepts .startLift p d s
        ∧ GrantLaw s
        ∧ lifterArg (byteAt d 0) = some l
        ∧ optionalStreamArg (byteAt d 1) (byteAt d 2) = some arg
        ∧ s.context l = none
        ∧ s.flow.records.get (.lifter l) = .none
        ∧ firstFailure (startChecks l s) = none
        ∧ tagPermission l s = (.granted tag entry, s1)
        ∧ firstFailure (settleChecks (streamFor (s.lifter l) arg entry) s1) = none
        ∧ channelFresh s (armAngle l) = true
        ∧ lifterFits s 6 = false
        ∧ Consumer.lifter l ∉ s.flow.waiting) :=
  ⟨⟨.cab, [0, 1, 1], .left, (some .recycle), none, none, ready, ready, accepts_of_accepted (by decide +kernel),
    by decide +kernel⟩,
    ⟨.cab, [0, 1, 1], .left, (some .recycle), none, none, busyPump, busyPump,
      accepts_of_accepted (by decide +kernel), grantLaw_busyPump, by decide +kernel⟩⟩

theorem meets_ArmReadingEndsPhase_within :
    (∃ (l : Lifter) (c : LiftContext) (v : Int) (u : Nat) (target : Nat) (s : State),
      s.scan.converter = .ring
        ∧ s.scan.ringPos = armAngle l
        ∧ inRing s.scan (armAngle l) = true
        ∧ 0 ≤ v
        ∧ v ≤ 4095
        ∧ s.context l = some c
        ∧ s.flow.records.get (.lifter l) = .granted u
        ∧ phaseTarget l c s = some target
        ∧ (¬ (if c.phase = .raiseWeigh ∨
          c.phase = .raiseDump then target ≤ (v * 225).toNat / 512 + 15 else (v * 225).toNat / 512 ≤ target + 15)))
    ∧ (∃ (l : Lifter) (c : LiftContext) (v : Int) (u : Nat) (target : Nat) (s : State),
      s.scan.converter = .ring
        ∧ s.scan.ringPos = armAngle l
        ∧ inRing s.scan (armAngle l) = true
        ∧ 0 ≤ v
        ∧ v ≤ 4095
        ∧ s.context l = some c
        ∧ s.flow.records.get (.lifter l) = .granted u
        ∧ phaseTarget l c s = some target
        ∧ target ≤ (v * 225).toNat / 512 + 15
        ∧ c.phase = .raiseWeigh
        ∧ (s.weigh.drift.get l).disabled = false)
    ∧ (∃ (l : Lifter) (c : LiftContext) (v : Int) (u : Nat) (target : Nat) (s : State),
      s.scan.converter = .ring
        ∧ s.scan.ringPos = armAngle l
        ∧ inRing s.scan (armAngle l) = true
        ∧ 0 ≤ v
        ∧ v ≤ 4095
        ∧ s.context l = some c
        ∧ s.flow.records.get (.lifter l) = .granted u
        ∧ phaseTarget l c s = some target
        ∧ target ≤ (v * 225).toNat / 512 + 15
        ∧ c.phase = .raiseDump)
    ∧ (∃ (l : Lifter) (c : LiftContext) (v : Int) (u : Nat) (target : Nat) (s : State),
      s.scan.converter = .ring
        ∧ s.scan.ringPos = armAngle l
        ∧ inRing s.scan (armAngle l) = true
        ∧ 0 ≤ v
        ∧ v ≤ 4095
        ∧ s.context l = some c
        ∧ s.flow.records.get (.lifter l) = .granted u
        ∧ phaseTarget l c s = some target
        ∧ (v * 225).toNat / 512 ≤ target + 15
        ∧ c.phase = .lowerWeigh
        ∧ (s.weigh.drift.get l).disabled = false)
    ∧ (∃ (l : Lifter) (c : LiftContext) (v : Int) (u : Nat) (target : Nat) (s : State),
      s.scan.converter = .ring
        ∧ s.scan.ringPos = armAngle l
        ∧ inRing s.scan (armAngle l) = true
        ∧ 0 ≤ v
        ∧ v ≤ 4095
        ∧ s.context l = some c
        ∧ s.flow.records.get (.lifter l) = .granted u
        ∧ phaseTarget l c s = some target
        ∧ target ≤ (v * 225).toNat / 512 + 15
        ∧ c.phase = .raiseWeigh
        ∧ (s.weigh.drift.get l).disabled = true)
    ∧ (∃ (l : Lifter) (c : LiftContext) (v : Int) (u : Nat) (target : Nat) (s : State),
      s.scan.converter = .ring
        ∧ s.scan.ringPos = armAngle l
        ∧ inRing s.scan (armAngle l) = true
        ∧ 0 ≤ v
        ∧ v ≤ 4095
        ∧ s.context l = some c
        ∧ s.flow.records.get (.lifter l) = .granted u
        ∧ phaseTarget l c s = some target
        ∧ (v * 225).toNat / 512 ≤ target + 15
        ∧ c.phase = .lowerWeigh
        ∧ (s.weigh.drift.get l).disabled = true) :=
  ⟨⟨.left, (lift .raiseDump), 0, 6, defaultBanks.twoWheel.dumpAngle, (atChannel 2 (lifting (lift .raiseDump)
    (.granted 6))), by decide +kernel⟩,
    ⟨.left, (lift .raiseWeigh), 4095, 6, defaultBanks.twoWheel.weighAngle, (atChannel 2 (lifting (lift .raiseWeigh)
      (.granted 6))), by decide +kernel⟩,
    ⟨.left, (lift .raiseDump), 4095, 6, defaultBanks.twoWheel.dumpAngle, (atChannel 2 (lifting (lift .raiseDump)
      (.granted 6))), by decide +kernel⟩,
    ⟨.left, (lift .lowerWeigh), 0, 3, defaultBanks.twoWheel.weighAngle, (atChannel 2 (lifting (lift .lowerWeigh)
      (.granted 3))), by decide +kernel⟩,
    ⟨.left, (lift .raiseWeigh), 4095, 6, defaultBanks.twoWheel.weighAngle,
      (drifted (atChannel 2 (lifting (lift .raiseWeigh) (.granted 6)))), by decide +kernel⟩,
    ⟨.left, (lift .lowerWeigh), 0, 3, defaultBanks.twoWheel.weighAngle,
      (drifted (atChannel 2 (lifting (lift .lowerWeigh) (.granted 3)))), by decide +kernel⟩⟩

theorem meets_DumpDwellAndShake_within :
    ∃ (l : Lifter) (c : LiftContext) (s : State),
      FlowLaw s
        ∧ CycleStarts s c.stream
        ∧ PackFresh s c.stream
        ∧ s.context l = some c
        ∧ due s c.dwellTimer (s.banks.get c.bank).dumpDwell = true
        ∧ s.flow.records.get (.lifter l) = .none
        ∧ (s.packer c.stream).pending = 0
        ∧ 0 < (s.packer c.stream).settings.liftCycles
        ∧ (s.packer c.stream).settings.liftCycles ≤ 3 :=
  ⟨.left, { lift .dumpDwell with dwellTimer := some (50000 - defaultBanks.twoWheel.dumpDwell) },
    (lifting { lift .dumpDwell with dwellTimer := some (50000 - defaultBanks.twoWheel.dumpDwell) } .none),
    flowLaw_quiet rfl rfl, by unfold CycleStarts; decide +kernel, by unfold PackFresh; decide +kernel,
    by decide +kernel⟩

theorem meets_PackerReadingsEndStrokes_within :
    (∃ (st : Stream) (ch : Fin 12) (v : Int) (q : Int) (r : Int) (s : State),
      s.scan.converter = .ring
        ∧ s.scan.ringPos = ch
        ∧ inRing s.scan ch = true
        ∧ 0 ≤ r
        ∧ r ≤ 4095
        ∧ ((ch = strokeChannel st ∧ r = v ∧ channelFresh s (pressureChannel st) = true ∧
          channelValue s (pressureChannel st) = some q ∨ ch = pressureChannel st ∧ r = q ∧
          channelFresh s (strokeChannel st) = true ∧ channelValue s (strokeChannel st) = some v))
        ∧ (s.packer st).state = .stroke .extending
        ∧ q < (s.packer st).settings.pressureLimit
        ∧ v < (s.packer st).settings.fullStroke)
    ∧ (∃ (st : Stream) (ch : Fin 12) (v : Int) (q : Int) (r : Int) (s : State),
      s.scan.converter = .ring
        ∧ s.scan.ringPos = ch
        ∧ inRing s.scan ch = true
        ∧ 0 ≤ r
        ∧ r ≤ 4095
        ∧ ((ch = strokeChannel st ∧ r = v ∧ channelFresh s (pressureChannel st) = true ∧
          channelValue s (pressureChannel st) = some q ∨ ch = pressureChannel st ∧ r = q ∧
          channelFresh s (strokeChannel st) = true ∧ channelValue s (strokeChannel st) = some v))
        ∧ (s.packer st).state = .stroke .extending
        ∧ ((s.packer st).settings.pressureLimit ≤ q ∨ (s.packer st).settings.fullStroke ≤ v))
    ∧ (∃ (st : Stream) (ch : Fin 12) (v : Int) (q : Int) (r : Int) (s : State),
      s.scan.converter = .ring
        ∧ s.scan.ringPos = ch
        ∧ inRing s.scan ch = true
        ∧ 0 ≤ r
        ∧ r ≤ 4095
        ∧ ((ch = strokeChannel st ∧ r = v ∧ channelFresh s (pressureChannel st) = true ∧
          channelValue s (pressureChannel st) = some q ∨ ch = pressureChannel st ∧ r = q ∧
          channelFresh s (strokeChannel st) = true ∧ channelValue s (strokeChannel st) = some v))
        ∧ ((s.packer st).state = .stroke .dwell ∨ (s.packer st).state = .stroke .retracting ∧
          (ch ≠ strokeChannel st ∨ (s.packer st).settings.retracted < v)))
    ∧ (∃ (st : Stream) (ch : Fin 12) (v : Int) (q : Int) (r : Int) (s : State),
      s.scan.converter = .ring
        ∧ s.scan.ringPos = ch
        ∧ inRing s.scan ch = true
        ∧ 0 ≤ r
        ∧ r ≤ 4095
        ∧ ((ch = strokeChannel st ∧ r = v ∧ channelFresh s (pressureChannel st) = true ∧
          channelValue s (pressureChannel st) = some q ∨ ch = pressureChannel st ∧ r = q ∧
          channelFresh s (strokeChannel st) = true ∧ channelValue s (strokeChannel st) = some v))
        ∧ ch = strokeChannel st
        ∧ (s.packer st).state = .stroke .retracting
        ∧ v ≤ (s.packer st).settings.retracted
        ∧ (s.packer st).stopRequested = false
        ∧ (s.packer st).mode = .step)
    ∧ (∃ (st : Stream) (ch : Fin 12) (v : Int) (q : Int) (r : Int) (s : State),
      s.scan.converter = .ring
        ∧ s.scan.ringPos = ch
        ∧ inRing s.scan ch = true
        ∧ 0 ≤ r
        ∧ r ≤ 4095
        ∧ ((ch = strokeChannel st ∧ r = v ∧ channelFresh s (pressureChannel st) = true ∧
          channelValue s (pressureChannel st) = some q ∨ ch = pressureChannel st ∧ r = q ∧
          channelFresh s (strokeChannel st) = true ∧ channelValue s (strokeChannel st) = some v))
        ∧ ch = strokeChannel st
        ∧ (s.packer st).state = .stroke .retracting
        ∧ v ≤ (s.packer st).settings.retracted
        ∧ (s.packer st).stopRequested = false
        ∧ (s.packer st).mode = .continuous
        ∧ (s.compartment st).fill ≠ .full)
    ∧ (∃ (st : Stream) (ch : Fin 12) (v : Int) (q : Int) (r : Int) (s : State),
      s.scan.converter = .ring
        ∧ s.scan.ringPos = ch
        ∧ inRing s.scan ch = true
        ∧ 0 ≤ r
        ∧ r ≤ 4095
        ∧ ((ch = strokeChannel st ∧ r = v ∧ channelFresh s (pressureChannel st) = true ∧
          channelValue s (pressureChannel st) = some q ∨ ch = pressureChannel st ∧ r = q ∧
          channelFresh s (strokeChannel st) = true ∧ channelValue s (strokeChannel st) = some v))
        ∧ ch = strokeChannel st
        ∧ (s.packer st).state = .stroke .retracting
        ∧ v ≤ (s.packer st).settings.retracted
        ∧ (s.packer st).mode = .single
        ∧ (s.packer st).pending = 0)
    ∧ (∃ (st : Stream) (ch : Fin 12) (v : Int) (q : Int) (r : Int) (s : State),
      s.scan.converter = .ring
        ∧ s.scan.ringPos = ch
        ∧ inRing s.scan ch = true
        ∧ 0 ≤ r
        ∧ r ≤ 4095
        ∧ ((ch = strokeChannel st ∧ r = v ∧ channelFresh s (pressureChannel st) = true ∧
          channelValue s (pressureChannel st) = some q ∨ ch = pressureChannel st ∧ r = q ∧
          channelFresh s (strokeChannel st) = true ∧ channelValue s (strokeChannel st) = some v))
        ∧ ch = strokeChannel st
        ∧ (s.packer st).state = .stroke .retracting
        ∧ v ≤ (s.packer st).settings.retracted
        ∧ (s.packer st).mode = .single
        ∧ 0 < (s.packer st).pending
        ∧ s.body.state = .running
        ∧ s.body.tailgate.reading = true) :=
  ⟨⟨.residual, 8, 3799, 1000, 3799, (atChannel 8 (packing (.stroke .extending) (.granted 8))), by decide +kernel⟩,
    ⟨.residual, 6, 1000, 3300, 3300, (atChannel 6 (packing (.stroke .extending) (.granted 8))), by decide +kernel⟩,
    ⟨.residual, 6, 1000, 3300, 3300, (atChannel 6 (packing (.stroke .retracting) (.granted 5))), by decide +kernel⟩,
    ⟨.residual, 8, 200, 1000, 200, (withMode .step 1 (atChannel 8 (packing (.stroke .retracting) (.granted 5)))),
      by decide +kernel⟩,
    ⟨.residual, 8, 200, 1000, 200, (withMode .continuous 0 (atChannel 8 (packing (.stroke .retracting)
      (.granted 5)))), by decide +kernel⟩,
    ⟨.residual, 8, 200, 1000, 200, (withMode .single 0 (atChannel 8 (packing (.stroke .retracting) (.granted 5)))),
      by decide +kernel⟩,
    ⟨.residual, 8, 200, 1000, 200, (withMode .single 1 (atChannel 8 (packing (.stroke .retracting) (.granted 5)))),
      by decide +kernel⟩⟩

theorem meets_VehicleDataTaken_within :
    ∃ (s : State) (v : VehicleData),
      FlowLaw s
        ∧ due s (if s.body.fresh then s.body.lastAccepted else none) 500 = true
        ∧ s.body.vehicle = some v :=
  ⟨(ready.withBodyTimer 50400), standing, flowLaw_quiet rfl rfl, by decide +kernel⟩

theorem meets_RingConversionWritten_within :
    (∃ (ch : Fin 12) (s : State) (c : LiftContext) (l : Lifter),
      due s (s.slot ch).timer 20 = true
        ∧ lifterOfChannel ch = some l
        ∧ (s.slot ch).fresh = true
        ∧ s.context l = some c
        ∧ isMotion c.phase = true)
    ∧ (∃ (ch : Fin 12) (s : State) (c : LiftContext) (l : Lifter),
      due s (s.slot ch).timer 20 = true
        ∧ lifterOfChannel ch = some l
        ∧ s.context l = some c
        ∧ c.phase = .returning)
    ∧ (∃ (ch : Fin 12) (s : State) (st : Stream) (ph : StrokePhase),
      due s (s.slot ch).timer 20 = true
        ∧ streamOfChannel ch = some st
        ∧ (s.slot ch).fresh = true
        ∧ (s.packer st).state = .stroke ph) :=
  ⟨⟨2, ((lifting (lift .raiseWeigh) (.granted 6)).withSlot 2 ⟨none, true, some 49980⟩), (lift .raiseWeigh), .left,
    by decide +kernel⟩,
    ⟨2, ((lifting (lift .returning) (.granted 3)).withSlot 2 ⟨none, true, some 49980⟩), (lift .returning), .left,
      by decide +kernel⟩,
    ⟨6, ((packing (.stroke .extending) (.granted 8)).withSlot 6 ⟨none, true, some 49980⟩), .residual, .extending,
      by decide +kernel⟩⟩

theorem meets_WeighComputationDelivers_within :
    (∃ (l : Lifter) (rest : List Lifter) (x : Computation) (c : LiftContext) (s : State),
      s.weigh.computation = some x
        ∧ x.startedAt + 2 ≤ s.bodyTimer
        ∧ s.weigh.queue = l :: rest
        ∧ l ∉ rest
        ∧ s.context l = some c
        ∧ isWeigh c.phase = true
        ∧ s.flow.records.get (.lifter l) = .none
        ∧ (computeResult x s.body.clockSeconds).outcome = .ok)
    ∧ (∃ (l : Lifter) (rest : List Lifter) (x : Computation) (c : LiftContext) (s : State),
      s.weigh.computation = some x
        ∧ x.startedAt + 2 ≤ s.bodyTimer
        ∧ s.weigh.queue = l :: rest
        ∧ l ∉ rest
        ∧ s.context l = some c
        ∧ isWeigh c.phase = true
        ∧ s.flow.records.get (.lifter l) = .none
        ∧ (computeResult x s.body.clockSeconds).outcome = .unstable
        ∧ c.retry < 2)
    ∧ (∃ (l : Lifter) (rest : List Lifter) (x : Computation) (c : LiftContext) (s : State),
      s.weigh.computation = some x
        ∧ x.startedAt + 2 ≤ s.bodyTimer
        ∧ s.weigh.queue = l :: rest
        ∧ l ∉ rest
        ∧ s.context l = some c
        ∧ isWeigh c.phase = true
        ∧ s.flow.records.get (.lifter l) = .none
        ∧ (computeResult x s.body.clockSeconds).outcome = .unstable
        ∧ 2 ≤ c.retry)
    ∧ (∃ (l : Lifter) (rest : List Lifter) (x : Computation) (c : LiftContext) (s : State),
      s.weigh.computation = some x
        ∧ x.startedAt + 2 ≤ s.bodyTimer
        ∧ s.weigh.queue = l :: rest
        ∧ l ∉ rest
        ∧ s.context l = some c
        ∧ isWeigh c.phase = true
        ∧ s.flow.records.get (.lifter l) = .none
        ∧ (computeResult x s.body.clockSeconds).outcome ≠ .ok
        ∧ (computeResult x s.body.clockSeconds).outcome ≠ .unstable) :=
  ⟨⟨.left, [], computation, (lift .grossWeigh),
    ((lifting (lift .grossWeigh) .none).withWeigh { ready.weigh with queue := [.left], computation := some computation }),
    by decide +kernel⟩,
    ⟨.left, [], unsteady, (lift .grossWeigh),
      ((lifting (lift .grossWeigh) .none).withWeigh { ready.weigh with queue := [.left], computation := some unsteady }),
      by decide +kernel⟩,
    ⟨.left, [], unsteady, { lift .grossWeigh with retry := 2 },
      ((lifting { lift .grossWeigh with retry := 2 } .none).withWeigh { ready.weigh with queue := [.left], computation := some unsteady }),
      by decide +kernel⟩,
    ⟨.left, [], uncalibrated, (lift .grossWeigh),
      ((lifting (lift .grossWeigh) .none).withWeigh { ready.weigh with queue := [.left], computation := some uncalibrated }),
      by decide +kernel⟩⟩

theorem meets_FlowWaitTimesOut_within :
    ∃ (s : State),
      s.body.state = .running
        ∧ s.flow.waiting.Nodup
        ∧ (∀ y ∈ s.flow.waiting, isWaiting (s.flow.records.get y) = true)
        ∧ s.flow.waiting.length = 2 :=
  ⟨twoWaiting, by decide +kernel⟩
/-! ### States that meet the laws -/

/-- A lift in RAISE_WEIGH under its grant of 6 units, its time limit about to be taken. -/
def moving : State :=
  { ready with
    pending := [.liftPhaseTimeout .left]
    lifters := ready.lifters.set .left
      { ready.lifters.left with
        context := some { lift .raiseWeigh with tag := some 9, phaseTimer := some 46000 }, raiseValve := true }
    body := { ready.body with inhibitLine := true, inhibitReasons := ⟨true, false, false⟩ }
    flow := ⟨.high, 16, ⟨.granted 6, .none, .none, .none⟩, [], false⟩
    journal := { ready.journal with reservations := ⟨true, false⟩ } }

theorem attentionLaw_moving : AttentionLaw moving := by
  intro p
  cases p <;> simp [moving, ready, State.reset, State.port, PerPort.get, powerOnPort]

theorem meets_OutputLawsKept :
    ∃ s t : State, AttentionLaw s ∧ InhibitLaw s ∧ LimitLaw s ∧ step s = .next t := by
  refine ⟨moving, _, attentionLaw_moving, ⟨?_, ?_, ?_, ?_⟩, ?_, rfl⟩
  · decide +kernel
  · decide +kernel
  · decide +kernel
  · decide +kernel
  · intro st
    cases st <;> decide +kernel

theorem flowLaw_moving : FlowLaw moving := by
  refine ⟨?_, by decide +kernel, ?_, by decide +kernel, by decide +kernel, by decide +kernel, ?_, by decide +kernel⟩
  · rintro ((_ | _) | (_ | _)) <;> decide +kernel
  · rintro ((_ | _) | (_ | _)) d since h <;> cases h
  · rintro (h | h) <;> exact absurd h (by decide +kernel)

theorem requestLaw_moving : RequestLaw moving := by
  refine ⟨?_, ?_, ?_, ?_, ?_, ?_, ?_, ?_⟩
  · rintro (_ | _)
    · exact ⟨fun _ => ⟨.raiseWeigh, rfl, .inl rfl⟩, fun _ h => nomatch h⟩
    · exact ⟨fun h => absurd rfl h, fun ⟨_, h, _⟩ => nomatch h⟩
  · rintro (_ | _) <;> exact ⟨fun h => absurd rfl h, fun ⟨_, h⟩ => nomatch h⟩
  · rintro (_ | _) ph u h hu h0
    · cases h
      cases hu
      rfl
    · cases h
  · rintro (_ | _) ph u h <;> cases h
  · rintro (_ | _) c h hc
    · rfl
    · cases h
  · rintro (_ | _) h <;> cases h
  · rintro (_ | _) c h hc
    · cases h
      rcases hc with hc | hc <;> cases hc
    · cases h
  · rintro (_ | _) c h hc
    · cases h
      cases hc
    · cases h

theorem valveLaw_moving : ValveLaw moving := by
  refine ⟨?_, ?_, ?_, ?_, ?_⟩
  · rintro (_ | _) h
    · exact ⟨rfl, .raiseWeigh, rfl, .inl rfl⟩
    · rcases h with h | h <;> cases h
  · rintro (_ | _) <;> decide +kernel
  · rintro (_ | _) c x h hx
    · cases h
      cases hx
    · cases h
  · rintro (_ | _) (h | h) <;> cases h
  · rintro (_ | _) <;> decide +kernel

theorem meets_MotionLawsKept :
    ∃ s t : State, FlowLaw s ∧ RequestLaw s ∧ ValveLaw s ∧ step s = .next t ∧ GrantLaw s :=
  ⟨moving, _, flowLaw_moving, requestLaw_moving, valveLaw_moving, rfl, grantLaw_running rfl fun _ h => nomatch h⟩

theorem meets_JournalLawsKept : ∃ s t : State, ReservationLaw s ∧ SequenceLaw s ∧ step s = .next t := by
  refine ⟨moving, _, ⟨?_, by decide +kernel⟩, ⟨by decide +kernel, ?_, ?_, ?_⟩, rfl⟩
  · rintro (_ | _) <;> decide +kernel
  · intro w h
    cases h
  · intro i v w h
    cases h
  · intro w h
    cases h

theorem meets_TableAndTagLawsKept :
    (∃ s t : State, TableLaw s ∧ step s = .next t) ∧ (∃ s t : State, TagLaw s ∧ step s = .next t)
      ∧ ∃ (i : Instr) (s t : State), isPutAccount i = false ∧ exec i s = .next t ∧ t.tags.table ≠ [] := by
  refine ⟨⟨listed .clean, _, tableLaw_one rfl (by unfold entryFits; decide), rfl⟩, ⟨moving, _, ⟨?_, ?_, ?_⟩, rfl⟩,
    ⟨.liftPhaseTimeout .left, listed .clean, _, rfl, rfl, by decide +kernel⟩⟩
  · rintro t ⟨-, h⟩
    cases h
  · rintro l (_ | _) x h <;> cases h
  · rintro x y h
    cases h

theorem storeLaw_written : StoreLaw written := by
  refine ⟨by decide +kernel, by decide +kernel, by decide +kernel, by decide +kernel, by decide +kernel, ?_, ?_,
    by decide +kernel, by decide +kernel, ?_⟩
  · intro p l item v n h
    cases List.mem_singleton.mp h
    decide +kernel
  · intro p x h
    cases List.mem_singleton.mp h
  · intro h
    cases h

theorem rangeLaw_moving : RangeLaw moving := by
  refine ⟨?_, ?_, ?_, ?_, ?_, ?_, ?_, by decide +kernel, by decide +kernel, by decide +kernel, ?_, by decide +kernel⟩
  · rintro (_ | _) <;> decide +kernel
  · rintro (_ | _) <;> decide +kernel
  · rintro (_ | _) <;> decide +kernel
  · rintro (_ | _) <;> decide +kernel
  · rintro (_ | _) c h
    · cases h
      decide
    · cases h
  · rintro (_ | _ | _) <;> decide +kernel
  · rintro (_ | _ | _) <;> decide +kernel
  · rintro (_ | _) <;> decide +kernel

theorem meets_StoreAndRangeLawsKept :
    (∃ s t : State, step s = .next t ∧ StoreLaw s) ∧ ∃ s t : State, step s = .next t ∧ RangeLaw s :=
  ⟨⟨written, _, rfl, storeLaw_written⟩, moving, _, rfl, rangeLaw_moving⟩

theorem meets_CalibrationIsSealed_with_the_store_law :
    ∃ (i : Instr) (s t : State), exec i s = .next t ∧ isLoad i = false ∧ StoreLaw s
      ∧ ∃ l, (t.calib.cal.get l).items ≠ (s.calib.cal.get l).items :=
  ⟨.counterWriteEnd true, written, after (.counterWriteEnd true) written, rfl, rfl, storeLaw_written, .left,
    by decide +kernel⟩

/-- A full table: 4,096 entries with tags 1 to 4,096. -/
def fullTable : State := ready.withTable ((List.range 4096).map fun k => ⟨{ entry with tag := k + 1 }, .clean⟩)

theorem tableLaw_full : TableLaw fullTable := by
  refine ⟨?_, ?_, ?_⟩
  · simp [fullTable, State.withTable, State.withTags]
  · simp only [fullTable, State.withTable, State.withTags, List.pairwise_map]
    exact List.pairwise_lt_range.imp (fun h => Nat.succ_lt_succ h)
  · intro w h
    simp only [fullTable, State.withTable, State.withTags, List.mem_map, List.mem_range] at h
    obtain ⟨k, hk, rfl⟩ := h
    simp only [entryFits, entry]
    omega

theorem meets_PutAndDeleteAccount_when_full :
    ∃ (p : Port) (d : List Byte) (e : AccountEntry) (s : State), TableLaw s ∧ CleanTable s
      ∧ Accepts .putAccount p d s ∧ entryArg d = some e ∧ (∀ w ∈ s.tags.table, w.content.tag ≠ e.tag)
      ∧ s.tags.table.length = 4096 := by
  refine ⟨.route, entryBytes entry, entry, fullTable, tableLaw_full, ?_, accepts_of_accepted (by decide +kernel),
    by decide +kernel, ?_, ?_⟩
  · intro w h
    simp only [fullTable, State.withTable, State.withTags, List.mem_map] at h
    obtain ⟨k, -, rfl⟩ := h
    rfl
  · intro w h
    simp only [fullTable, State.withTable, State.withTags, List.mem_map, List.mem_range] at h
    obtain ⟨k, hk, rfl⟩ := h
    simp only [entry]
    omega
  · simp [fullTable, State.withTable, State.withTags]

/-! ### Windows withdrawn and grants revoked -/

/-- ready with LEFT's gross window HELD and its computation running. -/
def weighingLeft : State :=
  ((lifting (lift .grossWeigh) .none).withScan
    { ready.scan with buffers := ⟨.held 32 grossSamples computation.copies, .empty⟩ }).withWeigh
    { ready.weigh with queue := [.left], computation := some computation }

theorem meets_WindowsGone :
    (∃ s : State, s.resetHeld = false ∧ s.body.state = .running ∧ s.weigh.queue.Nodup ∧ weighing s .left = true
        ∧ s.weigh.queue = [.left] ∧ settledTo true s s.body.estop = true)
      ∧ ∃ s : State, s.resetHeld = false ∧ FlowLaw s ∧ s.weigh.queue.Nodup ∧ weighing s .left = true
        ∧ s.weigh.queue = [.left] ∧ settledTo false s s.body.tailgate = true :=
  ⟨⟨estopMoved true weighingLeft, by decide +kernel⟩, tailgateMoved false weighingLeft, rfl, flowLaw_quiet rfl rfl,
    by decide +kernel⟩

/-- R107, R108: the last sample of a window, with no window queued and a lift under way. -/
theorem meets_InsertedConversionSamples_first_in_queue :
    ∃ (l : Lifter) (c : LiftContext) (s : State), s.scan.converter = .inserted l
      ∧ s.scan.buffers.get l = .filling 16 (List.replicate 15 1) ∧ s.weigh.queue = [] ∧ s.context l = some c :=
  ⟨.left, lift .grossWeigh, (filling (.filling 16 (List.replicate 15 1))).withContext .left (some (lift .grossWeigh)),
    by decide +kernel⟩

/-- R94, R124: a packer waits for its grant, and the pass that its reading ends is the 32nd, with LEFT's drift count at
49. -/
theorem meets_PackerReadingsEndStrokes_with_a_drift_check :
    ∃ (st : Stream) (s : State), s.scan.converter = .ring ∧ s.scan.ringPos = strokeChannel st
      ∧ s.scan.ringEnd = strokeChannel st ∧ inRing s.scan (strokeChannel st) = true ∧ s.scan.pass = 31
      ∧ channelFresh s (pressureChannel st) = true ∧ isGranted (s.flow.records.get (.packer st)) = false
      ∧ (s.weigh.drift.get .left).count = 49 :=
  ⟨.residual, ((atChannel 8 (packing (.stroke .extending) (.waiting 8 49000))).withDrift .left ⟨false, 49, none⟩).withScan
    { ready.scan with ringPos := 8, ringEnd := 8, pass := 31 }, by decide +kernel⟩

theorem meets_WindowsGone_when_stale :
    ∃ s : State, due s (if s.body.fresh then s.body.lastAccepted else none) 500 = true ∧ s.weigh.queue.Nodup
      ∧ weighing s .left = true ∧ s.weigh.queue = [.left] :=
  ⟨weighingLeft.withBodyTimer 50400, rfl, by decide +kernel, rfl, rfl⟩

theorem meets_VehicleDataTaken_at_speed :
    ∃ (p : Port) (d : List Byte) (v : VehicleData) (s : State), Accepts .vehicleData p d s ∧ vehicleArg d = some v
      ∧ FlowLaw s ∧ 50 < v.speed ∧ s.weigh.queue.Nodup ∧ weighing s .left = true ∧ s.weigh.queue = [.left] :=
  ⟨.chassis, [0, 51, 0, 0, 1, 0, 0, 2, 188, 0, 0, 5], ⟨51, .off, true, false, 700, 5⟩, weighingLeft,
    accepts_of_accepted (by decide +kernel), by decide +kernel, flowLaw_quiet rfl rfl, by decide +kernel⟩

/-- R60: the engine goes OFF under a lifter's grant. -/
theorem meets_VehicleDataTaken_when_off :
    ∃ (p : Port) (d : List Byte) (v : VehicleData) (c : LiftContext) (s : State), Accepts .vehicleData p d s
      ∧ vehicleArg d = some v ∧ FlowLaw s ∧ v.engine = .off ∧ s.context .left = some c ∧ isHoldable c.phase = true
      ∧ isGranted (s.flow.records.get (.lifter .left)) = true
      ∧ isGranted (s.flow.records.get (.packer .residual)) = false :=
  ⟨.chassis, [0, 0, 0, 0, 1, 0, 0, 2, 188, 0, 0, 5], ⟨0, .off, true, false, 700, 5⟩,
    { lift .raiseWeigh with tag := some 9, phaseTimer := some 46000 }, moving,
    accepts_of_accepted (by decide +kernel), by decide +kernel, flowLaw_moving, rfl, rfl, rfl, rfl, rfl⟩

/-- R59: the supply falls from 16 to 8 under a grant of 6. -/
theorem meets_VehicleDataTaken_when_idle :
    ∃ (p : Port) (d : List Byte) (v : VehicleData) (s : State), Accepts .vehicleData p d s
      ∧ vehicleArg d = some v ∧ FlowLaw s ∧ GrantLaw s ∧ v.engine ≠ .off ∧ supplyOf v.engine ≤ s.flow.supply
      ∧ v.speed ≤ 50 ∧ supplyOf v.engine = 8 ∧ s.flow.records.get (.lifter .left) = .granted 6 :=
  ⟨.chassis, [0, 0, 1, 0, 1, 0, 0, 2, 188, 0, 0, 5], ⟨0, .idle, true, false, 700, 5⟩, moving,
    accepts_of_accepted (by decide +kernel), by decide +kernel, flowLaw_moving, grantLaw_running rfl (fun _ h => nomatch h),
    by decide +kernel⟩

/-- ready with the RESIDUAL packer extending under 8 of its 16 units. -/
def extendingPacker : State :=
  (packing (.stroke .extending) (.granted 8)).withFlow { ready.flow with records := ⟨.none, .none, .granted 8, .none⟩ }

theorem flowLaw_extendingPacker : FlowLaw extendingPacker := by
  refine ⟨?_, by decide +kernel, ?_, by decide +kernel, by decide +kernel, by decide +kernel, ?_, by decide +kernel⟩
  · rintro ((_ | _) | (_ | _)) <;> decide +kernel
  · rintro ((_ | _) | (_ | _)) d since h <;> cases h
  · rintro (h | h) <;> exact absurd h (by decide +kernel)

theorem meets_VehicleDataTaken_under_a_stroke :
    ∃ (p : Port) (d : List Byte) (v : VehicleData) (ph : StrokePhase) (s : State), Accepts .vehicleData p d s
      ∧ vehicleArg d = some v ∧ FlowLaw s ∧ v.engine = .off ∧ (s.packer .residual).state = .stroke ph
      ∧ isGranted (s.flow.records.get (.packer .residual)) = true :=
  ⟨.chassis, [0, 0, 0, 0, 1, 0, 0, 2, 188, 0, 0, 5], ⟨0, .off, true, false, 700, 5⟩, .extending, extendingPacker,
    accepts_of_accepted (by decide +kernel), by decide +kernel, flowLaw_extendingPacker, by decide +kernel⟩

/-- R22, R75: an abort after the dump, the lift's cycles still owed. -/
theorem meets_AbortLiftReturns_owing_cycles :
    ∃ (p : Port) (d : List Byte) (l : Lifter) (c : LiftContext) (s : State), Accepts .abortLift p d s
      ∧ lifterArg (byteAt d 0) = some l ∧ s.context l = some c ∧ c.phase = .shake ∧ c.dumped = true
      ∧ c.cyclesGiven = false :=
  ⟨.cab, [0], .left, { lift .shake with dumped := true }, lifting { lift .shake with dumped := true } .none,
    accepts_of_accepted (by decide +kernel), by decide +kernel⟩

end Sys2Proof.Tests
end

section
/-! SUPPORT. What a port's request becomes once it is accepted, and what an event, a grant evaluation, a flow given
back and a withdrawn window do. `PortsQuiet` serves as the relation "only latches were set" between two states. -/

namespace Sys2Proof.Safety

open Sys2Proof.Machine

variable {s t u : State}

/-! ### Events -/

theorem PortsQuiet.of_ports_eq (h : t.ports = s.ports) : PortsQuiet s t :=
  ⟨fun q => by simp [State.port, h], fun q n hn => by simpa [State.port, h] using hn⟩

theorem PortsQuiet.refl (s : State) : PortsQuiet s s := .of_ports_eq rfl

theorem PortsQuiet.trans (h : PortsQuiet s t) (k : PortsQuiet t u) : PortsQuiet s u :=
  ⟨fun q => (k.same q).trans (h.same q), fun q n hn => k.latches q n (h.latches q n hn)⟩

theorem PortsQuiet.after (k : PortsQuiet t u) (h : t.ports = s.ports) : PortsQuiet s u :=
  (PortsQuiet.of_ports_eq h).trans k

/-- The fields of a port that latches leave. -/
theorem PortsQuiet.fields (h : PortsQuiet s t) (q : Port) :
    (t.port q).receive = (s.port q).receive ∧ (t.port q).service = (s.port q).service
      ∧ (t.port q).errors = (s.port q).errors ∧ (t.port q).overruns = (s.port q).overruns
      ∧ (t.port q).mask = (s.port q).mask := by
  simpa only [PortState.mk.injEq, true_and, and_true] using h.same q

theorem PortsQuiet.service (h : PortsQuiet s t) (q : Port) : (t.port q).service = (s.port q).service := by
  obtain ⟨-, service, -⟩ := h.fields q
  exact service

theorem eventSet_holds (e : Event) : (eventSet e).holds e = true := by cases e <;> rfl

theorem latchAll_quiet (e : Event) (s : State) : PortsQuiet s (latchAll e s) :=
  ⟨fun q => by rw [latchAll_port]; rfl, fun q n hn => by rw [latchAll_port, latch_latched]; simp [hn]⟩

theorem latchAll_latchedAll (e : Event) (s : State) : LatchedAll e (latchAll e s) := by
  intro q
  have h : (eventSet e).getLsbD (eventBit e) = true := eventSet_holds e
  simp [EventSet.holds, latchAll_port, latch_latched, h]

/-! ### Accepted requests -/

@[simp] theorem withPort_withPort (s : State) (p : Port) (v w : PortState) :
    (s.withPort p v).withPort p w = s.withPort p w := by
  cases p <;> rfl

theorem portChecks_of_accepts {k : Kind} {p : Port} {d : List Byte} (h : Accepts k p d s) :
    portChecks k p d s = none := by
  simpa [portChecks, h.right, h.length] using h.started

/-- An accepted request is taken by its port, decided by its owner, and answered as decided (R195 to R197). -/
theorem serve_of_accepts {k : Kind} {p : Port} {d : List Byte} (n : Byte) (owner : State → Decision)
    (h : Accepts k p d s) : serve k p n d owner s = finishRequest p (owner (takeRequest p n k.code s)) := by
  simp [serve, h.awake, h.idle, portChecks_of_accepts h]

theorem takeRequest_service (p : Port) (n kb : Byte) (s : State) :
    ((takeRequest p n kb s).port p).service = .waiting n kb := by simp [takeRequest]

theorem answerPort_of_waiting {p : Port} {n kb : Byte} (r : Reply) (h : (s.port p).service = .waiting n kb) :
    answerPort p r s = s.withPort p { s.port p with service := .answering ⟨n, kb, replyBytes r⟩ } := by
  simp [answerPort, h]

/-- A request that its owner declines is answered and changes nothing else. -/
theorem serve_declined {k : Kind} {p : Port} {d : List Byte} {owner : State → Decision} {r : Reply} (n : Byte)
    (h : Accepts k p d s) (decides : ∀ x, owner x = declined r x) :
    serve k p n d owner s = replied p n k r s := by
  rw [serve_of_accepts n owner h, decides]
  change answerPort p r (takeRequest p n k.code s) = _
  rw [answerPort_of_waiting r (takeRequest_service p n k.code s)]
  simp [takeRequest, replied, sent]

/-- A port keeps its latches when it begins to send an answer. -/
theorem answerPort_latched (p : Port) (r : Reply) (s : State) (q : Port) :
    ((answerPort p r s).port q).latched = (s.port q).latched := by
  unfold answerPort
  split
  · by_cases hq : q = p
    · subst hq; simp
    · rw [port_withPort_of_ne _ _ _ _ hq]
  · rfl

/-- The answer to a taken request, after its owner has set latches at most. -/
theorem answerPort_answered {k : Kind} {p : Port} {n : Byte} (r : Reply)
    (h : PortsQuiet (takeRequest p n k.code s) t) : Answered s (answerPort p r t) p n k r := by
  have waiting : (t.port p).service = .waiting n k.code := by
    rw [h.service p, takeRequest_service]
  have own : (answerPort p r t).port p = { t.port p with service := .answering ⟨n, k.code, replyBytes r⟩ } := by
    simp [answerPort_of_waiting r waiting]
  have others : ∀ q, q ≠ p → (answerPort p r t).port q = t.port q := fun q hq => by
    rw [answerPort_of_waiting r waiting, port_withPort_of_ne _ _ _ _ hq]
  have before : ∀ q, q ≠ p → (takeRequest p n k.code s).port q = s.port q := fun q hq =>
    port_withPort_of_ne _ _ _ _ hq
  have taken : (takeRequest p n k.code s).port p =
      { s.port p with receive := .hunting, service := .waiting n k.code } := port_withPort_self _ _ _
  refine ⟨by rw [own], fun q hq => ?_, fun q => ?_, fun q m hm => ?_⟩
  · rw [others q hq, h.service q, before q hq]
  · obtain ⟨-, -, errors, overruns, mask⟩ := h.fields q
    by_cases hq : q = p
    · subst hq
      rw [taken] at errors overruns mask
      rw [own]
      exact ⟨mask, errors, overruns⟩
    · rw [before q hq] at errors overruns mask
      rw [others q hq]
      exact ⟨mask, errors, overruns⟩
  · rw [answerPort_latched]
    refine h.latches q m ?_
    by_cases hq : q = p
    · subst hq; rw [taken]; exact hm
    · rw [before q hq]; exact hm

/-! ### Grants -/

/-- What a grant evaluation does at most: it grants to consumers that wait, which gives each its valve and its timer,
and sets latches. -/
structure GrantsOnly (s t : State) : Prop where
  lifters : ∀ l, LifterUpToGrant (s.lifter l) (t.lifter l)
  packers : ∀ st, PackerUpToGrant (s.packer st) (t.packer st)
  list : ∀ c, c ∈ t.flow.waiting → c ∈ s.flow.waiting
  records : ∀ c, c ∉ s.flow.waiting → t.flow.records.get c = s.flow.records.get c
  unasked : ∀ l, Consumer.lifter l ∉ s.flow.waiting → t.lifter l = s.lifter l
  ports : PortsQuiet s t

theorem GrantsOnly.refl (s : State) : GrantsOnly s s :=
  ⟨fun _ => rfl, fun _ => rfl, fun _ h => h, fun _ _ => rfl, fun _ _ => rfl, .refl s⟩

theorem GrantsOnly.trans (h : GrantsOnly s t) (k : GrantsOnly t u) : GrantsOnly s u where
  lifters l := (k.lifters l).trans (h.lifters l)
  packers st := (k.packers st).trans (h.packers st)
  list c hc := h.list c (k.list c hc)
  records c hc := (k.records c fun ht => hc (h.list c ht)).trans (h.records c hc)
  unasked l hl := (k.unasked l fun ht => hl (h.list _ ht)).trans (h.unasked l hl)
  ports := h.ports.trans k.ports

theorem testLine_grantsOnly (s : State) : GrantsOnly s (testLine s) := by
  unfold testLine
  split
  · exact .refl s
  · exact ⟨fun _ => rfl, fun _ => rfl, fun _ h => h, fun _ _ => rfl, fun _ _ => rfl,
      (latchAll_quiet _ _).after rfl⟩

theorem headRequest_mem {f : Flow} {c : Consumer} (h : headRequest f = some c) : c ∈ f.waiting := by
  unfold headRequest at h
  split at h
  · next d hd =>
    obtain rfl : d = c := Option.some.inj h
    exact List.mem_of_find?_eq_some hd
  · exact List.mem_of_head? h

theorem bareContext_contextAtGrant (now : Nat) (c : LiftContext) :
    bareContext (contextAtGrant now c) = bareContext c := by
  unfold contextAtGrant
  split <;> rfl

theorem grantLifter_self (l : Lifter) (s : State) : LifterUpToGrant (s.lifter l) ((grantLifter l s).lifter l) := by
  unfold grantLifter
  split
  · rfl
  · split
    · rfl
    · have context : ((s.context l).map (contextAtGrant s.bodyTimer)).map bareContext =
          (s.context l).map bareContext := by
        simp [Function.comp_def, bareContext_contextAtGrant]
      simp only [LifterUpToGrant, bareLifter, State.mapContext, State.withContext, context_withValves,
        lifter_withLifter_self, context]
      simp [State.withValves, State.context]

theorem grantLifter_of_ne {l m : Lifter} (s : State) (h : m ≠ l) : (grantLifter l s).lifter m = s.lifter m := by
  unfold grantLifter
  split
  · rfl
  · split
    · rfl
    · simp only [State.mapContext, State.withContext, State.withValves, lifter_withLifter_of_ne _ _ _ _ h]

theorem grantLifter_only (l : Lifter) (s : State) : Only [.lifters] s (grantLifter l s) := by
  unfold grantLifter
  split
  · exact Only.refl _ s
  · split
    · exact Only.refl _ s
    · exact (withValves_only s l _ _).step (mapContext_only _ l _)

theorem packerAtGrant_upToGrant (now : Nat) (k : Packer) : PackerUpToGrant k (packerAtGrant now k) := by
  unfold packerAtGrant
  split <;> rfl

/-- A grant handed to its consumer changes that consumer alone. -/
theorem handGrant_lifter (c : Consumer) (s : State) (l : Lifter) :
    LifterUpToGrant (s.lifter l) ((handGrant c s).lifter l)
      ∧ (Consumer.lifter l ≠ c → (handGrant c s).lifter l = s.lifter l) := by
  cases c with
  | packer st => exact ⟨rfl, fun _ => rfl⟩
  | lifter m =>
    by_cases h : l = m
    · subst h
      exact ⟨grantLifter_self l s, fun hne => absurd rfl hne⟩
    · have same : (handGrant (.lifter m) s).lifter l = s.lifter l := grantLifter_of_ne s h
      exact ⟨by rw [same]; rfl, fun _ => same⟩

theorem handGrant_packer (c : Consumer) (s : State) (st : Stream) :
    PackerUpToGrant (s.packer st) ((handGrant c s).packer st) := by
  cases c with
  | lifter l =>
    have same : (handGrant (.lifter l) s).packers = s.packers := (grantLifter_only l s).same .packers (by decide)
    rw [State.packer, State.packer, same]; rfl
  | packer su =>
    by_cases h : st = su
    · subst h
      simpa [handGrant] using packerAtGrant_upToGrant s.bodyTimer (s.packer st)
    · simp only [handGrant, packer_withPacker_of_ne _ _ _ _ h]; rfl

theorem handGrant_flow_ports (c : Consumer) (s : State) :
    (handGrant c s).flow = s.flow ∧ (handGrant c s).ports = s.ports := by
  cases c with
  | lifter l =>
    exact ⟨(grantLifter_only l s).same .flow (by decide), (grantLifter_only l s).same .ports (by decide)⟩
  | packer st => exact ⟨rfl, rfl⟩

theorem grantOne_grantsOnly {c : Consumer} (hc : c ∈ s.flow.waiting) : GrantsOnly s (grantOne c s) := by
  unfold grantOne
  set g := s.withFlow { s.flow with
    records := s.flow.records.set c (.granted (demandOf s.flow c))
    waiting := s.flow.waiting.filter (fun d => d ≠ c) } with hg
  obtain ⟨flow, ports⟩ := handGrant_flow_ports c g
  have other : ∀ d, d ∉ s.flow.waiting → d ≠ c := fun d hd hdc => hd (hdc ▸ hc)
  exact {
    lifters := fun l => (handGrant_lifter c g l).1
    packers := fun st => handGrant_packer c g st
    list := fun d hd => by
      rw [flow, hg] at hd
      exact List.mem_of_mem_filter hd
    records := fun d hd => by
      rw [flow, hg]
      exact PerConsumer.get_set_of_ne _ _ _ _ (other d hd)
    unasked := fun l hl => (handGrant_lifter c g l).2 (other _ hl)
    ports := .of_ports_eq ports }

theorem grantLoop_grantsOnly (n : Nat) (s : State) : GrantsOnly s (grantLoop n s) := by
  induction n generalizing s with
  | zero => exact .refl s
  | succ n ih =>
    simp only [grantLoop]
    split
    · exact .refl s
    · next c hc =>
      split
      · exact (grantOne_grantsOnly (headRequest_mem hc)).trans (ih _)
      · exact .refl s

theorem evaluateGrants_grantsOnly (s : State) : GrantsOnly s (evaluateGrants s) := by
  unfold evaluateGrants
  split
  · exact (grantLoop_grantsOnly _ s).trans (testLine_grantsOnly _)
  · exact testLine_grantsOnly s

/-! ### Flow given back (R55, R56) -/

theorem dropRecord_record (c : Consumer) (s : State) : (dropRecord c s).flow.records.get c = .none := by
  simp [dropRecord]

theorem dropRecord_not_waiting (c : Consumer) (s : State) : c ∉ (dropRecord c s).flow.waiting := by
  simp [dropRecord]

theorem evaluateGrants_dropRecord_record (c : Consumer) (s : State) :
    (evaluateGrants (dropRecord c s)).flow.records.get c = .none :=
  ((evaluateGrants_grantsOnly _).records c (dropRecord_not_waiting c s)).trans (dropRecord_record c s)

/-- A consumer with a record drops it, and one grant evaluation follows; one without a record gives nothing back. -/
theorem giveBackFlow_cases (c : Consumer) (s : State) :
    s.flow.records.get c = .none ∧ giveBackFlow c s = s ∨ giveBackFlow c s = evaluateGrants (dropRecord c s) := by
  cases h : s.flow.records.get c with
  | none => exact .inl ⟨rfl, by simp [giveBackFlow, releaseGrant, withdrawRequest, h, isGranted, isWaiting]⟩
  | waiting d since => exact .inr (by simp [giveBackFlow, releaseGrant, withdrawRequest, h, isGranted, isWaiting])
  | granted units =>
    refine .inr ?_
    have gone := evaluateGrants_dropRecord_record c s
    simp [giveBackFlow, releaseGrant, withdrawRequest, h, isGranted, isWaiting, gone]

theorem giveBackFlow_record (c : Consumer) (s : State) : (giveBackFlow c s).flow.records.get c = .none := by
  obtain ⟨none, same⟩ | dropped := giveBackFlow_cases c s
  · rw [same, none]
  · rw [dropped, evaluateGrants_dropRecord_record]

theorem giveBackFlow_lifter_self (l : Lifter) (s : State) : (giveBackFlow (.lifter l) s).lifter l = s.lifter l := by
  obtain ⟨-, same⟩ | dropped := giveBackFlow_cases (.lifter l) s
  · rw [same]
  · rw [dropped]
    exact (evaluateGrants_grantsOnly _).unasked l (dropRecord_not_waiting _ s)

theorem giveBackFlow_lifters (c : Consumer) (s : State) (l : Lifter) :
    LifterUpToGrant (s.lifter l) ((giveBackFlow c s).lifter l) := by
  obtain ⟨-, same⟩ | dropped := giveBackFlow_cases c s
  · rw [same]; rfl
  · rw [dropped]
    exact (evaluateGrants_grantsOnly (dropRecord c s)).lifters l

theorem giveBackFlow_packers (c : Consumer) (s : State) (st : Stream) :
    PackerUpToGrant (s.packer st) ((giveBackFlow c s).packer st) := by
  obtain ⟨-, same⟩ | dropped := giveBackFlow_cases c s
  · rw [same]; rfl
  · rw [dropped]
    exact (evaluateGrants_grantsOnly (dropRecord c s)).packers st

theorem giveBackFlow_quiet (c : Consumer) (s : State) : PortsQuiet s (giveBackFlow c s) := by
  obtain ⟨-, same⟩ | dropped := giveBackFlow_cases c s
  · rw [same]; exact .refl s
  · rw [dropped]
    exact (evaluateGrants_grantsOnly (dropRecord c s)).ports.after rfl

/-- A grant leaves the bank of a lifter's context. -/
theorem LifterUpToGrant.bank {l : Lifter} (h : LifterUpToGrant (s.lifter l) (t.lifter l)) :
    (t.context l).map LiftContext.bank = (s.context l).map LiftContext.bank := by
  have contexts := congrArg (fun u => u.context.map LiftContext.bank) h
  simpa [bareLifter, bareContext, State.context, Function.comp_def] using contexts

/-! ### A window withdrawn (R103, R110) -/

theorem computationFor_congr {m : Lifter} (buffer : t.scan.buffers.get m = s.scan.buffers.get m)
    (bank : (t.context m).map LiftContext.bank = (s.context m).map LiftContext.bank)
    (timer : t.bodyTimer = s.bodyTimer) (calib : t.calib = s.calib) : computationFor m t = computationFor m s := by
  simp [computationFor, buffer, bank, timer, calib]

theorem startComputation_computation (s : State) :
    (startComputation s).weigh.computation = s.weigh.queue.head?.bind fun m => computationFor m s := by
  unfold startComputation
  split <;> simp_all

theorem startComputation_keeps (s : State) :
    (startComputation s).weigh.queue = s.weigh.queue ∧ (startComputation s).weigh.drift = s.weigh.drift
      ∧ (startComputation s).weigh.last = s.weigh.last := by
  unfold startComputation
  split <;> exact ⟨rfl, rfl, rfl⟩

theorem begun_of_computation {q : List Lifter}
    (h : t.weigh.computation = q.head?.bind fun m => computationFor m s) : Begun s t q := by
  cases q with
  | nil => exact h
  | cons m rest =>
    simp only [Begun]
    split
    · next held context => rw [h]; simp [computationFor, held, context]
    · trivial

theorem leaveQueue_keeps (l : Lifter) (s : State) :
    (leaveQueue l s).weigh.drift = s.weigh.drift ∧ (leaveQueue l s).weigh.last = s.weigh.last := by
  unfold leaveQueue
  split
  · exact ⟨rfl, rfl⟩
  · split
    · exact (startComputation_keeps _).2
    · exact ⟨rfl, rfl⟩

/-- A lifter behind the head of the service queue leaves it, and the computation goes on. -/
theorem leaveQueue_waiting {l : Lifter} (h : s.weigh.queue.head? ≠ some l) :
    (leaveQueue l s).weigh.queue = s.weigh.queue.filter (fun x => decide (x ≠ l))
      ∧ (leaveQueue l s).weigh.computation = s.weigh.computation := by
  unfold leaveQueue
  split
  · next empty => simp [empty]
  · next m rest queue =>
    have other : m ≠ l := by simpa [queue] using h
    simp [queue, other]

/-- The head of the service queue leaves it, and the next one comes into computation. -/
theorem leaveQueue_computing {l : Lifter} (h : s.weigh.queue.head? = some l) :
    (leaveQueue l s).weigh.queue = s.weigh.queue.tail
      ∧ (leaveQueue l s).weigh.computation = s.weigh.queue.tail.head?.bind fun m => computationFor m s := by
  unfold leaveQueue
  split
  · next empty => simp [empty] at h
  · next m rest queue =>
    obtain rfl : m = l := by simpa [queue] using h
    rw [if_pos rfl, (startComputation_keeps _).1, startComputation_computation, queue]
    exact ⟨rfl, rfl⟩

theorem withdrawWindow_scan (l : Lifter) (s : State) :
    (withdrawWindow l s).scan = { s.scan with buffers := s.scan.buffers.set l .empty } := by
  unfold withdrawWindow
  split
  · next empty => rw [← empty, PerLifter.set_get_self]
  · rfl
  · exact (leaveQueue_only l _).same .scan (by decide)

theorem withdrawWindow_keeps (l : Lifter) (s : State) :
    (withdrawWindow l s).weigh.drift = s.weigh.drift ∧ (withdrawWindow l s).weigh.last = s.weigh.last := by
  unfold withdrawWindow
  split
  · exact ⟨rfl, rfl⟩
  · exact ⟨rfl, rfl⟩
  · exact leaveQueue_keeps l _

theorem withdrawWindow_not_held {l : Lifter} (h : isHeld (s.scan.buffers.get l) = false) :
    (withdrawWindow l s).weigh = s.weigh := by
  unfold withdrawWindow
  split
  · rfl
  · rfl
  · next held => simp [held, isHeld] at h

theorem withdrawWindow_held {l : Lifter} (h : isHeld (s.scan.buffers.get l) = true) :
    withdrawWindow l s = leaveQueue l (s.withBuffer l .empty) := by
  unfold withdrawWindow
  split
  · next empty => simp [empty, isHeld] at h
  · next filling => simp [filling, isHeld] at h
  · rfl

/-- A window withdrawn after the lifter gave its flow back: what was granted meanwhile changes no input of the next
computation. -/
theorem withdrawWindow_windowGone {l : Lifter} (only : Only flowParts s t)
    (banks : ∀ m, m ≠ l → (t.context m).map LiftContext.bank = (s.context m).map LiftContext.bank) :
    WindowGone s (withdrawWindow l t) l := by
  have scan : t.scan = s.scan := only.same .scan (by decide)
  have weigh : t.weigh = s.weigh := only.same .weigh (by decide)
  have inputs : ∀ m, m ≠ l → computationFor m (t.withBuffer l .empty) = computationFor m s := fun m hm =>
    computationFor_congr (by simpa [State.withBuffer, scan] using PerLifter.get_set_of_ne _ _ _ _ hm) (banks m hm)
      (only.same .bodyTimer (by decide)) (only.same .calib (by decide))
  exact {
    buffer := by simp [withdrawWindow_scan]
    unqueued := fun held => (withdrawWindow_not_held (by rwa [scan])).trans weigh
    waiting := fun held head => by
      rw [withdrawWindow_held (by rwa [scan]), ← weigh]
      rw [← weigh] at head
      exact leaveQueue_waiting (s := t.withBuffer l .empty) head
    computing := fun held head tail => by
      rw [withdrawWindow_held (by rwa [scan])]
      rw [← weigh] at head tail ⊢
      obtain ⟨queue, computation⟩ := leaveQueue_computing (s := t.withBuffer l .empty) head
      refine ⟨queue, begun_of_computation (computation.trans ?_)⟩
      change t.weigh.queue.tail.head?.bind _ = _
      cases behind : t.weigh.queue.tail with
      | nil => rfl
      | cons m rest =>
        have other : m ≠ l := fun hm => tail (by simp [behind, hm])
        exact inputs m other
    results := (withdrawWindow_keeps l t).2.trans (by rw [weigh]) }

end Sys2Proof.Safety
end

section
/-! What a hold cause does to a lifter in each of its states (R19, R20), and from it R25. -/

namespace Sys2Proof.Safety

open Sys2Proof.Machine

variable {s t : State} {l : Lifter} {c : LiftContext}

/-! ### A hold in each state of the lifter -/

theorem holdLifter_idle (r : HoldReason) (h : s.context l = none) : holdLifter l r s = s := by
  simp [holdLifter, h]

theorem holdLifter_fault (r : HoldReason) (h : s.phase l = some .fault) : holdLifter l r s = s := by
  obtain ⟨c, context, phase⟩ : ∃ c, s.context l = some c ∧ c.phase = .fault := by simpa [State.phase] using h
  simp [holdLifter, context, phase]

theorem holdLifter_again {r : HoldReason} (context : s.context l = some c) (phase : c.phase = .held)
    (has : c.reasons.has r = true) : holdLifter l r s = s := by
  simp [holdLifter, context, phase, has]

theorem holdLifter_added {r : HoldReason} (context : s.context l = some c) (phase : c.phase = .held)
    (has : c.reasons.has r = false) :
    holdLifter l r s = latchAll .liftHeld (s.withContext l (some { c with reasons := c.reasons.add r })) := by
  simp [holdLifter, State.mapContext, context, phase, has]

theorem holdLifter_moving (r : HoldReason) (context : s.context l = some c) (holdable : isHoldable c.phase = true) :
    holdLifter l r s = holdMoving l r c s := by
  cases phase : c.phase <;> simp_all [holdLifter, isHoldable]

/-! ### A lifter held from an active state or RETURNING (R19) -/

/-- A lifter's own side of its entry into HELD: valves off, timers stopped, the phase remembered. -/
def heldUnit (u : LifterUnit) (r : HoldReason) (c : LiftContext) : LifterUnit :=
  { u with
    raiseValve := false
    lowerValve := false
    context := some { stopTimers c with
      remembered := some c.phase, phase := .held, reasons := HoldReasons.add {} r } }

/-- A hold as far as the flow given back: only a weigh phase's window and the event are left to do. -/
def holdGivesBack (l : Lifter) (r : HoldReason) (c : LiftContext) (s : State) : State :=
  giveBackFlow (.lifter l) (s.withLifter l (heldUnit (s.lifter l) r c))

/-- A hold before its event: the window of a weigh phase is withdrawn. -/
def holdWithdraws (l : Lifter) (r : HoldReason) (c : LiftContext) (s : State) : State :=
  if isWeigh c.phase then withdrawWindow l (holdGivesBack l r c s) else holdGivesBack l r c s

theorem holdMoving_eq (l : Lifter) (r : HoldReason) (c : LiftContext) (s : State) :
    holdMoving l r c s = latchAll .liftHeld (holdWithdraws l r c s) := rfl

theorem holdGivesBack_only (l : Lifter) (r : HoldReason) (c : LiftContext) (s : State) :
    Only flowParts s (holdGivesBack l r c s) :=
  (withLifter_only s l _).both (giveBackFlow_only _ _) (by decide) (fun _ h => h)

theorem holdGivesBack_self (l : Lifter) (r : HoldReason) (c : LiftContext) (s : State) :
    (holdGivesBack l r c s).lifter l = heldUnit (s.lifter l) r c :=
  (giveBackFlow_lifter_self l _).trans (lifter_withLifter_self s l _)

theorem holdGivesBack_of_ne (r : HoldReason) (c : LiftContext) (s : State) {m : Lifter} (h : m ≠ l) :
    LifterUpToGrant (s.lifter m) ((holdGivesBack l r c s).lifter m) := by
  have granted := giveBackFlow_lifters (.lifter l) (s.withLifter l (heldUnit (s.lifter l) r c)) m
  rwa [lifter_withLifter_of_ne _ _ _ _ h] at granted

theorem holdWithdraws_only (l : Lifter) (r : HoldReason) (c : LiftContext) (s : State) :
    Only [.scan, .weigh] (holdGivesBack l r c s) (holdWithdraws l r c s) :=
  Only.ite (withdrawWindow_only l _) (Only.refl _ _)

theorem holdWithdraws_weigh (r : HoldReason) (s : State) (h : isWeigh c.phase = true) :
    WindowGone s (holdWithdraws l r c s) l := by
  rw [holdWithdraws, if_pos h]
  exact withdrawWindow_windowGone (holdGivesBack_only l r c s) fun m hm => (holdGivesBack_of_ne r c s hm).bank

theorem holdWithdraws_other (r : HoldReason) (s : State) (h : isWeigh c.phase = false) :
    (holdWithdraws l r c s).scan = s.scan ∧ (holdWithdraws l r c s).weigh = s.weigh := by
  simp only [holdWithdraws, h, Bool.false_eq_true, if_false]
  exact ⟨(holdGivesBack_only l r c s).same .scan (by decide), (holdGivesBack_only l r c s).same .weigh (by decide)⟩

theorem otherLifter_ne (l : Lifter) : otherLifter l ≠ l := by cases l <;> decide

/-- Of the scan unit and the weigh engine a hold reaches the lifter's buffer, the queue and the computation alone. -/
theorem holdWithdraws_window (l : Lifter) (r : HoldReason) (c : LiftContext) (s : State) :
    (holdWithdraws l r c s).scan =
        { s.scan with buffers := s.scan.buffers.set l ((holdWithdraws l r c s).scan.buffers.get l) }
      ∧ (holdWithdraws l r c s).weigh.drift = s.weigh.drift
      ∧ (holdWithdraws l r c s).weigh.last = s.weigh.last := by
  cases weighs : isWeigh c.phase with
  | false =>
    obtain ⟨scan, weigh⟩ := holdWithdraws_other (l := l) r s weighs
    simp [scan, weigh]
  | true =>
    have scan : (holdGivesBack l r c s).scan = s.scan := (holdGivesBack_only l r c s).same .scan (by decide)
    have weigh : (holdGivesBack l r c s).weigh = s.weigh := (holdGivesBack_only l r c s).same .weigh (by decide)
    obtain ⟨drift, last⟩ := withdrawWindow_keeps l (holdGivesBack l r c s)
    rw [holdWithdraws, if_pos weighs, drift, last, withdrawWindow_scan, scan, weigh]
    simp

/-- A hold leaves the other lifter and the packers up to grants. -/
theorem holdWithdraws_others (l : Lifter) (r : HoldReason) (c : LiftContext) (s : State) :
    OthersKept s (holdWithdraws l r c s) l := by
  have lifters : (holdWithdraws l r c s).lifters = (holdGivesBack l r c s).lifters :=
    (holdWithdraws_only l r c s).same .lifters (by decide)
  have packers : (holdWithdraws l r c s).packers = (holdGivesBack l r c s).packers :=
    (holdWithdraws_only l r c s).same .packers (by decide)
  obtain ⟨scan, drift, last⟩ := holdWithdraws_window l r c s
  refine ⟨?_, fun st => ?_, scan, drift, last⟩
  · simp only [State.lifter, lifters]
    exact holdGivesBack_of_ne r c s (otherLifter_ne l)
  · simp only [State.packer, packers]
    exact giveBackFlow_packers (.lifter l) (s.withLifter l (heldUnit (s.lifter l) r c)) st

/-- What reaches at most the parts of a hold leaves the ground and the books. -/
theorem sameBooks_of_only (h : Only liftParts s t) : SameBooks s t where
  pending := h.same .pending (by decide)
  resetHeld := h.same .resetHeld (by decide)
  bodyTimer := h.same .bodyTimer (by decide)
  freeIndex := h.same .freeIndex (by decide)
  banks := h.same .banks (by decide)
  bodyLimit := h.same .bodyLimit (by decide)
  calib := h.same .calib (by decide)
  access := h.same .access (by decide)
  loader := h.same .loader (by decide)
  body := h.same .body (by decide)
  compartments := h.same .compartments (by decide)
  tags := h.same .tags (by decide)
  journal := h.same .journal (by decide)
  integrity := h.same .integrity (by decide)

theorem holdMoving_quiet (l : Lifter) (r : HoldReason) (c : LiftContext) (s : State) :
    PortsQuiet s (holdMoving l r c s) := by
  have gives : PortsQuiet s (holdGivesBack l r c s) :=
    (giveBackFlow_quiet (.lifter l) (s.withLifter l (heldUnit (s.lifter l) r c))).after rfl
  have withdraws : PortsQuiet (holdGivesBack l r c s) (holdWithdraws l r c s) :=
    .of_ports_eq ((holdWithdraws_only l r c s).same .ports (by decide))
  rw [holdMoving_eq]
  exact (gives.trans withdraws).trans (latchAll_quiet _ _)

/-- A lifter held from an active state or RETURNING enters HELD with the one reason (R19). -/
theorem holdMoving_heldAfter (l : Lifter) (r : HoldReason) (c : LiftContext) (s : State) :
    HeldAfter s (holdMoving l r c s) l c (HoldReasons.add {} r) := by
  have only := holdWithdraws_only l r c s
  have unit : (holdMoving l r c s).lifter l = heldUnit (s.lifter l) r c := by
    have lifters : (holdWithdraws l r c s).lifters = (holdGivesBack l r c s).lifters := only.same .lifters (by decide)
    have own := holdGivesBack_self l r c s
    rwa [State.lifter, ← lifters] at own
  have flow : (holdWithdraws l r c s).flow = (holdGivesBack l r c s).flow := only.same .flow (by decide)
  have others := holdWithdraws_others l r c s
  exact {
    context := by rw [State.context, unit]; rfl
    raiseOff := by rw [unit]; rfl
    lowerOff := by rw [unit]; rfl
    flow := by
      change (holdWithdraws l r c s).flow.records.get (.lifter l) = .none
      rw [flow]
      exact giveBackFlow_record _ _
    window := fun h => by
      have gone := holdWithdraws_weigh (l := l) r s h
      exact ⟨gone.buffer, gone.unqueued, gone.waiting, gone.computing, gone.results⟩
    buffer := holdWithdraws_other r s
    event := latchAll_latchedAll _ _
    unit := by rw [unit]; exact ⟨rfl, rfl, rfl, rfl, rfl⟩
    fault := by rw [unit]; rfl
    others := ⟨others.lifter, others.packers, others.scan, others.drift, others.last⟩
    books := sameBooks_of_only (holdMoving_only l r c s) }

/-! ### The operator's hold (R25) -/

theorem holdLifter_quiet (l : Lifter) (r : HoldReason) (s : State) : PortsQuiet s (holdLifter l r s) := by
  unfold holdLifter
  split
  · exact .refl s
  · split
    · exact .refl s
    · split
      · exact .refl s
      · exact (latchAll_quiet _ _).after rfl
    · exact holdMoving_quiet l r _ s

theorem holdLifter_stopEffect (l : Lifter) (s : State) : StopEffect s (holdLifter l .operator s) l where
  idle h := by rw [holdLifter_idle _ h, withPorts_self]
  fault h := by rw [holdLifter_fault _ h, withPorts_self]
  again c context phase has := by rw [holdLifter_again (r := .operator) context phase has, withPorts_self]
  added c context phase has := by
    rw [holdLifter_added (r := .operator) context phase has]
    exact ⟨latchAll_latchedAll _ _, rfl⟩
  held c context holdable := by
    rw [holdLifter_moving _ context holdable]
    exact holdMoving_heldAfter l .operator c s

/-! ### The effect with the request's port around it -/

theorem SameBooks.withPorts {P Q : PerPort PortState} (h : SameBooks (s.withPorts P) t) :
    SameBooks s (t.withPorts Q) :=
  ⟨⟨h.pending, h.resetHeld, h.bodyTimer, h.freeIndex, h.banks, h.bodyLimit, h.calib, h.access, h.loader⟩, h.body,
    h.compartments, h.tags, h.journal, h.integrity⟩

theorem HeldAfter.withPorts {r : HoldReasons} {P Q : PerPort PortState} (h : HeldAfter (s.withPorts P) t l c r)
    (event : LatchedAll .liftHeld (t.withPorts Q)) : HeldAfter s (t.withPorts Q) l c r where
  context := h.context
  raiseOff := h.raiseOff
  lowerOff := h.lowerOff
  flow := h.flow
  window w :=
    have gone := h.window w
    ⟨gone.buffer, gone.unqueued, gone.waiting, gone.computing, gone.results⟩
  buffer := h.buffer
  event := event
  unit := h.unit
  fault := h.fault
  others := ⟨h.others.lifter, h.others.packers, h.others.scan, h.others.drift, h.others.last⟩
  books := h.books.withPorts

theorem withPorts_cancel {P Q : PerPort PortState} (h : t.withPorts P = s.withPorts P) :
    (t.withPorts Q).withPorts s.ports = s := by
  simpa using congrArg (State.withPorts · s.ports) h

/-- The effect on the lifter is the same whatever the ports were doing before and whatever they do after, as long as
they keep the event. -/
theorem StopEffect.withPorts {P Q : PerPort PortState} (h : StopEffect (s.withPorts P) t l)
    (latched : LatchedAll .liftHeld t → LatchedAll .liftHeld (t.withPorts Q)) : StopEffect s (t.withPorts Q) l where
  idle context := withPorts_cancel (h.idle context)
  fault phase := withPorts_cancel (h.fault phase)
  again c context phase has := withPorts_cancel (h.again c context phase has)
  added c context phase has :=
    have ⟨event, reasons⟩ := h.added c context phase has
    ⟨latched event, congrArg (State.withPorts · s.ports) reasons⟩
  held c context holdable :=
    have held := h.held c context holdable
    held.withPorts (latched held.event)

/-- The lifter's part of a request taken by a port and answered by it. -/
theorem StopEffect.answered {p : Port} {n kb : Byte} {r : Reply} (h : StopEffect (takeRequest p n kb s) t l) :
    StopEffect s (answerPort p r t) l := by
  have ports : answerPort p r t = t.withPorts (answerPort p r t).ports := by
    unfold answerPort
    split <;> rfl
  have latched : LatchedAll .liftHeld t → LatchedAll .liftHeld (answerPort p r t) := fun event q => by
    rw [answerPort_latched]
    exact event q
  rw [ports] at latched ⊢
  exact StopEffect.withPorts h latched

/-! ### Stop Lift and the rear stop button -/

theorem decideStopLift_some {d : List Byte} (h : lifterArg (byteAt d 0) = some l) (s : State) :
    decideStopLift d s = taken (holdLifter l .operator s) := by
  simp [decideStopLift, h]

theorem decideStopLift_none {d : List Byte} (h : lifterArg (byteAt d 0) = none) (s : State) :
    decideStopLift d s = declined .badArgument s := by
  simp [decideStopLift, h]

/-- Stop Lift with a lifter (R25): answered OK, and the lifter is held. -/
theorem stopLift_holds {p : Port} {d : List Byte} (n : Byte) (accepts : Accepts .stopLift p d s)
    (arg : lifterArg (byteAt d 0) = some l) :
    ∃ t, exec (.stopLift p n d) s = .next t ∧ Answered s t p n .stopLift (.ok []) ∧ StopEffect s t l := by
  refine ⟨_, rfl, ?_⟩
  rw [serve_of_accepts n _ accepts, decideStopLift_some arg]
  exact ⟨answerPort_answered (.ok []) (holdLifter_quiet l .operator _), (holdLifter_stopEffect l _).answered⟩

/-- Stop Lift without a lifter (R197, R217). -/
theorem stopLift_badArgument {p : Port} {d : List Byte} (n : Byte) (accepts : Accepts .stopLift p d s)
    (arg : lifterArg (byteAt d 0) = none) :
    exec (.stopLift p n d) s = .next (replied p n .stopLift .badArgument s) :=
  congrArg Host.Outcome.next (serve_declined n accepts (decideStopLift_none arg))

/-- A press of a rear stop button that was not pressed (R25, R26). -/
theorem rearStopPress_holds (awake : s.resetHeld = false) (released : (s.lifter l).stopPressed = false) :
    exec (.rearStopPress l) s =
      .next (holdLifter l .operator (s.withLifter l { s.lifter l with stopPressed := true })) := by
  change execRearStopPress l s = _
  simp [execRearStopPress, awake, released]

/-- Settles O9: Stop Lift and the rear stop button both come down to the operator's hold, whose effect
`holdLifter_stopEffect` gives for each state of the lifter. -/
theorem stopLiftHolds : Obligations.StopLiftHolds := by
  intro p n d l s
  refine ⟨stopLift_holds n, stopLift_badArgument n, fun awake released => ?_⟩
  refine ⟨_, rearStopPress_holds awake released, ?_, holdLifter_stopEffect l _⟩
  exact (holdLifter_quiet l .operator _).after rfl

end Sys2Proof.Safety
end

section
/-! SUPPORT. The sequence numbers of the journal (R174, R176): the record at an index has its position-derived
sequence, and `classify` sorts a sequence number as `HeldSeq`, `NewerSeq` and `OlderSeq` say. -/

namespace Sys2Proof.Safety

open Sys2Proof.Machine

variable {s : State} {n m k i : Nat} {w : JournalSlot}

/-! ### Quantities and ranges -/

theorem beNat_lt (d : List Byte) : beNat d < 256 ^ d.length := by
  induction d using List.reverseRecOn with
  | nil => simp [beNat]
  | append_singleton d b ih =>
    have concat : beNat (d ++ [b]) = beNat d * 256 + b.toNat := by simp [beNat]
    rw [concat, List.length_append, List.length_singleton, pow_succ]
    have := b.isLt
    omega

/-- Four bytes name at most the greatest sequence number. -/
theorem beAt_four_le (d : List Byte) (i : Nat) : beAt d i 4 ≤ sequenceCount := by
  have small : beAt d i 4 < 256 ^ ((d.drop i).take 4).length := beNat_lt _
  have short : 256 ^ ((d.drop i).take 4).length ≤ 256 ^ 4 :=
    Nat.pow_le_pow_right (by decide) (List.length_take_le ..)
  simp only [sequenceCount]
  omega

/-! ### Counting from 2^32-1 on to 1 -/

/-- The sequence numbers: 1 to 2^32-1 (R171). -/
def IsSeq (n : Nat) : Prop := 1 ≤ n ∧ n ≤ 4294967295

theorem seqAfter_isSeq (n k : Nat) : IsSeq (seqAfter n k) := by
  simp only [IsSeq, seqAfter]
  omega

theorem seqBefore_zero (hn : IsSeq n) : seqBefore n 0 = n := by
  simp only [IsSeq, seqBefore, sequenceCount] at *
  omega

theorem eq_seqBefore_succ (hm : IsSeq m) (h : nextSeq m = seqBefore n k) : m = seqBefore n (k + 1) := by
  unfold nextSeq at h
  split at h <;> simp only [IsSeq, seqBefore, sequenceCount] at * <;> omega

theorem seqBehind_seqBefore (hn : IsSeq n) (hk : k < sequenceCount) : seqBehind n (seqBefore n k) = k := by
  simp only [IsSeq, seqBehind, seqBefore, sequenceCount] at *
  omega

theorem seqBefore_seqBehind (hn : IsSeq n) (hm : IsSeq m) : seqBefore n (seqBehind n m) = m := by
  simp only [IsSeq, seqBehind, seqBefore, sequenceCount] at *
  omega

theorem seqAhead_seqAfter (hn : IsSeq n) (hk : k < sequenceCount) : seqAhead n (seqAfter n k) = k := by
  simp only [IsSeq, seqAhead, seqAfter, sequenceCount] at *
  omega

theorem seqAfter_seqAhead (hn : IsSeq n) (hm : IsSeq m) : seqAfter n (seqAhead n m) = m := by
  simp only [IsSeq, seqAhead, seqAfter, sequenceCount] at *
  omega

/-! ### The records' sequences -/

/-- Counted back from the newest record, each has the sequence that many before the next sequence number. -/
theorem slotSequence_eq_seqBefore (law : SequenceLaw s) (found : s.journal.slots[i]? = some w)
    (back : s.journal.slots.length = i + (k + 1)) : slotSequence w = seqBefore s.journal.nextSequence (k + 1) := by
  have range : IsSeq (slotSequence w) := law.range w (List.mem_of_getElem? found)
  induction k generalizing i w with
  | zero =>
    have last : s.journal.slots.getLast? = some w := by rw [List.getLast?_eq_getElem?, back]; exact found
    exact eq_seqBefore_succ range (by rw [seqBefore_zero law.next, law.newest w last])
  | succ k ih =>
    have inside : i + 1 < s.journal.slots.length := by omega
    have after : s.journal.slots[i + 1]? = some s.journal.slots[i + 1] := List.getElem?_eq_getElem inside
    refine eq_seqBefore_succ range ?_
    rw [← law.consecutive i w _ found after]
    exact ih after (by omega) (law.range _ (List.mem_of_getElem? after))

/-- A record's sequence is the one derived from its position (R174, R188). -/
theorem slotSequence_eq_seqOfIndex (law : SequenceLaw s) (found : s.journal.slots[i]? = some w) :
    slotSequence w = seqOfIndex s.journal i := by
  obtain ⟨inside, -⟩ := List.getElem?_eq_some_iff.mp found
  obtain ⟨k, hk⟩ := Nat.exists_eq_add_of_lt inside
  rw [seqOfIndex, show s.journal.slots.length - i = k + 1 by omega]
  exact slotSequence_eq_seqBefore law found hk

/-! ### The classes of R176 -/

/-- The sequence of the record at an index is held there. -/
theorem classify_held (law : SequenceLaw s) (capacity : s.journal.slots.length ≤ 1024)
    (found : s.journal.slots[i]? = some w) : classify s.journal (slotSequence w) = .held i := by
  obtain ⟨inside, -⟩ := List.getElem?_eq_some_iff.mp found
  have back : seqBehind s.journal.nextSequence (slotSequence w) = s.journal.slots.length - i := by
    rw [slotSequence_eq_seqOfIndex law found]
    exact seqBehind_seqBefore law.next (by simp only [sequenceCount]; omega)
  simp only [classify, back]
  rw [if_pos (by omega)]
  congr 1
  omega

/-- A sequence number that no record has lies behind the oldest record, or ahead of the newest. -/
theorem seqBehind_of_not_held (law : SequenceLaw s) (hn : IsSeq n)
    (absent : ∀ w ∈ s.journal.slots, slotSequence w ≠ n) :
    ¬ (0 < seqBehind s.journal.nextSequence n
      ∧ seqBehind s.journal.nextSequence n ≤ s.journal.slots.length) := by
  rintro ⟨positive, within⟩
  have inside : s.journal.slots.length - seqBehind s.journal.nextSequence n < s.journal.slots.length := by omega
  refine absent _ (List.getElem_mem inside) ?_
  rw [slotSequence_eq_seqOfIndex law (List.getElem?_eq_getElem inside), seqOfIndex, Nat.sub_sub_self within]
  exact seqBefore_seqBehind law.next hn

/-- The next 2^31 sequence numbers, by their distance and one by one. -/
theorem seqAhead_lt_iff (law : SequenceLaw s) (hn : IsSeq n) :
    seqAhead s.journal.nextSequence n < 2147483648 ↔
      ∃ k, k < 2147483648 ∧ n = seqAfter s.journal.nextSequence k := by
  refine ⟨fun near => ⟨_, near, (seqAfter_seqAhead law.next hn).symm⟩, ?_⟩
  rintro ⟨k, near, rfl⟩
  rwa [seqAhead_seqAfter law.next (by simp only [sequenceCount]; omega)]

theorem NewerSeq.isSeq (h : NewerSeq s n) : IsSeq n := by
  obtain ⟨-, k, -, rfl⟩ := h
  exact seqAfter_isSeq _ k

theorem classify_newer (law : SequenceLaw s) (h : NewerSeq s n) : classify s.journal n = .newer := by
  have hn : IsSeq n := h.isSeq
  obtain ⟨absent, ahead⟩ := h
  simp only [classify, if_neg (seqBehind_of_not_held law hn absent), if_pos ((seqAhead_lt_iff law hn).mpr ahead)]

theorem classify_older (law : SequenceLaw s) (hn : IsSeq n) (h : OlderSeq s n) : classify s.journal n = .older := by
  obtain ⟨absent, notNewer⟩ := h
  have far : ¬ seqAhead s.journal.nextSequence n < 2147483648 := fun near =>
    notNewer ⟨absent, (seqAhead_lt_iff law hn).mp near⟩
  simp only [classify, if_neg (seqBehind_of_not_held law hn absent), if_neg far]

end Sys2Proof.Safety
end

section
/-! PROOFS. Acknowledge Journal (R178). -/

namespace Sys2Proof.Safety

open Sys2Proof.Machine

variable {s t : State} {n : Nat} {p : Port} {d : List Byte} {c : SeqClass}

/-! ### Requests that change more than their port -/

theorem takeRequest_withJournal (p : Port) (number kb : Byte) (s : State) (j : Journal) :
    (takeRequest p number kb s).withJournal j = takeRequest p number kb (s.withJournal j) := rfl

/-- A request whose owner decides on an answer and a next state that holds the port as the request took it. -/
theorem serve_decided {k : Kind} {owner : State → Decision} {r : Reply} (number : Byte) (accepts : Accepts k p d s)
    (decides : owner (takeRequest p number k.code s) = (takeRequest p number k.code t, some r)) :
    serve k p number d owner s = replied p number k r t := by
  rw [serve_of_accepts number owner accepts, decides]
  change answerPort p r (takeRequest p number k.code t) = _
  rw [answerPort_of_waiting r (takeRequest_service p number k.code t)]
  simp [takeRequest, replied, sent]

/-! ### Acknowledge Journal -/

/-- The journal that R178 leaves for each class of the through-sequence. -/
def acknowledgedJournal (j : Journal) : SeqClass → Journal
  | .held i => { j with slots := j.slots.drop (i + 1) }
  | .older | .newer => j

/-- The answer that R178 gives for each class of the through-sequence. -/
def acknowledgedReply : SeqClass → Reply
  | .held i => .ok (beBytes 2 (i + 1))
  | .older => .ok [0, 0]
  | .newer => .badArgument

/-- Acknowledge Journal by the class of its sequence. (`acknowledge` is unfolded as a function: applied to variables,
the kernel would evaluate their class, and count to 2^32-1 on the way.) -/
theorem acknowledge_of_class (h : classify s.journal n = c) :
    acknowledge n s = (s.withJournal (acknowledgedJournal s.journal c), some (acknowledgedReply c)) := by
  generalize unfolded : acknowledge = f
  delta acknowledge at unfolded
  subst unfolded
  beta_reduce
  rw [h]
  cases c <;> rfl

theorem decideAcknowledgeJournal_of_pos (h : 1 ≤ beAt d 0 4) (s : State) :
    decideAcknowledgeJournal d s = acknowledge (beAt d 0 4) s := by
  simp [decideAcknowledgeJournal, within, h, beAt_four_le d 0]

theorem decideAcknowledgeJournal_of_zero (h : beAt d 0 4 = 0) (s : State) :
    decideAcknowledgeJournal d s = declined .badArgument s := by
  simp [decideAcknowledgeJournal, within, h]

/-- A through-sequence that is not 0 is answered by its class. -/
theorem acknowledgeJournal_of_class (number : Byte) (accepts : Accepts .acknowledgeJournal p d s)
    (positive : 1 ≤ beAt d 0 4) (classified : classify s.journal (beAt d 0 4) = c) :
    exec (.acknowledgeJournal p number d) s =
      .next (replied p number .acknowledgeJournal (acknowledgedReply c)
        (s.withJournal (acknowledgedJournal s.journal c))) := by
  refine congrArg Host.Outcome.next (serve_decided number accepts ?_)
  have taken : (takeRequest p number Kind.acknowledgeJournal.code s).journal = s.journal := rfl
  rw [decideAcknowledgeJournal_of_pos positive, acknowledge_of_class (taken ▸ classified), takeRequest_withJournal,
    taken]

/-- Settles O39: `classify` finds each class as the statement names it, and Acknowledge Journal answers by class. -/
theorem acknowledgeRemoves : Obligations.AcknowledgeRemoves := by
  intro p number d i w s accepts law capacity
  refine ⟨fun found named => ?held, fun positive older => ?older, fun positive newer => ?newer, fun zero => ?zero⟩
  case held =>
    obtain ⟨positive, -⟩ := law.range w (List.mem_of_getElem? found)
    have held : classify s.journal (slotSequence w) = .held i := classify_held law capacity found
    rw [named] at positive held
    exact acknowledgeJournal_of_class number accepts positive held
  case older =>
    have hn : IsSeq (beAt d 0 4) := ⟨positive, beAt_four_le d 0⟩
    exact acknowledgeJournal_of_class number accepts positive (classify_older law hn older)
  case newer =>
    exact acknowledgeJournal_of_class number accepts positive (classify_newer law newer)
  case zero =>
    exact congrArg Host.Outcome.next (serve_declined number accepts (decideAcknowledgeJournal_of_zero zero))

end Sys2Proof.Safety
end

section
/-! SUPPORT. Which parts of the state each command can change, in one table: `parts i` holds every field that a command
i may change, and `exec_only` says so of every command. -/

namespace Sys2Proof.Safety

open Sys2Proof.Machine

variable {s t : State} {p : Port} {d : List Byte} {c : List Field}

/-! ### Requests -/

theorem answerPort_only (p : Port) (r : Reply) (s : State) : Only [.ports] s (answerPort p r s) := by
  unfold answerPort
  split
  · exact withPort_only s p _
  · exact Only.refl _ s

theorem takeRequest_only (p : Port) (n kb : Byte) (s : State) : Only [.ports] s (takeRequest p n kb s) :=
  withPort_only s p _

theorem refuseAtPort_only (p : Port) (r : Reply) (s : State) : Only [.ports] s (refuseAtPort p r s) := by
  refine Only.step ?_ (answerPort_only p r _)
  exact (latchPort_only _ _ _).ite (Only.refl _ s)

theorem overrunPort_only (p : Port) (s : State) : Only [.ports] s (overrunPort p s) :=
  (withPort_only s p _).step (latchPort_only _ _ _)

theorem badFramePort_only (p : Port) (s : State) : Only [.ports] s (badFramePort p s) :=
  (withPort_only s p _).step (latchPort_only _ _ _)

theorem finishRequest_only (p : Port) (x : Decision) : Only [.ports] x.1 (finishRequest p x) := by
  unfold finishRequest
  split
  · exact answerPort_only _ _ _
  · exact Only.refl _ _

/-- A request changes its port and what its owner changes. -/
theorem serve_only_of {k : Kind} (n : Byte) {owner : State → Decision}
    (decides : ∀ x y, owner x = y → Only c x y.1) (ports : Field.ports ∈ c) : Only c s (serve k p n d owner s) := by
  have widen : ∀ q ∈ [Field.ports], q ∈ c := fun q hq => by rw [List.mem_singleton.mp hq]; exact ports
  unfold serve
  split
  · exact Only.refl _ s
  · split
    · exact (overrunPort_only p s).mono widen
    · split
      · exact ((takeRequest_only p n _ s).step (refuseAtPort_only p _ _)).mono widen
      · exact (((takeRequest_only p n _ s).mono widen).step (decides _ _ rfl)).step
          ((finishRequest_only p _).mono widen)

theorem serve_only {k : Kind} (n : Byte) {owner : State → Decision} (decides : ∀ x, Only c x (owner x).1)
    (ports : Field.ports ∈ c) : Only c s (serve k p n d owner s) :=
  serve_only_of n (fun x _ h => h ▸ decides x) ports

/-- An owner that answers from the state as it stands. -/
theorem declined_only (r : Reply) (s : State) : Only c s (declined r s).1 := Only.refl _ s

/-! ### Named updates whose frame stands nowhere else -/

theorem withBanks_only (s : State) (v : PerProfile Bank) : Only [.banks] s (s.withBanks v) := by
  intro q _; cases q <;> first | rfl | contradiction
theorem withBodyLimit_only (s : State) (v : Nat) : Only [.bodyLimit] s (s.withBodyLimit v) := by
  intro q _; cases q <;> first | rfl | contradiction
theorem withAccess_only (s : State) (v : Access) : Only [.access] s (s.withAccess v) := by
  intro q _; cases q <;> first | rfl | contradiction

/-! ### Lift requests -/

/-- The parts that a lift start reaches. -/
abbrev startParts : List Field := [.tags, .integrity, .ports, .lifters, .body, .journal, .flow, .packers]

theorem acceptStart_only (l : Lifter) (arg : Option Stream) (tag : Option Nat) (entry : Option AccountEntry)
    (s : State) : Only startParts s (acceptStart l arg tag entry s) := by
  refine Only.both (a := startParts) ?_ (enterMotion_only l _ _) (fun q h => h) (by decide)
  have h : Only startParts s _ := (((withContext_only s l (some (newContext l arg tag entry s))).both
    (evaluateInhibit_only _) (c := startParts) (by decide) (by decide))).both (makeReservation_only l _)
    (fun q h => h) (by decide)
  exact Only.ite (h.both (withTags_only _ _) (fun q h => h) (by decide)) h

theorem startLifter_only (l : Lifter) (arg : Option Stream) (src : StartSource) (s : State) :
    Only startParts s (startLifter l arg src s).2 := by
  unfold startLifter
  have tag := (tagPermission_only l s).mono (d := startParts) (by decide)
  split
  · exact (refuseStart_only l src _ s).mono (by decide)
  · split
    · next x hx => rw [hx] at tag; exact tag.both (refuseStart_only l src _ _) (fun q h => h) (by decide)
    · next x hx =>
      rw [hx] at tag
      split
      · exact tag.both (refuseStart_only l src _ _) (fun q h => h) (by decide)
      · exact tag.step (acceptStart_only l arg _ _ _)

theorem decideStartLift_only (p : Port) (d : List Byte) (s : State) :
    Only startParts s (decideStartLift p d s).1 := by
  unfold decideStartLift
  split
  · next l arg _ _ =>
    have h := startLifter_only l arg (.port p) s
    split
    · split <;> (next hx => rw [hx] at h; exact h)
    · exact Only.refl _ s
  · exact Only.refl _ s

theorem decideStopLift_only (d : List Byte) (s : State) : Only liftParts s (decideStopLift d s).1 := by
  unfold decideStopLift
  split
  · exact holdLifter_only _ _ s
  · exact Only.refl _ s

theorem decideResumeLift_only (d : List Byte) (s : State) : Only flowParts s (decideResumeLift d s).1 := by
  unfold decideResumeLift
  split
  · split
    · exact Only.refl _ s
    · exact Only.refl _ s
    · next h => exact resumeLifter_only _ s _ h
  · exact Only.refl _ s

theorem decideAbortLift_only (d : List Byte) (s : State) : Only liftParts s (decideAbortLift d s).1 := by
  unfold decideAbortLift
  split
  · split
    · exact Only.refl _ s
    · exact Only.refl _ s
    · next h => exact abortLifter_only _ s _ h
  · exact Only.refl _ s

theorem decideSelectProfile_only (d : List Byte) (s : State) :
    Only [.lifters, .ports] s (decideSelectProfile d s).1 := by
  unfold decideSelectProfile
  split
  · exact (withLifter_only s _ _).mono (by decide)
  · exact Only.refl _ s

theorem decideSetBank_only (d : List Byte) (s : State) : Only [.banks, .ports] s (decideSetBank d s).1 := by
  unfold decideSetBank
  split
  · split
    · exact Only.refl _ s
    · exact (withBanks_only s _).mono (by decide)
  · exact Only.refl _ s

theorem decideSetLifterDefaults_only (d : List Byte) (s : State) :
    Only [.lifters, .ports] s (decideSetLifterDefaults d s).1 := by
  unfold decideSetLifterDefaults
  split
  · split
    · exact Only.refl _ s
    · exact (withLifter_only s _ _).mono (by decide)
  · exact Only.refl _ s

theorem decideSetTagThreshold_only (d : List Byte) (s : State) :
    Only [.tags, .ports] s (decideSetTagThreshold d s).1 := by
  unfold decideSetTagThreshold
  split
  · split
    · exact Only.refl _ s
    · exact (withTags_only s _).mono (by decide)
  · exact Only.refl _ s

/-! ### Pack requests -/

theorem decidePackCycle_only (d : List Byte) (s : State) : Only flowParts s (decidePackCycle d s).1 := by
  unfold decidePackCycle
  split
  · split <;> exact addCycle_only _ s
  · exact Only.refl _ s

theorem retractForStop_only (st : Stream) (s : State) : Only flowParts s (retractForStop st s) :=
  (withPacker_only s st _).both (enterStroke_only st _ _) (by decide) (fun q h => h)

theorem cutExtend_only (st : Stream) (s : State) : Only flowParts s (cutExtend st s) :=
  ((withPacker_only s st _).both (giveBackFlow_only _ _) (by decide) (fun q h => h)).step (retractForStop_only st _)

theorem stopByState_only (st : Stream) (s : State) : Only flowParts s (stopByState st s) := by
  have pack (k : Packer) : Only flowParts s (s.withPacker st k) := (withPacker_only s st k).mono (by decide)
  unfold stopByState
  split
  · exact Only.refl _ s
  · exact cutExtend_only st s
  · exact pack _
  · exact pack _
  · exact retractForStop_only st s
  · exact packerToIdle_only st s
  · exact (retractForStop_only st s).ite (pack _)
  · exact Only.refl _ s
  · exact (pack _).ite (packerToIdle_only st s)

theorem decidePackStop_only (d : List Byte) (s : State) : Only flowParts s (decidePackStop d s).1 := by
  unfold decidePackStop
  split
  · exact (withPacker_only s _ _).both (stopByState_only _ _) (by decide) (fun q h => h)
  · exact Only.refl _ s

theorem stepWithTailgate_only (h : Only c s t) : Only c s (stepWithTailgate s t).1 := by
  unfold stepWithTailgate
  split
  · exact h
  · exact Only.refl _ s

theorem decidePackStep_only (d : List Byte) (s : State) : Only flowParts s (decidePackStep d s).1 := by
  unfold decidePackStep
  split
  · split
    · exact Only.refl _ s
    · unfold stepByState
      split
      · exact stepWithTailgate_only (startCycle_only _ s)
      · exact stepWithTailgate_only (enterStroke_only _ _ s)
      · exact stepWithTailgate_only (startCycle_only _ s)
      all_goals exact Only.refl _ s
  · exact Only.refl _ s

theorem decidePackResume_only (d : List Byte) (s : State) : Only flowParts s (decidePackResume d s).1 := by
  unfold decidePackResume
  split
  · split
    · split
      · exact enterStroke_only _ _ s
      · exact Only.refl _ s
    · exact Only.refl _ s
  · exact Only.refl _ s

theorem decideSetPackMode_only (d : List Byte) (s : State) : Only flowParts s (decideSetPackMode d s).1 := by
  unfold decideSetPackMode
  split
  · split
    · exact Only.refl _ s
    · next st m _ _ _ =>
      have h : Only flowParts s (s.withPacker st { s.packer st with mode := m }) :=
        (withPacker_only s st _).mono (by decide)
      exact Only.ite (h.step (tryStart_only st _)) h
  · exact Only.refl _ s

theorem decideSetPackerSettings_only (d : List Byte) (s : State) :
    Only [.packers, .ports] s (decideSetPackerSettings d s).1 := by
  unfold decideSetPackerSettings
  split
  · split
    · exact Only.refl _ s
    · exact (withPacker_only s _ _).mono (by decide)
  · exact Only.refl _ s

theorem decideSetPayloadLimits_only (d : List Byte) (s : State) :
    Only [.compartments, .bodyLimit, .ports] s (decideSetPayloadLimits d s).1 := by
  unfold decideSetPayloadLimits
  split
  · split
    · exact Only.refl _ s
    · exact ((withCompartments_only s _).both (withBodyLimit_only _ _) (c := [.compartments, .bodyLimit, .ports])
        (by decide) (by decide)).both (evaluateLimits_only _) (fun q h => h) (by decide)
  · exact Only.refl _ s

theorem decideUnloadComplete_only (d : List Byte) (s : State) :
    Only [.compartments, .packers, .body, .ports] s (decideUnloadComplete d s).1 := by
  unfold decideUnloadComplete
  split
  · split
    · exact Only.refl _ s
    · exact (((withCompartment_only s _ _).both (withPacker_only _ _ _)
        (c := [.compartments, .packers, .body, .ports]) (by decide) (by decide)).both (withBody_only _ _)
        (fun q h => h) (by decide)).both (evaluateLimits_only _) (fun q h => h) (by decide)
  · exact Only.refl _ s

/-! ### Body requests -/

theorem decideResumeBody_only (s : State) : Only (.body :: .freeIndex :: flowParts) s (decideResumeBody s).1 := by
  unfold decideResumeBody
  split
  · split
    · exact Only.refl _ s
    · exact resumeBodyTaken_only s
  · exact Only.refl _ s

/-- The parts that a body reset reaches. -/
abbrev resetParts : List Field :=
  [.lifters, .body, .flow, .packers, .compartments, .scan, .weigh, .tags, .journal, .integrity, .ports, .loader]

theorem resetLift_only (l : Lifter) (s : State) : Only resetParts s (resetLift l s) := by
  unfold resetLift
  split
  · exact Only.refl _ s
  · exact ((withValves_only s l _ _).both (withdrawWindow_only l _) (c := resetParts) (by decide) (by decide)).both
      (endLift_only _ l _) (fun q h => h) (by decide)

theorem resetLifters_only (s : State) : Only [.lifters, .tags] s (resetLifters s) :=
  ((withValves_only s _ _ _).step (withValves_only _ _ _ _)).both (withTags_only _ _) (by decide) (by decide)

theorem resetBlocks_only (s : State) : Only resetParts s (resetBlocks s) := by
  have own : ∀ q ∈ resetParts, q ∈ resetParts := fun _ h => h
  refine Only.both (a := resetParts) ?_ (evaluateInhibit_only _) own (by decide)
  refine Only.both (a := resetParts) ?_ (withWeigh_only _ _) own (by decide)
  refine Only.both (a := resetParts) ?_ (withScan_only _ _) own (by decide)
  refine Only.both (a := resetParts) ?_ (withPackers_only _ _) own (by decide)
  refine Only.both (a := resetParts) ?_ (withFlow_only _ _) own (by decide)
  exact (resetLifters_only s).both (withBody_only _ _) (by decide) (by decide)

theorem decideBodyReset_only (s : State) : Only resetParts s (decideBodyReset s).1 := by
  have h := ((resetLift_only .left s).step (resetLift_only .right _)).step (resetBlocks_only _)
  exact (h.both (withPorts_only _ _) (c := resetParts) (fun q h => h) (by decide)).both (withLoader_only _ _)
    (fun q h => h) (by decide)

theorem decideSaveSettings_only (p : Port) (s : State) :
    Only [.calib, .loader, .ports] s (decideSaveSettings p s).1 := by
  unfold decideSaveSettings
  split
  · exact Only.refl _ s
  · exact (handWrite_only _ s).mono (by decide)

theorem decideVehicleData_only (d : List Byte) (s : State) : Only bodyParts s (decideVehicleData d s).1 := by
  unfold decideVehicleData
  split
  · exact acceptVehicle_only _ s
  · exact Only.refl _ s

/-! ### Accounts, tariff and journal requests -/

theorem readByTag_only (tag : Nat) (s : State) : Only tableParts s (readByTag tag s).1 := by
  unfold readByTag
  have h := lookupTag_only tag s
  split <;> (next hx => rw [hx] at h; exact h)

theorem readByIndex_only (i : Nat) (s : State) : Only tableParts s (readByIndex i s).1 := by
  unfold readByIndex
  have h := readIndex_only i s
  split <;> (next hx => rw [hx] at h; exact h)

theorem decideReadAccount_only (d : List Byte) (s : State) : Only tableParts s (decideReadAccount d s).1 := by
  unfold decideReadAccount
  split
  · split
    · exact readByTag_only _ s
    · exact Only.refl _ s
  · split
    · exact readByIndex_only _ s
    · exact Only.refl _ s
  · exact Only.refl _ s

theorem decidePutAccount_only (d : List Byte) (s : State) : Only tableParts s (decidePutAccount d s).1 := by
  unfold decidePutAccount
  split
  · next e _ =>
    unfold putEntry
    have h := lookupTag_only e.tag s
    split
    · next hx => rw [hx] at h; exact h.both (writeEntry_only _ _ _) (fun q h => h) (by decide)
    · next hx =>
      rw [hx] at h
      split
      · exact h.both (insertEntry_only _ _ _) (fun q h => h) (by decide)
      · exact h
  · exact Only.refl _ s

theorem decideDeleteAccount_only (d : List Byte) (s : State) : Only tableParts s (decideDeleteAccount d s).1 := by
  unfold decideDeleteAccount
  split
  · next tag _ =>
    unfold deleteEntry
    have h := lookupTag_only tag s
    split
    · next hx => rw [hx] at h; exact h.both (withTags_only _ _) (fun q h => h) (by decide)
    · next hx => rw [hx] at h; exact h
  · exact Only.refl _ s

theorem decideClearAccounts_only (s : State) : Only [.tags, .ports] s (decideClearAccounts s).1 := by
  unfold decideClearAccounts
  split
  · exact Only.refl _ s
  · exact (withTags_only s _).mono (by decide)

theorem decideSetRoutePolicy_only (d : List Byte) (s : State) :
    Only [.tags, .ports] s (decideSetRoutePolicy d s).1 := by
  unfold decideSetRoutePolicy
  split
  · split
    · exact Only.refl _ s
    · exact (withTags_only s _).mono (by decide)
  · exact Only.refl _ s

theorem decideClearCounters_only (s : State) : Only tableParts s (decideClearCounters s).1 :=
  (withIntegrity_only s _).both (withTags_only _ _) (by decide) (by decide)

theorem decideReadTariff_only (d : List Byte) (s : State) : Only [.ports] s (decideReadTariff d s).1 := by
  unfold decideReadTariff
  split <;> exact Only.refl _ s

theorem decidePutTariff_only (d : List Byte) (s : State) : Only [.tags, .ports] s (decidePutTariff d s).1 := by
  unfold decidePutTariff
  split
  · exact (withTags_only s _).mono (by decide)
  · exact Only.refl _ s

/-- The records that Read Journal delivers from the index of the first one (R177). -/
def deliveriesFrom (count : Nat) (s : State) : Option Nat → List Delivery × State
  | some i => deliverFrom (min count answerRecords) i s
  | none => ([], s)

/-- The records delivered, by the index of the first one. (`journalRead` is unfolded as a function, as `acknowledge` is
in `acknowledge_of_class`, and for the same reason.) -/
theorem journalRead_of_first {n : Nat} {first : Option Nat} (count : Nat) (h : firstDelivered s.journal n = first) :
    journalRead n count s = deliveriesFrom count s first := by
  generalize unfolded : journalRead = f
  delta journalRead at unfolded
  subst unfolded
  beta_reduce
  rw [h]
  cases first <;> rfl

theorem journalRead_only {n count : Nat} {x : List Delivery × State} (h : journalRead n count s = x) :
    Only journalParts s x.2 := by
  obtain ⟨first, found⟩ : ∃ y, firstDelivered s.journal n = y := exists_eq'
  have same := h.symm.trans (journalRead_of_first count found)
  clear h
  subst same
  cases first with
  | none => exact Only.refl _ s
  | some i => exact deliverFrom_only _ i s

/-- What Read Journal decides: BAD_ARGUMENT, or the answer with the records read. -/
theorem decideReadJournal_cases {x : Decision} (h : decideReadJournal d s = x) :
    x = declined .badArgument s ∨ ∃ (n count : Nat) (r : List Delivery × State), journalRead n count s = r
      ∧ x = (r.2, some (.ok (optionalField 4 (beBytes 4) (newestSeq s.journal) ++ listField deliveryBytes r.1))) := by
  generalize unfolded : decideReadJournal = f at h
  delta decideReadJournal at unfolded
  subst unfolded
  beta_reduce at h
  split at h
  · exact .inr ⟨_, _, _, rfl, h.symm⟩
  · exact .inl h.symm

theorem decideReadJournal_only {x : Decision} (h : decideReadJournal d s = x) : Only journalParts s x.1 := by
  obtain same | ⟨n, count, r, read, same⟩ := decideReadJournal_cases h <;> rw [same]
  · exact Only.refl _ s
  · exact journalRead_only read

/-- Acknowledge Journal leaves the journal of some class and answers for it. (The decision is a variable, and the lemmas
are joined as terms: the kernel would evaluate a decision written out, and count to 2^32-1 on the way.) -/
theorem acknowledge_cases {n : Nat} {x : Decision} (h : acknowledge n s = x) :
    ∃ y : SeqClass, x = (s.withJournal (acknowledgedJournal s.journal y), some (acknowledgedReply y)) := by
  obtain ⟨y, classified⟩ : ∃ y, classify s.journal n = y := exists_eq'
  exact ⟨y, h.symm.trans (acknowledge_of_class classified)⟩

theorem decideAcknowledgeJournal_cases {x : Decision} (h : decideAcknowledgeJournal d s = x) :
    x = declined .badArgument s ∨ acknowledge (beAt d 0 4) s = x := by
  obtain zero | positive := Nat.eq_zero_or_pos (beAt d 0 4)
  · exact .inl (h.symm.trans (decideAcknowledgeJournal_of_zero zero s))
  · exact .inr ((decideAcknowledgeJournal_of_pos positive s).symm.trans h)

theorem decideAcknowledgeJournal_only {x : Decision} (h : decideAcknowledgeJournal d s = x) :
    Only [.journal, .ports] s x.1 := by
  obtain zero | acknowledged := decideAcknowledgeJournal_cases h
  · rw [zero]; exact Only.refl _ s
  · obtain ⟨y, answered⟩ := acknowledge_cases acknowledged
    rw [answered]
    exact (withJournal_only s _).mono (by decide)

/-! ### Calibration, event, scan and map requests, and the reads of what stands -/

theorem decideReadCalibration_only (d : List Byte) (s : State) : Only [.ports] s (decideReadCalibration d s).1 := by
  unfold decideReadCalibration
  split <;> exact Only.refl _ s

theorem decideWriteCalibration_only (p : Port) (d : List Byte) (s : State) :
    Only [.calib, .loader, .ports] s (decideWriteCalibration p d s).1 := by
  unfold decideWriteCalibration
  split
  · exact (latchAll_only _ s).mono (by decide)
  · split
    · unfold writeItem
      split
      · exact Only.refl _ s
      · split
        · exact Only.refl _ s
        · split
          · exact Only.refl _ s
          · exact (handWrite_only _ s).mono (by decide)
    · exact Only.refl _ s

theorem decideWriteIdentity_only (p : Port) (d : List Byte) (s : State) :
    Only [.calib, .loader, .ports] s (decideWriteIdentity p d s).1 := by
  simp only [decideWriteIdentity]
  split
  · exact Only.refl _ s
  · split
    · exact Only.refl _ s
    · split
      · exact Only.refl _ s
      · split
        · exact Only.refl _ s
        · exact (handWrite_only _ s).mono (by decide)

theorem decideLifterStatus_only (d : List Byte) (s : State) : Only [.ports] s (decideLifterStatus d s).1 := by
  unfold decideLifterStatus
  split <;> exact Only.refl _ s

theorem decideCompartmentStatus_only (d : List Byte) (s : State) :
    Only [.ports] s (decideCompartmentStatus d s).1 := by
  unfold decideCompartmentStatus
  split <;> exact Only.refl _ s

theorem decideClearEvents_only (p : Port) (d : List Byte) (s : State) :
    Only [.ports] s (decideClearEvents p d s).1 := by
  unfold decideClearEvents
  split
  · exact withPort_only s p _
  · exact Only.refl _ s

theorem decideSetEventMask_only (p : Port) (d : List Byte) (s : State) :
    Only [.ports] s (decideSetEventMask p d s).1 := by
  unfold decideSetEventMask
  split
  · split
    · exact Only.refl _ s
    · exact withPort_only s p _
  · exact Only.refl _ s

theorem decideSetScanRing_only (d : List Byte) (s : State) : Only [.scan, .ports] s (decideSetScanRing d s).1 := by
  unfold decideSetScanRing
  split
  · split
    · exact Only.refl _ s
    · exact (withScan_only s _).mono (by decide)
  · exact Only.refl _ s

theorem decideSetAccess_only (d : List Byte) (s : State) : Only [.access, .ports] s (decideSetAccess d s).1 := by
  unfold decideSetAccess
  split
  · exact Only.refl _ s
  · split
    · split
      · exact Only.refl _ s
      · exact (withAccess_only s _).mono (by decide)
    · exact Only.refl _ s

theorem decideLockMap_only (s : State) : Only [.access, .ports] s (decideLockMap s).1 := by
  unfold decideLockMap
  split
  · exact Only.refl _ s
  · exact (withAccess_only s _).mono (by decide)

/-! ### Lines, buttons and resets -/

theorem lineChange_only (change : LineChange) (h : exec (.inputLineChange change) s = .next t) :
    Only [.body, .calib] s t := by
  cases h
  cases change with
  | estop active => exact (withBody_only s _).mono (by decide)
  | tailgate closed => exact ((withBody_only s _).step (evaluateInhibit_only _)).mono (by decide)
  | step l occupied => exact (withBody_only s _).mono (by decide)
  | sealSwitch opened => exact (withCalib_only s _).mono (by decide)

theorem sealCloses_only (s : State) : Only [.calib, .loader] s (sealCloses s) := by
  unfold sealCloses
  split
  · split
    · exact (withCalib_only s _).mono (by decide)
    · exact handWrite_only _ s
  · exact Only.refl _ s

theorem startPress_only (l : Lifter) (s : State) : Only startParts s (startPress l s) := by
  unfold startPress
  split
  · exact startLifter_only l none .rear s
  · unfold resumeFromRear
    split
    · next h => exact (resumeLifter_only l s _ h).mono (by decide)
    · exact Only.refl _ s
  · exact Only.refl _ s

/-- The fields that a power-on reset or the reset line sets: all but the queue. -/
abbrev powerParts : List Field :=
  [.freeIndex, .resetHeld, .bodyTimer, .lifters, .banks, .body, .flow, .packers, .compartments, .bodyLimit, .scan,
    .weigh, .calib, .tags, .journal, .integrity, .ports, .access, .loader]

theorem powerOnState_only (held : Bool) (load : LoadState) (s : State) :
    Only powerParts s (powerOnState held load s) := by
  intro q hq
  cases q with
  | pending => rfl
  | _ => simp at hq

/-- The fields that a part of the load reaches: what its owners take, and what an entry into HALTED reaches. -/
abbrev loadParts : List Field :=
  [.lifters, .banks, .packers, .compartments, .bodyLimit, .tags, .scan, .ports, .access, .loader, .calib, .body,
    .flow, .weigh]

theorem applySettings_only (x : Settings) (s : State) : Only loadParts s (applySettings x s) := by
  have own : ∀ q ∈ loadParts, q ∈ loadParts := fun _ h => h
  refine Only.both (a := loadParts) ?_ (evaluateLimits_only _) own (by decide)
  refine Only.both (a := loadParts) ?_ (withAccess_only _ _) own (by decide)
  refine Only.both (a := loadParts) ?_ (withPorts_only _ _) own (by decide)
  refine Only.both (a := loadParts) ?_ (withScan_only _ _) own (by decide)
  refine Only.both (a := loadParts) ?_ (withTags_only _ _) own (by decide)
  refine Only.both (a := loadParts) ?_ (withBodyLimit_only _ _) own (by decide)
  refine Only.both (a := loadParts) ?_ (withCompartments_only _ _) own (by decide)
  refine Only.both (a := loadParts) ?_ (withPackers_only _ _) own (by decide)
  exact (withLifters_only s _).both (withBanks_only _ _) (by decide) (by decide)

theorem withLoad_only (s : State) (x : LoadState) : Only [.loader] s (s.withLoad x) := withLoader_only s _

theorem leaveStarting_only (s : State) : Only (.loader :: bodyParts) s (leaveStarting s) := by
  have h := (withLoader_only s { s.loader with load := .none }).mono (d := .loader :: bodyParts) (by decide)
  exact Only.ite (h.both (enterHalted_only _) (fun q h => h) (by decide))
    (h.both (withBody_only _ _) (fun q h => h) (by decide))

theorem loadSettings_only (ok : Bool) (s : State) : Only loadParts s (loadSettings ok s) :=
  (applySettings_only _ s).ite ((applySettings_only _ s).both (latchAll_only _ _) (fun q h => h) (by decide))

theorem loadCalibration_only (l : Lifter) (ok : Bool) (s : State) : Only loadParts s (loadCalibration l ok s) :=
  Only.ite ((withCalib_only s _).mono (by decide))
    ((withCalib_only s _).both (latchAll_only _ _) (by decide) (by decide))

theorem readPart_only (ok : Bool) (s : State) : Only loadParts s (readPart ok s) := by
  unfold readPart
  split
  · exact (loadSettings_only _ s).both (withLoad_only _ _) (fun q h => h) (by decide)
  · exact (loadCalibration_only _ _ s).both (withLoad_only _ _) (fun q h => h) (by decide)
  · exact (loadCalibration_only _ _ s).both (withLoad_only _ _) (fun q h => h) (by decide)
  · exact (withCalib_only s _).both (withLoad_only _ _) (by decide) (by decide)
  · exact (withCalib_only s _).both (leaveStarting_only _) (by decide) (by decide)
  · exact Only.refl _ s

/-! ### Timers of lifters and packers -/

theorem onContext_only {l : Lifter} {f : LiftContext → State → State} (h : ∀ x, Only c s (f x s)) :
    Only c s (onContext l f s) := by
  unfold onContext
  split
  · exact h _
  · exact Only.refl _ s

/-- The parts that the end of a motion phase reaches: the end of a lift is one of its outcomes. -/
abbrev motionParts : List Field :=
  [.flow, .lifters, .packers, .ports, .body, .compartments, .tags, .journal, .integrity]

theorem enterNext_only (l : Lifter) (ph : Phase) (s : State) : Only motionParts s (enterNext l ph s) := by
  unfold enterNext
  split
  · exact (enterWeigh_only l _ _ s).mono (by decide)
  · exact (enterDumpDwell_only l s).mono (by decide)
  · exact (enterWeigh_only l _ _ s).mono (by decide)
  · exact (endLift_only _ l s).mono (by decide)
  · exact (endLift_only _ l s).mono (by decide)
  · exact Only.refl _ s

theorem endMotion_only (l : Lifter) (s : State) : Only motionParts s (endMotion l s) := by
  unfold endMotion
  split
  · exact Only.refl _ s
  · exact ((((withValves_only s l _ _).step (mapContext_only _ l _)).both (releaseGrant_only _ _)
      (c := motionParts) (by decide) (by decide))).step (enterNext_only l _ _)

theorem angleReading_only (l : Lifter) (reading : Nat) (s : State) : Only motionParts s (angleReading l reading s) := by
  unfold angleReading
  split
  · exact Only.refl _ s
  · split
    · exact Only.refl _ s
    · exact (endMotion_only l s).ite (Only.refl _ s)

theorem nextShake_only (l : Lifter) (n : Nat) (s : State) : Only [.lifters] s (nextShake l n s) :=
  (withValves_only s l _ _).step (mapContext_only _ l _)

theorem endShake_only (l : Lifter) (n : Nat) (s : State) : Only flowParts s (endShake l n s) := by
  have h : Only flowParts s (releaseGrant (.lifter l) ((s.withValves l false false).mapContext l
      fun c => { stopTimers c with shakesDone := n })) :=
    ((withValves_only s l _ _).step (mapContext_only _ l _)).both (releaseGrant_only _ _) (by decide) (fun q h => h)
  simp only [endShake]
  split
  · exact h.step (enterMotion_only l _ _)
  · exact h

theorem pulseExpiry_only (l : Lifter) (x : LiftContext) (s : State) : Only flowParts s (pulseExpiry l x s) := by
  unfold pulseExpiry
  split
  · refine Only.ite ?_ (Only.refl _ s)
    unfold endPulse
    split
    · exact ((withValves_only s l _ _).step (mapContext_only _ l _)).mono (by decide)
    · exact (endShake_only l _ s).ite ((nextShake_only l _ s).mono (by decide))
  · exact Only.refl _ s

theorem afterDwell_only (st : Stream) (s : State) : Only flowParts s (afterDwell st s) :=
  Only.ite ((withPacker_only s st _).mono (by decide)) (enterStroke_only st _ s)

/-! ### Conversions and the weigh engine -/

/-- The parts that a reading handed on reaches. -/
abbrev readingParts : List Field :=
  [.scan, .weigh, .flow, .lifters, .packers, .ports, .body, .compartments, .tags, .journal, .integrity]

theorem handReading_only (ch : Fin 12) (v : Int) (s : State) : Only readingParts s (handReading ch v s) := by
  unfold handReading
  split
  · exact (angleReading_only _ _ s).mono (by decide)
  · exact (packerConversion_only _ _ s).mono (by decide)
  · exact Only.refl _ s

theorem handStale_only (ch : Fin 12) (s : State) : Only flowParts s (handStale ch s) := by
  unfold handStale
  split
  · exact lifterStale_only _ s
  · exact packerStale_only _ s
  · exact Only.refl _ s

theorem takeRingResult_only (ch : Fin 12) (r : Option Int) (s : State) :
    Only readingParts s (takeRingResult ch r s) := by
  unfold takeRingResult
  split
  · exact (writeSlot_only ch _ s).both (handReading_only ch _ _) (by decide) (fun q h => h)
  · exact Only.refl _ s

theorem completeRing_only (r : Option Int) (s : State) : Only readingParts s (completeRing r s) := by
  have h := takeRingResult_only s.scan.ringPos r s
  refine Only.both (a := readingParts) ?_ (afterRing_only _) (fun q h => h) (by decide)
  refine Only.both (a := readingParts) ?_ (withScan_only _ _) (fun q h => h) (by decide)
  exact Only.ite (h.both (endPass_only _) (fun q h => h) (by decide)) h

theorem completeInserted_only (l : Lifter) (r : Option Int) (s : State) :
    Only [.scan, .weigh, .lifters] s (completeInserted l r s) := by
  refine Only.both (a := [.scan, .weigh, .lifters]) ?_ (withScan_only _ _) (fun q h => h) (by decide)
  split
  · exact (writeSlot_only _ _ s).both (addSample_only l _ _) (by decide) (fun q h => h)
  · exact Only.refl _ s

theorem expireChannel_only (ch : Fin 12) (s : State) : Only (.scan :: flowParts) s (expireChannel ch s) := by
  have h : Only (.scan :: flowParts) s (latchAll .sensorStale (s.withSlot ch
      { s.slot ch with fresh := false, timer := none })) :=
    (withScan_only s _).both (latchAll_only _ _) (by decide) (by decide)
  exact Only.ite (h.both (handStale_only ch _) (fun q h => h) (by decide)) h

theorem endComputation_only (s : State) : Only liftParts s (endComputation s) := by
  unfold endComputation
  split
  · exact (((withScan_only s _).both (withWeigh_only _ _) (c := liftParts) (by decide) (by decide)).step
      (takeResult_only _ _ _ _)).both (startComputation_only _) (fun q h => h) (by decide)
  · exact Only.refl _ s

/-! ### The ends of EEPROM writes -/

/-- The parts that the end of an EEPROM write reaches. -/
abbrev writeParts : List Field := [.ports, .calib, .loader, .weigh, .freeIndex]

theorem breakWrite_only (j : WriteJob) (s : State) : Only writeParts s (breakWrite j s) :=
  (withLoader_only s _).both (withFreeIndex_only _ _) (by decide) (by decide)

theorem brokenUnless_only (ok : Bool) (j : WriteJob) (s : State) :
    Only writeParts s (if ok then s else breakWrite j s) := (Only.refl _ s).ite (breakWrite_only j s)

theorem storeCounter_only (n : Nat) (s : State) : Only [.calib, .loader] s (storeCounter n s) :=
  (withCalib_only s _).both (withLoader_only _ _) (by decide) (by decide)

theorem endCounterWrite_only (ok : Bool) (p : Port) (l : Lifter) (item : CalItem) (v : Int) (n : Nat) (s : State) :
    Only writeParts s (endCounterWrite ok p l item v n s) := by
  have stored := (storeCounter_only n s).mono (d := writeParts) (by decide)
  have answer (x : State) (r : Reply) : Only writeParts x (answerPort p r x) :=
    (answerPort_only p r x).mono (by decide)
  refine Only.ite (Only.ite ?_ (stored.step (answer _ _))) (answer _ _)
  exact ((stored.both (withCalib_only _ _) (c := writeParts) (fun q h => h) (by decide)).both (withWeigh_only _ _)
    (fun q h => h) (by decide)).step (answer _ _)

theorem endCommit_only (ok : Bool) (copies : PerLifter (Option CalItems)) (s : State) :
    Only writeParts s (endCommit ok copies s) := by
  have ends : Only writeParts s (if ok then commitSucceeds copies s else commitFails s) :=
    Only.ite ((withCalib_only s _).both (withLoader_only _ _) (by decide) (by decide))
      ((withCalib_only s _).both (latchAll_only _ _) (by decide) (by decide))
  refine ends.step ?_
  change Only writeParts _ (settleOwed _)
  generalize (if ok then commitSucceeds copies s else commitFails s) = x
  unfold settleOwed
  split
  · refine Only.both (c := writeParts) (withCalib_only _ _) (Only.ite (c := writeParts) ?_ (Only.refl _ _))
      (by decide) (fun q h => h)
    exact (handWrite_only _ _).mono (by decide)
  · exact Only.refl _ _

theorem endIdentityWrite_only (ok : Bool) (p : Port) (x : Vector (Option Byte) 16) (s : State) :
    Only writeParts s (endIdentityWrite ok p x s) := by
  refine Only.ite ?_ ((answerPort_only _ _ s).mono (by decide))
  exact ((withCalib_only s _).both (withLoader_only _ _) (c := writeParts) (by decide) (by decide)).both
    (answerPort_only _ _ _) (fun q h => h) (by decide)

theorem endSettingsWrite_only (ok : Bool) (p : Port) (x : Settings) (s : State) :
    Only writeParts s (endSettingsWrite ok p x s) :=
  Only.ite ((withLoader_only s _).both (answerPort_only _ _ _) (by decide) (by decide))
    ((answerPort_only _ _ s).mono (by decide))

theorem writeEnd_only {ok : Bool} {j : WriteJob} {f : State → State} (h : ∀ x, Only writeParts x (f x)) (s : State) :
    Only writeParts s (nextWrite (f (if ok then s else breakWrite j s))) :=
  ((brokenUnless_only ok j s).step (h _)).both (nextWrite_only _) (fun q h => h) (by decide)

/-! ### Every command -/

/-- The fields that a command may change. -/
def parts : Instr → List Field
  | .startLift .. | .rearStartPress .. => startParts
  | .stopLift .. | .abortLift .. | .rearStopPress .. | .weighPhaseLimitExpiry .. | .flowWaitTimeout ..
  | .weighComputationEnd => liftParts
  | .resumeLift .. | .packCycle .. | .packStop .. | .packStep .. | .packResume .. | .setPackMode ..
  | .liftPhaseTimeout .. | .dumpDwellExpiry .. | .shakePulseEnd .. | .extendTimerExpiry .. | .packDwellExpiry ..
  | .retractTimerExpiry .. => flowParts
  | .selectProfile .. | .setLifterDefaults .. => [.lifters, .ports]
  | .setBank .. => [.banks, .ports]
  | .setTagThreshold .. | .clearAccounts .. | .setRoutePolicy .. | .putTariff .. => [.tags, .ports]
  | .setPackerSettings .. => [.packers, .ports]
  | .setPayloadLimits .. => [.compartments, .bodyLimit, .ports]
  | .unloadComplete .. => [.compartments, .packers, .body, .ports]
  | .resumeBody .. | .tailgateReadingClosed => .body :: .freeIndex :: flowParts
  | .bodyReset .. => resetParts
  | .saveSettings .. | .writeCalibration .. | .writeIdentity .. => [.calib, .loader, .ports]
  | .readAccount .. | .putAccount .. | .deleteAccount .. | .clearCounters .. => tableParts
  | .readJournal .. => journalParts
  | .acknowledgeJournal .. => [.journal, .ports]
  | .vehicleData .. | .estopReadingActive | .tailgateReadingNotClosed | .stepReadingOccupied ..
  | .vehicleFreshnessExpiry => bodyParts
  | .setScanRing .. => [.scan, .ports]
  | .setAccess .. | .lockMap .. => [.access, .ports]
  | .inputLineChange .. => [.body, .calib]
  | .estopReadingReleased | .stepReadingFree .. | .routeClockSecond => [.body]
  | .sealReadingOpen => [.calib, .ports]
  | .sealReadingClosed => [.calib, .loader]
  | .rearButtonRelease .. => [.lifters]
  | .tagRead .. => [.tags]
  | .powerOnReset | .resetLineAssert | .resetLineRelease => powerParts
  | .loadPartRead .. => loadParts
  | .bodyResetPassEnd => .loader :: bodyParts
  | .returnTimeLimit .. => motionParts
  | .settleExpiry .. => [.lifters, .scan, .weigh]
  | .ringConversionComplete .. => readingParts
  | .insertedConversionComplete .. => [.scan, .weigh, .lifters]
  | .channelFreshnessExpiry .. => .scan :: flowParts
  | .counterWriteEnd .. | .commitEnd .. | .identityWriteEnd .. | .settingsWriteEnd .. => writeParts
  | .readTariff .. | .journalStatus .. | .readCalibration .. | .readCounter .. | .readIdentity .. | .bodyStatus ..
  | .lifterStatus .. | .flowStatus .. | .compartmentStatus .. | .weighStatus .. | .tagStatus .. | .integrityStatus ..
  | .linkStatus .. | .readEvents .. | .clearEvents .. | .setEventMask .. | .scanStatus .. | .readAccess ..
  | .unknownKindRequest .. | .badFrame .. | .frameGapTimeout .. | .overrun .. | .answerSent .. => [.ports]

/-- Every command completes. -/
theorem exec_next (i : Instr) (s : State) : ∃ t, exec i s = .next t := by
  cases i <;> exact ⟨_, rfl⟩

/-- A command changes at most its parts. -/
theorem exec_only {i : Instr} (h : exec i s = .next t) : Only (parts i) s t := by
  have ports : Field.ports ∈ [Field.ports] := List.mem_singleton.mpr rfl
  have stands (r : State → Reply) (x : State) : Only [.ports] x (declined (r x) x).1 := declined_only _ x
  cases i with
  | inputLineChange change => exact lineChange_only change h
  | _ => ?_
  all_goals cases h
  case startLift => exact serve_only _ (decideStartLift_only _ _) (by simp [parts])
  case stopLift => exact serve_only _ (decideStopLift_only _) (by simp [parts])
  case resumeLift => exact serve_only _ (decideResumeLift_only _) (by simp [parts])
  case abortLift => exact serve_only _ (decideAbortLift_only _) (by simp [parts])
  case selectProfile => exact serve_only _ (decideSelectProfile_only _) (by simp [parts])
  case setBank => exact serve_only _ (decideSetBank_only _) (by simp [parts])
  case setLifterDefaults => exact serve_only _ (decideSetLifterDefaults_only _) (by simp [parts])
  case setTagThreshold => exact serve_only _ (decideSetTagThreshold_only _) (by simp [parts])
  case packCycle => exact serve_only _ (decidePackCycle_only _) (by simp [parts])
  case packStop => exact serve_only _ (decidePackStop_only _) (by simp [parts])
  case packStep => exact serve_only _ (decidePackStep_only _) (by simp [parts])
  case packResume => exact serve_only _ (decidePackResume_only _) (by simp [parts])
  case setPackMode => exact serve_only _ (decideSetPackMode_only _) (by simp [parts])
  case setPackerSettings => exact serve_only _ (decideSetPackerSettings_only _) (by simp [parts])
  case setPayloadLimits => exact serve_only _ (decideSetPayloadLimits_only _) (by simp [parts])
  case unloadComplete => exact serve_only _ (decideUnloadComplete_only _) (by simp [parts])
  case resumeBody => exact serve_only _ decideResumeBody_only (by simp [parts])
  case bodyReset => exact serve_only _ decideBodyReset_only (by simp [parts])
  case saveSettings => exact serve_only _ (decideSaveSettings_only _) (by simp [parts])
  case readAccount => exact serve_only _ (decideReadAccount_only _) (by simp [parts])
  case putAccount => exact serve_only _ (decidePutAccount_only _) (by simp [parts])
  case deleteAccount => exact serve_only _ (decideDeleteAccount_only _) (by simp [parts])
  case clearAccounts => exact serve_only _ decideClearAccounts_only (by simp [parts])
  case setRoutePolicy => exact serve_only _ (decideSetRoutePolicy_only _) (by simp [parts])
  case clearCounters => exact serve_only _ decideClearCounters_only (by simp [parts])
  case readTariff => exact serve_only _ (decideReadTariff_only _) ports
  case putTariff => exact serve_only _ (decidePutTariff_only _) (by simp [parts])
  case readJournal => exact serve_only_of _ (fun _ _ => decideReadJournal_only) (by simp [parts])
  case journalStatus => exact serve_only _ (stands _) ports
  case acknowledgeJournal => exact serve_only_of _ (fun _ _ => decideAcknowledgeJournal_only) (by simp [parts])
  case readCalibration => exact serve_only _ (decideReadCalibration_only _) ports
  case readCounter => exact serve_only _ (stands _) ports
  case writeCalibration => exact serve_only _ (decideWriteCalibration_only _ _) (by simp [parts])
  case readIdentity => exact serve_only _ (stands _) ports
  case writeIdentity => exact serve_only _ (decideWriteIdentity_only _ _) (by simp [parts])
  case vehicleData => exact serve_only _ (decideVehicleData_only _) (by simp [parts])
  case bodyStatus => exact serve_only _ (stands _) ports
  case lifterStatus => exact serve_only _ (decideLifterStatus_only _) ports
  case flowStatus => exact serve_only _ (stands _) ports
  case compartmentStatus => exact serve_only _ (decideCompartmentStatus_only _) ports
  case weighStatus => exact serve_only _ (stands _) ports
  case tagStatus => exact serve_only _ (stands _) ports
  case integrityStatus => exact serve_only _ (stands _) ports
  case linkStatus => exact serve_only _ (stands _) ports
  case readEvents => exact serve_only _ (stands _) ports
  case clearEvents => exact serve_only _ (decideClearEvents_only _ _) ports
  case setEventMask => exact serve_only _ (decideSetEventMask_only _ _) ports
  case scanStatus => exact serve_only _ (stands _) ports
  case setScanRing => exact serve_only _ (decideSetScanRing_only _) (by simp [parts])
  case readAccess => exact serve_only _ (stands _) ports
  case setAccess => exact serve_only _ (decideSetAccess_only _) (by simp [parts])
  case lockMap => exact serve_only _ decideLockMap_only (by simp [parts])
  case unknownKindRequest p n k _ =>
    exact (Only.refl _ s).ite ((overrunPort_only p s).ite
      ((takeRequest_only p n k s).step (refuseAtPort_only p _ _)))
  case badFrame p _ => exact (Only.refl _ s).ite (badFramePort_only p s)
  case frameGapTimeout p => exact (badFramePort_only p s).ite (Only.refl _ s)
  case overrun p => exact (Only.refl _ s).ite (overrunPort_only p s)
  case answerSent p => exact (withPort_only s p _).ite (Only.refl _ s)
  case estopReadingActive =>
    have h := (withBody_only s { s.body with estop := settled true }).mono (d := bodyParts) (by decide)
    exact Only.ite (Only.ite (h.step (enterHalted_only _)) h) (Only.refl _ s)
  case estopReadingReleased => exact (withBody_only s _).ite (Only.refl _ s)
  case tailgateReadingNotClosed =>
    have h := (withBody_only s { s.body with tailgate := settled false }).mono (d := bodyParts) (by decide)
    refine Only.ite (Only.both (a := bodyParts) ?_ (evaluateInhibit_only _) (fun q h => h) (by decide))
      (Only.refl _ s)
    exact ((h.both (holdBoth_only _ _) (c := bodyParts) (fun q h => h) (by decide)).both (holdPacker_only _ _ _)
      (c := bodyParts) (fun q h => h) (by decide)).both (holdPacker_only _ _ _) (fun q h => h) (by decide)
  case tailgateReadingClosed =>
    refine Only.ite (Only.both (a := .body :: .freeIndex :: flowParts) ?_ (evaluateInhibit_only _) (fun q h => h)
      (by decide)) (Only.refl _ s)
    exact (withBody_only s _).both (startPackers_only _) (by decide) (by decide)
  case stepReadingOccupied =>
    exact Only.ite ((withBody_only s _).both (c := bodyParts) (holdLifter_only _ _ _) (by decide) (by decide))
      (Only.refl _ s)
  case stepReadingFree => exact (withBody_only s _).ite (Only.refl _ s)
  case sealReadingOpen =>
    exact Only.ite ((withCalib_only s _).both (latchAll_only _ _) (by decide) (by decide)) (Only.refl _ s)
  case sealReadingClosed =>
    exact Only.ite ((withCalib_only s _).both (sealCloses_only _) (by decide) (by decide)) (Only.refl _ s)
  case rearStartPress l =>
    have h := (withLifter_only s l { s.lifter l with startPressed := true }).mono (d := startParts) (by decide)
    exact (Only.refl _ s).ite (h.ite (h.step (startPress_only l _)))
  case rearStopPress l =>
    have h := (withLifter_only s l { s.lifter l with stopPressed := true }).mono (d := liftParts) (by decide)
    exact (Only.refl _ s).ite (h.ite (h.step (holdLifter_only l _ _)))
  case rearButtonRelease l b => cases b <;> exact withLifter_only s l _
  case tagRead => exact (Only.refl _ s).ite (withTags_only s _)
  case powerOnReset => exact powerOnState_only _ _ s
  case resetLineAssert => exact powerOnState_only _ _ s
  case resetLineRelease => exact (powerOnState_only _ _ s).ite (Only.refl _ s)
  case loadPartRead => exact (Only.refl _ s).ite (readPart_only _ s)
  case bodyResetPassEnd => exact (leaveStarting_only s).ite (Only.refl _ s)
  case liftPhaseTimeout l => exact onContext_only fun x => (faultLifter_only l _ s).ite (Only.refl _ s)
  case returnTimeLimit l => exact onContext_only fun x => (endMotion_only l s).ite (Only.refl _ s)
  case settleExpiry l =>
    exact onContext_only fun x =>
      Only.ite ((mapContext_only s l _).both (c := [.lifters, .scan, .weigh]) (armWindow_only l _) (by decide)
        (by decide)) (Only.refl _ s)
  case weighPhaseLimitExpiry l =>
    refine onContext_only fun x => Only.ite ?_ (Only.refl _ s)
    exact ((withdrawWindow_only l s).both (mapContext_only _ l _) (c := liftParts) (by decide) (by decide)).both
      (c := liftParts) (endWeigh_only l _) (fun q h => h) (by decide)
  case dumpDwellExpiry l =>
    refine onContext_only fun x => Only.ite ?_ (Only.refl _ s)
    exact ((mapContext_only s l _).both (giveLiftCycles_only l _) (c := flowParts) (by decide) (fun q h => h)).step
      (enterShake_only l _)
  case shakePulseEnd l => exact onContext_only fun x => pulseExpiry_only l x s
  case vehicleFreshnessExpiry => exact (expireVehicle_only s).ite (Only.refl _ s)
  case routeClockSecond => exact (withBody_only s _).ite (Only.refl _ s)
  case flowWaitTimeout x =>
    refine Only.ite (Only.both (a := liftParts) (c := liftParts) ?_ (evaluateGrants_only _) (fun q h => h) (by decide))
      (Only.refl _ s)
    exact ((withFlow_only s _).both (latchAll_only _ _) (c := liftParts) (by decide) (by decide)).step
      (holdConsumer_only x _)
  case extendTimerExpiry st => exact (faultPacker_only st _ _ s).ite (Only.refl _ s)
  case packDwellExpiry st =>
    exact Only.ite (((withPacker_only s st _).both (releaseGrant_only _ _) (by decide) (fun q h => h)).step
      (afterDwell_only st _)) (Only.refl _ s)
  case retractTimerExpiry st => exact (faultPacker_only st _ _ s).ite (Only.refl _ s)
  case ringConversionComplete r => exact (completeRing_only r s).ite (Only.refl _ s)
  case insertedConversionComplete r =>
    split
    · exact completeInserted_only _ r s
    · exact Only.refl _ s
  case channelFreshnessExpiry ch => exact (expireChannel_only ch s).ite (Only.refl _ s)
  case weighComputationEnd => exact (endComputation_only s).ite (Only.refl _ s)
  case counterWriteEnd ok =>
    split
    · exact writeEnd_only (endCounterWrite_only ok _ _ _ _ _) s
    · exact Only.refl _ s
  case commitEnd ok =>
    split
    · exact writeEnd_only (endCommit_only ok _) s
    · exact Only.refl _ s
  case identityWriteEnd ok =>
    split
    · exact writeEnd_only (endIdentityWrite_only ok _ _) s
    · exact Only.refl _ s
  case settingsWriteEnd ok =>
    split
    · exact writeEnd_only (endSettingsWrite_only ok _ _) s
    · exact Only.refl _ s

/-! ### The queue and its clocks -/

/-- Settles O1: `step` of a queue that is not empty is `exec` of its front command. -/
theorem stepTakesFrontCommand : Obligations.StepTakesFrontCommand := by
  intro i rest s front
  simp only [step, front]

theorem pending_not_mem_parts (i : Instr) : Field.pending ∉ parts i := by
  cases i <;> simp [parts]

/-- Only the resets reach the body timer and the reset line. -/
theorem clock_not_mem_parts {i : Instr} (h1 : i ≠ .powerOnReset) (h2 : i ≠ .resetLineAssert)
    (h3 : i ≠ .resetLineRelease) : Field.bodyTimer ∉ parts i ∧ Field.resetHeld ∉ parts i := by
  cases i <;> simp_all [parts]

/-- Settles O3: no command has the queue among its parts, and only the resets have the timer and the line there. -/
theorem commandsKeepQueue : Obligations.CommandsKeepQueue := by
  intro i s
  obtain ⟨t, ran⟩ := exec_next i s
  have only := exec_only ran
  refine ⟨t, ran, only.same .pending (pending_not_mem_parts i), fun h1 h2 h3 => ?_⟩
  obtain ⟨timer, line⟩ := clock_not_mem_parts h1 h2 h3
  exact ⟨only.same .bodyTimer timer, only.same .resetHeld line⟩

end Sys2Proof.Safety
end

section
/-! PROOFS. The shell: the idle step and the expiries that are due (O2), the checks of a port (O5), what the links bring
(O6), and the resets (O52, O60). -/

namespace Sys2Proof.Safety

open Sys2Proof.Machine

variable {s t : State} {p : Port} {d : List Byte}

/-! ### Timers that are due -/

theorem expired_eq_due (s : State) (x : Timer) (limit : Nat) : expired s x limit = due s x limit := by
  cases x <;> rfl

theorem readingDue_eq_settledTo (level : Bool) (s : State) (x : Debounced) :
    readingDue level s x = settledTo level s x := by
  simp only [readingDue, settledTo, expired_eq_due, settlingMs]
  congr 2
  cases x.reading <;> cases level <;> rfl

theorem mem_dueWhen {b : Bool} {i j : Instr} : i ∈ dueWhen b j ↔ i = j ∧ b = true := by
  cases b <;> simp [dueWhen]

theorem mem_dueLifter {i : Instr} {l : Lifter} :
    i ∈ dueLifter s l ↔ ∃ c, s.context l = some c ∧ i ∈ dueContext s l c := by
  unfold dueLifter
  split <;> simp_all

theorem mem_dueLine {i rise fall : Instr} {x : Debounced} :
    i ∈ dueLine s x rise fall ↔ i = rise ∧ settledTo true s x = true ∨ i = fall ∧ settledTo false s x = true := by
  simp [dueLine, mem_dueWhen, readingDue_eq_settledTo]

theorem mem_dueChannels {i : Instr} :
    i ∈ channels.flatMap (dueChannel s) ↔
      ∃ ch, i = .channelFreshnessExpiry ch ∧ due s (s.slot ch).timer 20 = true := by
  have all : ∀ ch : Fin 12, ch ∈ channels := by decide
  simp only [List.mem_flatMap, dueChannel, mem_dueWhen, expired_eq_due, channelFreshMs, all, true_and]

theorem mem_dueWaits {i : Instr} :
    i ∈ allConsumers.flatMap (fun c => dueWhen (expired s (waitTimer s.flow c) flowWaitMs) (.flowWaitTimeout c)) ↔
      ∃ c, i = .flowWaitTimeout c ∧ due s (waitOf (s.flow.records.get c)) 3000 = true := by
  have all : ∀ c : Consumer, c ∈ allConsumers := by rintro (l | st) <;> [cases l; cases st] <;> decide
  simp only [List.mem_flatMap, mem_dueWhen, expired_eq_due, flowWaitMs, all, true_and]
  rfl

theorem passTimer_due : due s (passTimer s.loader) 20 = isDue s .bodyResetPassEnd := by
  cases load : s.loader.load <;> simp [passTimer, isDue, load, due]

theorem gapTimer_eq (x : PortState) : gapTimer x = gapOf x.receive := by
  unfold gapTimer gapOf
  split <;> simp_all

theorem freshnessTimer_due : due s (freshnessTimer s.body) 500 = isDue s .vehicleFreshnessExpiry := by
  unfold freshnessTimer isDue
  split <;> simp_all [due]

theorem phaseLimit_due (l : Lifter) {c : LiftContext} (h : s.context l = some c) :
    (isTimed c.phase && due s c.phaseTimer (phaseLimit s c)) = isDue s (.liftPhaseTimeout l) := by
  cases phase : c.phase <;> simp [isTimed, isMotion, isDue, h, phase, phaseLimit]

/-- The expiries that the body timer finds are those that are due. -/
theorem mem_dueExpiries (i : Instr) : i ∈ dueExpiries s ↔ isDue s i = true := by
  simp only [dueExpiries, dueLines, List.mem_append, mem_dueLine, mem_dueLifter, mem_dueWhen, mem_dueWaits, duePacker,
    mem_dueChannels, dueGap, dueContext]
  cases i with
  | liftPhaseTimeout l =>
    cases l <;> simp only [reduceCtorEq, false_and, and_false, exists_false, or_false, false_or,
      Instr.liftPhaseTimeout.injEq, true_and, expired_eq_due]
    · refine ⟨fun ⟨c, h, k⟩ => phaseLimit_due .left h ▸ k, fun h => ?_⟩
      obtain ⟨c, context, -⟩ := Option.any_eq_true _ _ |>.mp h
      exact ⟨c, context, phaseLimit_due .left context ▸ h⟩
    · refine ⟨fun ⟨c, h, k⟩ => phaseLimit_due .right h ▸ k, fun h => ?_⟩
      obtain ⟨c, context, -⟩ := Option.any_eq_true _ _ |>.mp h
      exact ⟨c, context, phaseLimit_due .right context ▸ h⟩
  | returnTimeLimit l => cases l <;> simp [isDue, expired_eq_due, returnLimitMs, Option.any_eq_true]
  | settleExpiry l => cases l <;> simp [isDue, expired_eq_due, settleMs, Option.any_eq_true]
  | weighPhaseLimitExpiry l => cases l <;> simp [isDue, expired_eq_due, weighLimitMs, Option.any_eq_true]
  | dumpDwellExpiry l => cases l <;> simp [isDue, expired_eq_due, Option.any_eq_true]
  | shakePulseEnd l => cases l <;> simp [isDue, expired_eq_due, shakePulseMs, Option.any_eq_true]
  | stepReadingOccupied l => cases l <;> simp [isDue, PerLifter.get]
  | stepReadingFree l => cases l <;> simp [isDue, PerLifter.get]
  | extendTimerExpiry st => cases st <;> simp [isDue, strokeTimerOut, strokeLimit, expired_eq_due, extendMs]
  | packDwellExpiry st => cases st <;> simp [isDue, strokeTimerOut, strokeLimit, expired_eq_due, packDwellMs]
  | retractTimerExpiry st => cases st <;> simp [isDue, strokeTimerOut, strokeLimit, expired_eq_due, retractMs]
  | frameGapTimeout q => cases q <;> simp [isDue, expired_eq_due, gapTimer_eq, frameGapMs]
  | vehicleFreshnessExpiry => simp [expired_eq_due, vehicleFreshMs, freshnessTimer_due]
  | bodyResetPassEnd => simp [expired_eq_due, bodyResetPassMs, passTimer_due]
  | routeClockSecond => simp only [reduceCtorEq, false_and, or_false, false_or, and_false, exists_false, true_and]; rfl
  | weighComputationEnd => simp [isDue, expired_eq_due, computationMs, computationTimer]
  | _ => simp [isDue]

/-- One of several due expiries joins the queue, by a free value. -/
theorem chooseDue_mem {i : Instr} {rest : List Instr} (idle : s.pending = []) :
    ∃ j ∈ i :: rest, chooseDue (i :: rest) i s = (s.withPending [j]).withFreeIndex (s.freeIndex + 1) := by
  set k := Config.freeNat s.freeIndex % (i :: rest).length with hk
  have inside : k < (i :: rest).length := Nat.mod_lt _ (by simp)
  refine ⟨(i :: rest)[k], List.getElem_mem inside, ?_⟩
  simp only [chooseDue, idle, List.nil_append, ← hk, List.getD_eq_getElem _ _ inside]

/-- Settles O2: the cases of `tick`, and `mem_dueExpiries`. -/
theorem idleStepPassesTime : Obligations.IdleStepPassesTime := by
  intro s idle
  have ticks : step s = .next (tick s) := by simp only [step, idle]
  refine ⟨fun held => ?_, fun awake none => ?_, fun awake some => ?_, mem_dueExpiries⟩
  · rw [ticks, tick, if_pos held]
  · simp only [ticks, tick, awake, none]
    rfl
  · simp only [ticks, tick, awake, Bool.false_eq_true, if_false]
    split
    · next none => exact absurd none some
    · next i one =>
      refine ⟨i, by simp [one], 0, by simp, ?_⟩
      simp only [idle, List.nil_append]
      rfl
    · next i rest _ several =>
      obtain ⟨j, mem, chosen⟩ := chooseDue_mem (i := i) (rest := rest) idle
      exact ⟨j, several ▸ mem, 1, le_rfl, congrArg Host.Outcome.next chosen⟩

/-! ### The checks of a port (R195, R196) -/

/-- Every request is served by its port, whatever its kind. -/
theorem exec_request (k : Kind) (p : Port) (n : Byte) (d : List Byte) :
    ∃ owner, ∀ s, exec (k.request p n d) s = .next (serve k p n d owner s) := by
  cases k <;> exact ⟨_, fun _ => rfl⟩

/-- A request at an idle port that fails a check is answered by the port. -/
theorem serve_refused {k : Kind} {r : Reply} (n : Byte) (owner : State → Decision) (awake : s.resetHeld = false)
    (idle : (s.port p).service = .idle) (fails : portChecks k p d s = some r) :
    serve k p n d owner s = refuseAtPort p r (takeRequest p n k.code s) := by
  simp [serve, awake, idle, fails]

/-- A port's refusal: ACCESS_DENIED sets ACCESS_VIOLATION in the port, and every refusal is answered (R199). -/
theorem refuseAtPort_takeRequest (p : Port) (n kb : Byte) (r : Reply) (s : State) :
    refuseAtPort p r (takeRequest p n kb s) =
      sent p n kb r (if r = .accessDenied then s.withPort p ((s.port p).latch .accessViolation) else s) := by
  unfold refuseAtPort
  split
  · rw [answerPort_of_waiting (n := n) (kb := kb) _ (by simp [latchPort, takeRequest, PortState.latch,
      PortState.setLatched, PortState.evaluate])]
    simp [latchPort, takeRequest, sent, PortState.latch, PortState.setLatched, PortState.evaluate]
  · rw [answerPort_of_waiting _ (takeRequest_service p n kb s)]
    simp [takeRequest, sent]

/-- Settles O5: each clause is one branch of `serve`, the refusals by the first check of `portChecks` that fails. -/
theorem portChecksRefuse : Obligations.PortChecksRefuse := by
  intro k p n d s
  obtain ⟨owner, served⟩ := exec_request k p n d
  rw [served]
  have refused {r : Reply} (awake : s.resetHeld = false) (idle : (s.port p).service = .idle)
      (fails : portChecks k p d s = some r) :
      serve k p n d owner s =
        sent p n k.code r (if r = .accessDenied then s.withPort p ((s.port p).latch .accessViolation) else s) := by
    rw [serve_refused n owner awake idle fails, refuseAtPort_takeRequest]
  refine ⟨fun held => ?_, fun awake busy => ?_, fun awake idle denied => ?_,
    fun awake idle right starting late => ?_, fun awake idle right started length => ?_⟩
  · simp [serve, held]
  · simp [serve, awake, busy, overrunPort, latchPort, top16]
  · rw [refused awake idle (r := .accessDenied) (by simp [portChecks, denied])]
    rfl
  · rw [refused awake idle (r := .notReady) (by simp [portChecks, right, starting, late])]
    rfl
  · rw [refused awake idle (r := .badArgument) (by simpa [portChecks, right, length] using started)]
    rfl

/-! ### What the links bring -/

theorem badFramePort_eq (p : Port) (s : State) :
    badFramePort p s = s.withPort p
      (({ s.port p with receive := .hunting, errors := saturatingSucc 65535 (s.port p).errors }).latch .linkError) := by
  simp [badFramePort, latchPort, top16]

theorem overrunPort_eq (p : Port) (s : State) :
    overrunPort p s = s.withPort p
      (({ s.port p with receive := .hunting, overruns := saturatingSucc 65535 (s.port p).overruns }).latch
        .linkError) := by
  simp [overrunPort, latchPort, top16]

/-- Settles O6: each clause is one branch of its command. -/
theorem linkEventsCounted : Obligations.LinkEventsCounted := by
  intro p cause n k d a s
  refine ⟨fun awake => ?_, fun awake gap => ?_, fun early => ?_, fun busy => ?_, fun idle => ?_, fun answering => ?_,
    fun silent => ?_, fun awake idle => ?_, fun awake busy => ?_⟩
  · change execBadFrame p cause s = _
    simp [execBadFrame, awake, badFramePort_eq]
  · change execFrameGapTimeout p s = _
    simp [execFrameGapTimeout, awake, expired_eq_due, gapTimer_eq, frameGapMs, gap, badFramePort_eq]
  · change execFrameGapTimeout p s = _
    simp [execFrameGapTimeout, expired_eq_due, gapTimer_eq, frameGapMs, early]
  · change execOverrun p s = _
    simp [execOverrun, busy, overrunPort_eq]
  · change execOverrun p s = _
    simp [execOverrun, idle]
  · change execAnswerSent p s = _
    simp [execAnswerSent, answering, isAnswering]
  · change execAnswerSent p s = _
    have quiet : isAnswering (s.port p).service = false := by
      cases service : (s.port p).service with
      | answering b => exact absurd service (silent b)
      | idle | waiting => rfl
    simp [execAnswerSent, quiet]
  · change execUnknownKindRequest p n k d s = _
    simp [execUnknownKindRequest, awake, idle, refuseAtPort_takeRequest]
  · change execUnknownKindRequest p n k d s = execOverrun p s
    simp [execUnknownKindRequest, execOverrun, awake, busy]

/-! ### Power-on reset and the reset line -/

theorem powerOnState_eq (held : Bool) (load : LoadState) (s : State) :
    powerOnState held load s = poweredOn s held load (cutWrites s).freeIndex (cutWrites s).loader.eeprom := rfl

theorem brokenPart_cut {α : Type} (free : Nat) (old : Machine.Part α) (new : α) :
    PartCut old new (brokenPart free old new) := by
  unfold brokenPart
  split
  · exact .inr (.inr rfl)
  · exact .inl rfl
  · exact .inr (.inl rfl)

theorem brokenCalPart_cut (free : Nat) (old : Machine.Part CalItems) (copy : Option CalItems) :
    CopyCut old copy (brokenCalPart free old copy) := by
  cases copy with
  | none => rfl
  | some x => exact brokenPart_cut free old x

/-- A write that is cut off changes its own parts at most, each as log 7 has it. -/
theorem brokenEeprom_cut (j : WriteJob) (free : Nat → Nat) (e : Eeprom) : EepromCut j e (brokenEeprom j free e) := by
  cases j with
  | commit copies => exact ⟨rfl, brokenCalPart_cut _ _ _, brokenCalPart_cut _ _ _⟩
  | counter | identity | settings => exact ⟨rfl, brokenPart_cut _ _ _⟩

/-- Settles O52: `powerOnState` with the EEPROM that `cutWrites` leaves. -/
theorem resetsPowerOn : Obligations.ResetsPowerOn := by
  intro j rest s
  refine ⟨fun none => ?_, fun head => ?_, fun awake => ?_⟩
  · have kept : cutWrites s = s := by simp [cutWrites, none]
    have state (held : Bool) (load : LoadState) :
        powerOnState held load s = poweredOn s held load s.freeIndex s.loader.eeprom := by
      rw [powerOnState_eq, kept]
    refine ⟨congrArg _ (state _ _), congrArg _ (state _ _), fun held => ?_⟩
    change execResetLineRelease s = _
    rw [execResetLineRelease, if_pos held, state]
  · have cut : cutWrites s = (breakWrite j s).withWrites [] := by simp [cutWrites, head]
    have state (held : Bool) (load : LoadState) :
        powerOnState held load s =
          poweredOn s held load (s.freeIndex + 2) (breakWrite j s).loader.eeprom := by
      rw [powerOnState_eq, cut]; rfl
    refine ⟨(breakWrite j s).loader.eeprom, brokenEeprom_cut j _ _, congrArg _ (state _ _), congrArg _ (state _ _),
      fun held => ?_⟩
    change execResetLineRelease s = _
    rw [execResetLineRelease, if_pos held, state]
  · change execResetLineRelease s = _
    simp [execResetLineRelease, awake]

/-! ### The machine right after power-on reset -/

theorem reset_context (l : Lifter) : State.reset.context l = none := by cases l <;> rfl
theorem reset_record (c : Consumer) : State.reset.flow.records.get c = .none := by
  obtain l | st := c <;> [cases l; cases st] <;> rfl
theorem reset_packer_state (st : Stream) : (State.reset.packer st).state = .idle := by cases st <;> rfl

theorem reset_waiting : State.reset.flow.waiting = [] := rfl

/-- Settles O60: no port latches anything, no lifter has a context, nothing asks for flow and nothing is stored. -/
theorem resetIsLawful : Obligations.ResetIsLawful := by
  have noPhase (l : Lifter) : State.reset.phase l = none := by simp [State.phase, reset_context]
  constructor
  case attention => intro p; cases p <;> simp [State.reset, State.port, PerPort.get, powerOnPort]
  case inhibit => simp only [InhibitLaw, reset_context]; decide
  case flow =>
    constructor
    case listed => intro c; simp [reset_record, isWaiting, reset_waiting]
    case once => exact List.nodup_nil
    case demands => intro c d since h; simp [reset_record] at h
    case engine => rfl
    case supply => rfl
    case units => decide
    case stopped => intro _ c; simp [reset_record, isGranted]
    case line => simp [State.reset, resetFlow, grantedUnits, recordUnits]
  case requests =>
    constructor
    case lifter => intro l; simp [reset_record, noPhase]
    case packer => intro st; simp [reset_record, reset_packer_state]
    case lifterDemand => intro l ph u h; simp [noPhase] at h
    case packerDemand => intro st ph u h; simp [reset_packer_state] at h
    case lifterTimer => intro l c h; simp [reset_context] at h
    case packerTimer => intro st h; cases st <;> exact absurd h (by decide)
    case weighTimers => intro l c h; simp [reset_context] at h
    case dwellTimer => intro l c h; simp [reset_context] at h
  case grants =>
    constructor
    case blocked => intro h; exact absurd h (by decide)
    case starting => exact fun _ => ⟨rfl, reset_context, fun st ph => by simp [reset_packer_state]⟩
  case valves =>
    constructor
    case lifterGrant => intro l h; cases l <;> simp [State.reset, State.lifter, PerLifter.get, powerOnLifter] at h
    case lifterOne => intro l h; cases l <;> simp [State.reset, State.lifter, PerLifter.get, powerOnLifter] at h
    case pulse => intro l c x h; simp [reset_context] at h
    case packerGrant => intro st h; cases st <;> simp [State.reset, State.packer, PerStream.get, powerOnPacker] at h
    case packerOne => intro st h; cases st <;> simp [State.reset, State.packer, PerStream.get, powerOnPacker] at h
  case reservations =>
    constructor
    case held => intro l; rw [reset_context]; cases l <;> decide
    case capacity => decide
  case sequences =>
    constructor
    case next => decide
    case range => intro w h; simp [State.reset, powerOnJournal] at h
    case consecutive => intro i v w h; simp [State.reset, powerOnJournal] at h
    case newest => intro w h; simp [State.reset, powerOnJournal] at h
  case table => constructor <;> simp [State.reset, powerOnTags]
  case tags =>
    have unbound (l : Lifter) : bound State.reset l = none := by simp [bound, reset_context]
    constructor
    case boundOnce => intro t; simp [unbound]
    case notPending => intro l m x _; simp [unbound]
    case pendingOnce => intro x y h; simp [State.reset, powerOnTags] at h
  case store =>
    constructor
    case identityNext | counterNext => intros; simp_all [State.reset]
    case load => intro _; decide
    all_goals decide
  case limits => intro st; cases st <;> decide
  case ranges =>
    constructor
    case retries => intro l c h; simp [reset_context] at h
    case corrections | crossReads | passes | clock => decide
    case linkErrors | overruns => intro p; cases p <;> decide
    case drift => intro l; cases l <;> decide
    all_goals intro st; cases st <;> decide

end Sys2Proof.Safety
end

section
/-! SUPPORT. Requests that are decided at once. -/

namespace Sys2Proof.Safety

open Sys2Proof.Machine

variable {s t : State} {p : Port} {d : List Byte}

section
variable (p : Port) (n kb : Byte) (s : State)

/-- A request taken and an event latched, in either order. -/
theorem latchAll_takeRequest (e : Event) :
    latchAll e (takeRequest p n kb s) = takeRequest p n kb (latchAll e s) := by cases p <;> rfl

theorem latchWhen_takeRequest (b : Bool) (e : Event) :
    latchWhen b e (takeRequest p n kb s) = takeRequest p n kb (latchWhen b e s) := by
  cases b
  · rfl
  · exact latchAll_takeRequest p n kb s e

theorem evaluateLimits_takeRequest :
    evaluateLimits (takeRequest p n kb s) = takeRequest p n kb (evaluateLimits s) := by
  simp only [evaluateLimits]
  exact latchWhen_takeRequest p n kb (s.withCompartments _) _ _

end

theorem lifterIdle_eq_true {l : Lifter} : s.lifterIdle l = true ↔ s.context l = none := by simp [State.lifterIdle]
theorem lifterIdle_eq_false {l : Lifter} : s.lifterIdle l = false ↔ s.context l ≠ none := by
  simp [State.lifterIdle, ← Option.isSome_iff_ne_none]

/-- A request whose owner decides on an answer, given how the owner decides in the state the port leaves. -/
theorem exec_decided {k : Kind} {i : Instr} {owner : State → Decision} {r : Reply} {n : Byte}
    (accepts : Accepts k p d s) (serves : exec i s = .next (serve k p n d owner s))
    (decides : owner (takeRequest p n k.code s) = (takeRequest p n k.code t, some r)) :
    exec i s = .next (replied p n k r t) := serves.trans (congrArg _ (serve_decided n accepts decides))

end Sys2Proof.Safety
end

section
/-! PROOFS. The requests on accounts, events, the access map and the ring, and the settling lines (O33, O37, O45, O46). -/

namespace Sys2Proof.Safety

open Sys2Proof.Machine

variable {s t : State} {p : Port} {d : List Byte}

/-! ### Account and tariff requests -/

theorem decideClearAccounts_busy (h : s.context .left ≠ none ∨ s.context .right ≠ none) :
    decideClearAccounts s = declined .busy s := by
  have busy : (!s.lifterIdle .left || !s.lifterIdle .right) = true := by
    obtain h | h := h <;> simp [lifterIdle_eq_false.mpr h]
  simp [decideClearAccounts, busy]

theorem decideClearAccounts_taken (left : s.context .left = none) (right : s.context .right = none) :
    decideClearAccounts s = taken (s.withTable []) := by
  simp [decideClearAccounts, lifterIdle_eq_true.mpr left, lifterIdle_eq_true.mpr right]

theorem firstMeansYes_none {v : Nat} (h : 1 < v) : firstMeansYes v = none := by
  unfold firstMeansYes
  split <;> simp_all

theorem decideSetRoutePolicy_none (h : firstMeansYes (byteAt d 0) = none ∨ firstMeansYes (byteAt d 1) = none) :
    decideSetRoutePolicy d s = declined .badArgument s := by
  unfold decideSetRoutePolicy
  split <;> simp_all

theorem decideSetRoutePolicy_some {a b : Bool} (first : firstMeansYes (byteAt d 0) = some a)
    (second : firstMeansYes (byteAt d 1) = some b) :
    decideSetRoutePolicy d s = if savingSettings s then declined .busy s
      else taken (s.withTags { s.tags with untaggedAllow := a, unknownAllow := b }) := by
  simp [decideSetRoutePolicy, first, second]

theorem tariffArg_some {cls : Fin 16} {x : Tariff} (named : cls.val = byteAt d 0) (paid : 1 ≤ cls.val)
    (fields : x = ⟨beAt d 1 2, beAt d 3 2, beAt d 5 2, beAt d 7 3⟩) (low : x.minimum ≤ 9999) (high : x.cap ≤ 99999)
    (order : x.minimum ≤ x.cap) : tariffArg d = some (cls, x) := by
  subst fields
  have range : 1 ≤ byteAt d 0 ∧ byteAt d 0 < 16 := ⟨named ▸ paid, named ▸ cls.isLt⟩
  have same : (⟨byteAt d 0, range.2⟩ : Fin 16) = cls := Fin.ext named.symm
  simp only [tariffArg]
  rw [dif_pos range, if_pos ⟨low, high, order⟩, same]

theorem tariffArg_none
    (h : byteAt d 0 = 0 ∨ 15 < byteAt d 0 ∨ 9999 < beAt d 5 2 ∨ 99999 < beAt d 7 3 ∨ beAt d 7 3 < beAt d 5 2) :
    tariffArg d = none := by
  simp only [tariffArg]
  split
  · rw [if_neg (by omega)]
  · rfl

theorem decidePutTariff_some {cls : Fin 16} {x : Tariff} (h : tariffArg d = some (cls, x)) :
    decidePutTariff d s = taken (s.withTags { s.tags with tariffs := s.tags.tariffs.set cls.val x cls.isLt }) := by
  simp [decidePutTariff, h]

theorem decidePutTariff_none (h : tariffArg d = none) : decidePutTariff d s = declined .badArgument s := by
  simp [decidePutTariff, h]

/-- Settles O37: each request is decided by its arguments and the state as the statement says. -/
theorem accountRequests : Obligations.AccountRequests := by
  intro p n d a b cls x s
  refine ⟨fun h busy => ?_, fun h left right => ?_, fun h first second => ?_, fun h bad => ?_, fun h => ?_,
    fun h named paid fields low high order => ?_, fun h bad => ?_⟩
  · exact exec_decided h rfl (decideClearAccounts_busy busy)
  · exact exec_decided h rfl (decideClearAccounts_taken left right)
  · split
    · next saving => exact exec_decided h rfl ((decideSetRoutePolicy_some first second).trans (if_pos saving))
    · next free => exact exec_decided h rfl ((decideSetRoutePolicy_some first second).trans (if_neg free))
  · exact exec_decided h rfl (decideSetRoutePolicy_none (bad.imp firstMeansYes_none firstMeansYes_none))
  · exact exec_decided h rfl rfl
  · exact exec_decided h rfl (decidePutTariff_some (tariffArg_some named paid fields low high order))
  · exact exec_decided h rfl (decidePutTariff_none (tariffArg_none bad))

/-! ### Event and map requests -/

theorem decideClearEvents_some {x : EventSet} (h : eventSetArg (beAt d 0 4) = some x) :
    decideClearEvents p d s = (s.withPort p (clearLatches (s.port p) x),
      some (.ok (beBytes 4 ((s.port p).latched &&& ~~~x).toNat))) := by
  simp only [decideClearEvents, h]
  rfl

theorem decideSetEventMask_some {x : EventSet} (h : eventSetArg (beAt d 0 4) = some x) :
    decideSetEventMask p d s = if savingSettings s then declined .busy s
      else taken (s.withPort p ((s.port p).setMask x)) := by
  simp [decideSetEventMask, h]

theorem decideSetEventMask_none (h : eventSetArg (beAt d 0 4) = none) :
    decideSetEventMask p d s = declined .badArgument s := by
  simp [decideSetEventMask, h]

theorem decideClearEvents_none (h : eventSetArg (beAt d 0 4) = none) :
    decideClearEvents p d s = declined .badArgument s := by
  simp [decideClearEvents, h]

theorem eventSetArg_some {v : Nat} (h : v < 2 ^ 26) : eventSetArg v = some (BitVec.ofNat 26 v) := if_pos h
theorem eventSetArg_none {v : Nat} (h : 2 ^ 26 ≤ v) : eventSetArg v = none := if_neg (Nat.not_lt.mpr h)

/-- A port's latches set anew, or its mask, before or after a request is taken. -/
theorem takeRequest_setLatched (p : Port) (n kb : Byte) (x : EventSet) (s : State) :
    (takeRequest p n kb s).withPort p (((takeRequest p n kb s).port p).setLatched x) =
      takeRequest p n kb (s.withPort p ((s.port p).setLatched x)) := by cases p <;> rfl
theorem takeRequest_setMask (p : Port) (n kb : Byte) (x : EventSet) (s : State) :
    (takeRequest p n kb s).withPort p (((takeRequest p n kb s).port p).setMask x) =
      takeRequest p n kb (s.withPort p ((s.port p).setMask x)) := by cases p <;> rfl
theorem takeRequest_latched (p : Port) (n kb : Byte) (s : State) (q : Port) :
    ((takeRequest p n kb s).port q).latched = (s.port q).latched := by cases p <;> cases q <;> rfl

theorem decideSetAccess_some {q : Port} {c : Fin 14} {r : Rights} (unlocked : s.access.locked = false)
    (h : rightsArg d = some (q, c, r)) :
    decideSetAccess d s = if savingSettings s then declined .busy s
      else taken (s.withAccess { s.access with map := replaceRights s.access.map q c r }) := by
  simp [decideSetAccess, unlocked, h]

theorem decideSetAccess_none (unlocked : s.access.locked = false) (h : rightsArg d = none) :
    decideSetAccess d s = declined .badArgument s := by
  simp [decideSetAccess, unlocked, h]

theorem decideSetAccess_locked (locked : s.access.locked = true) : decideSetAccess d s = declined .locked s :=
  if_pos locked

/-- Settles O45: each request is decided by its arguments, the lock and the writes in flight. -/
theorem eventAndMapRequests : Obligations.EventAndMapRequests := by
  intro p q n d c r w s
  refine ⟨fun h small => ?_, fun h large => ?_, fun h => ?_, fun h locked => ?_, fun h unlocked bad => ?_,
    fun h unlocked good => ?_, fun h => ?_⟩
  · refine exec_decided h rfl ((decideClearEvents_some (eventSetArg_some small)).trans ?_)
    rw [clearLatches, takeRequest_setLatched, takeRequest_latched]
  · exact exec_decided h rfl (decideClearEvents_none (eventSetArg_none large))
  · split
    · next large => exact exec_decided h rfl (decideSetEventMask_none (eventSetArg_none large))
    · next small =>
      have decides (x : State) := decideSetEventMask_some (p := p) (s := x) (eventSetArg_some (Nat.not_le.mp small))
      split
      · next saving => exact exec_decided h rfl ((decides _).trans (if_pos saving))
      · next free =>
        refine exec_decided h rfl ((decides (takeRequest p n Kind.setEventMask.code s)).trans ((if_neg free).trans ?_))
        rw [takeRequest_setMask]
        rfl
  · exact exec_decided h rfl (decideSetAccess_locked locked)
  · exact exec_decided h rfl (decideSetAccess_none unlocked bad)
  · have decides := decideSetAccess_some (s := takeRequest p n Kind.setAccess.code s) unlocked good
    split
    · next saving => exact exec_decided h rfl (decides.trans (if_pos saving))
    · next free => exact exec_decided h rfl (decides.trans (if_neg free))
  · split
    · next locked => exact exec_decided h rfl (if_pos locked)
    · next unlocked => exact exec_decided h rfl (if_neg unlocked)

/-! ### The scan ring (R97) -/

theorem channelArg_some {a : Fin 12} {v : Nat} (h : a.val = v) : channelArg v = some a := by
  subst h
  exact dif_pos a.isLt

theorem channelArg_none {v : Nat} (h : 12 ≤ v) : channelArg v = none := dif_neg (Nat.not_lt.mpr h)

theorem decideSetScanRing_none (h : channelArg (byteAt d 0) = none ∨ channelArg (byteAt d 1) = none) :
    decideSetScanRing d s = declined .badArgument s := by
  unfold decideSetScanRing
  split <;> simp_all

theorem decideSetScanRing_some {a b : Fin 12} (first : a.val = byteAt d 0) (second : b.val = byteAt d 1) :
    decideSetScanRing d s = if ringBusy s then declined .busy s else taken (replaceRing a b s) := by
  simp [decideSetScanRing, channelArg_some first, channelArg_some second]

theorem ringBusy_iff : ringBusy s = true ↔ s.context .left ≠ none ∨ s.context .right ≠ none
    ∨ s.packers.residual.state ≠ .idle ∨ s.packers.recycle.state ≠ .idle
    ∨ s.loader.writes.any isSettingsJob = true := by
  simp only [ringBusy, Bool.or_eq_true, Bool.not_eq_true', lifterIdle_eq_false, decide_eq_true_eq, savingSettings]
  tauto

/-- The slots of a replaced ring, by where the channel stood and stands (R97). -/
theorem slot_replaceRing (a b ch : Fin 12) (s : State) :
    (replaceRing a b s).slot ch =
      slotAfterRing (inRing s.scan ch) (inRing (replaceRing a b s).scan ch) s.bodyTimer (s.slot ch) := by
  simp only [State.slot, replaceRing, withScan_scan, Vector.get_ofFn]
  rfl

/-- Settles O46: `ringBusy` decides, and `slotAfterRing` says what becomes of each slot. -/
theorem scanRingReplaced : Obligations.ScanRingReplaced := by
  intro p n d a b s h
  refine ⟨fun bad => ?_, fun first second busy => ?_, fun first second left right residual recycle free => ?_⟩
  · exact exec_decided h rfl (decideSetScanRing_none (bad.imp channelArg_none channelArg_none))
  · exact exec_decided h rfl ((decideSetScanRing_some first second).trans (if_pos (ringBusy_iff.mpr busy)))
  · have idle : ¬ ringBusy s = true := by
      simp [ringBusy_iff, left, right, residual, recycle, free]
    refine ⟨replaceRing a b s, exec_decided h rfl ((decideSetScanRing_some first second).trans (if_neg idle)), rfl,
      rfl, rfl, rfl, rfl, rfl, rfl, rfl, fun ch => ?_⟩
    rw [slot_replaceRing]
    refine ⟨?_, fun before after => ?_, fun before after => ?_, fun after => ?_⟩
    · unfold slotAfterRing
      split <;> rfl
    · rw [before, after]; rfl
    · rw [before, after]; exact ⟨rfl, rfl⟩
    · rw [after]
      cases inRing s.scan ch <;> exact ⟨rfl, rfl⟩

/-! ### Settling lines (R33) -/

theorem lineUpdate_change {x : Debounced} {level : Bool} (awake : s.resetHeld = false) (h : x.line ≠ level) :
    lineUpdate s level x = ⟨level, x.reading, if level = x.reading then none else some s.bodyTimer⟩ := by
  simp [lineUpdate, awake, changeLine, h]

theorem lineUpdate_same {x : Debounced} {level : Bool} (awake : s.resetHeld = false) (h : x.line = level) :
    lineUpdate s level x = x := by
  simp [lineUpdate, awake, changeLine, h]

theorem inhibitReasons_of_law (h : InhibitLaw s) : s.body.inhibitReasons = inhibitConditions s := by
  obtain ⟨left, right, tailgate, -⟩ := h
  have idle (l : Lifter) : (s.context l ≠ none) ↔ (!s.lifterIdle l) = true := by
    rw [← lifterIdle_eq_false, Bool.not_eq_true']
  rw [idle, ← Bool.eq_iff_iff] at left right
  have opened : s.body.inhibitReasons.tailgate = !s.body.tailgate.reading := by
    rw [Bool.eq_iff_iff, tailgate, Bool.not_eq_true']
  rw [inhibitConditions, ← left, ← right, ← opened]

theorem inhibitLine_of_law (h : InhibitLaw s) : s.body.inhibitLine = (inhibitConditions s).any := by
  rw [← inhibitReasons_of_law h]
  obtain ⟨left, right, tailgate, line⟩ := h
  rw [Bool.eq_iff_iff, line, ← left, ← right, ← tailgate]
  simp [InhibitReasons.any, or_assoc]

/-- A body whose inhibit line follows its conditions keeps it through an evaluation (R46). -/
theorem evaluateInhibit_withBody {b : Body} (h : InhibitLaw s) (reading : b.tailgate.reading = s.body.tailgate.reading)
    (reasons : b.inhibitReasons = s.body.inhibitReasons) (line : b.inhibitLine = s.body.inhibitLine) :
    evaluateInhibit (s.withBody b) = s.withBody b := by
  have conditions : inhibitConditions (s.withBody b) = inhibitConditions s := by
    simp only [inhibitConditions, withBody_body, reading]
    rfl
  rw [evaluateInhibit, conditions, ← inhibitLine_of_law h, ← inhibitReasons_of_law h, ← reasons, ← line]
  rfl

/-- Settles O33: `changeLine` by whether the level is new, and the two buttons' releases. -/
theorem linesSettle : Obligations.LinesSettle := by
  intro b l s
  refine ⟨fun awake change => ?_, fun awake change => ?_, fun awake change law => ?_, fun awake change => ?_,
    fun awake same => ?_, rfl, rfl⟩
  · change Host.Outcome.next (s.withBody { s.body with estop := lineUpdate s b s.body.estop }) = _
    rw [lineUpdate_change awake change]
  · change Host.Outcome.next (s.withBody { s.body with
      steps := s.body.steps.set l (lineUpdate s b (s.body.steps.get l)) }) = _
    rw [lineUpdate_change awake change]
  · change Host.Outcome.next (evaluateInhibit (s.withBody { s.body with
      tailgate := lineUpdate s b s.body.tailgate })) = _
    rw [lineUpdate_change awake change]
    exact congrArg _ (evaluateInhibit_withBody (b := { s.body with
      tailgate := ⟨b, s.body.tailgate.reading, if b = s.body.tailgate.reading then none else some s.bodyTimer⟩ })
      law rfl rfl rfl)
  · change Host.Outcome.next (s.withCalib { s.calib with sealSwitch := lineUpdate s b s.calib.sealSwitch }) = _
    rw [lineUpdate_change awake change]
  · change Host.Outcome.next (s.withBody { s.body with estop := lineUpdate s b s.body.estop }) = _
    rw [lineUpdate_same awake same]
    rfl

end Sys2Proof.Safety
end

section
/-! SUPPORT. What the shared operations of lifters, packers, the flow arbiter and the weigh engine are made of:
`Operates s t` says that t is reached from s by updates of those blocks and by latches in all ports, each update
keeping which lifters hold a context, the bound tags, and the ranges of the counters. Laws are carried over an operation
by an induction over this relation, once per law. -/

namespace Sys2Proof.Safety

open Sys2Proof.Machine

variable {s t : State}

/-- A lifter's retry count is in its range. -/
def RetryFits (u : LifterUnit) : Prop := ∀ c, u.context = some c → c.retry ≤ 3

/-- A lifter that keeps its context's tag, or its idleness, and the range of its retry count. -/
structure UnitKept (u v : LifterUnit) : Prop where
  tag : v.context.map LiftContext.tag = u.context.map LiftContext.tag
  retry : RetryFits u → RetryFits v

/-- A packer's counters are in their ranges. -/
def CountsFit (k : Packer) : Prop := k.pending ≤ 3 ∧ k.dropped ≤ 65535 ∧ k.shortStrokes ≤ 255

/-- The scan unit's pass number and the drift counts are in their ranges. -/
def PassFits (x : Scan) : Prop := x.pass ≤ 65535
def DriftFits (x : Weigh) : Prop := ∀ l, (x.drift.get l).count ≤ 50

theorem saturatingSucc_le {top n : Nat} (h : n ≤ top) : saturatingSucc top n ≤ top := by
  unfold saturatingSucc
  split <;> omega

theorem ite_saturatingSucc_le {p : Prop} [Decidable p] {top n : Nat} (h : n ≤ top) :
    (if p then saturatingSucc top n else 0) ≤ top := by
  split
  · exact saturatingSucc_le h
  · exact Nat.zero_le _

/-- t is reached from s by the updates that lifters, packers, the flow arbiter and the weigh engine make. -/
inductive Operates (s : State) : State → Prop
  | refl : Operates s s
  | flow {t : State} (h : Operates s t) (v : Flow) : Operates s (t.withFlow v)
  | lifter {t : State} (h : Operates s t) (l : Lifter) (u : LifterUnit) (kept : UnitKept (t.lifter l) u) :
      Operates s (t.withLifter l u)
  | packer {t : State} (h : Operates s t) (st : Stream) (k : Packer) (fits : CountsFit (t.packer st) → CountsFit k) :
      Operates s (t.withPacker st k)
  | fill {t : State} (h : Operates s t) (st : Stream) (v : FillState) :
      Operates s (t.withCompartment st { t.compartment st with fill := v })
  | scan {t : State} (h : Operates s t) (v : Scan) (fits : PassFits t.scan → PassFits v) : Operates s (t.withScan v)
  | weigh {t : State} (h : Operates s t) (v : Weigh) (fits : DriftFits t.weigh → DriftFits v) :
      Operates s (t.withWeigh v)
  | latch {t : State} (h : Operates s t) (e : Event) : Operates s (latchAll e t)

theorem Operates.trans {u : State} (h : Operates s t) (k : Operates t u) : Operates s u := by
  induction k with
  | refl => exact h
  | flow _ v ih => exact ih.flow v
  | lifter _ l u kept ih => exact ih.lifter l u kept
  | packer _ st k fits ih => exact ih.packer st k fits
  | fill _ st v ih => exact ih.fill st v
  | scan _ v fits ih => exact ih.scan v fits
  | weigh _ v fits ih => exact ih.weigh v fits
  | latch _ e ih => exact ih.latch e

namespace Operates

theorem ite {p : Prop} [Decidable p] {u v : State} (yes : p → Operates s u) (no : ¬ p → Operates s v) :
    Operates s (if p then u else v) := by
  split
  · next hp => exact yes hp
  · next hp => exact no hp

variable (h : Operates s t)
include h

/-! ### Lifters -/

/-- A lifter with another context that has the same tag and retry count. -/
theorem context {l : Lifter} {c d : LiftContext} (hc : t.context l = some c) (u : LifterUnit)
    (hu : u.context = some d) (tag : d.tag = c.tag)
    (retry : c.retry ≤ 3 → d.retry ≤ 3) :
    Operates s (t.withLifter l u) := by
  have old : (t.lifter l).context = some c := hc
  refine h.lifter l u ⟨by rw [hu, old]; simp [tag], fun fits x hx => ?_⟩
  rw [hu] at hx
  obtain rfl := Option.some.inj hx
  exact retry (fits c old)

/-- A lifter with other fields than its context. -/
theorem unit {l : Lifter} (u : LifterUnit) (hu : u.context = t.context l) : Operates s (t.withLifter l u) :=
  h.lifter l u ⟨congrArg _ hu, fun fits c hc => fits c (hu.symm.trans hc)⟩

theorem withValves (l : Lifter) (a b : Bool) : Operates s (t.withValves l a b) := h.unit _ rfl

theorem mapContext (l : Lifter) (f : LiftContext → LiftContext) (tag : ∀ c, (f c).tag = c.tag)
    (retry : ∀ c, c.retry ≤ 3 → (f c).retry ≤ 3) : Operates s (t.mapContext l f) := by
  refine h.lifter l _ ⟨?_, fun fits x hx => ?_⟩
  · simp only [State.context, Option.map_map]
    exact congrArg (Option.map · _) (funext tag)
  · obtain ⟨c, hc, rfl⟩ := Option.map_eq_some_iff.mp hx
    exact retry c (fits c hc)

/-! ### Flow -/

theorem testLine : Operates s (testLine t) := Operates.ite (fun _ => h) (fun _ => (h.flow _).latch _)

theorem handGrant (c : Consumer) : Operates s (handGrant c t) := by
  cases c with
  | packer st =>
    refine h.packer st _ fun fits => ?_
    unfold packerAtGrant
    split <;> exact fits
  | lifter l =>
    simp only [Machine.handGrant, grantLifter]
    split
    · exact h
    · split
      · exact h
      · refine (h.withValves l _ _).mapContext l _ (fun c => ?_) (fun c hc => ?_) <;> unfold contextAtGrant <;> split
        · rfl
        · rfl
        · exact hc
        · exact hc

theorem grantOne (c : Consumer) : Operates s (grantOne c t) := (h.flow _).handGrant c

theorem grantLoop (n : Nat) : Operates s (grantLoop n t) := by
  induction n generalizing t with
  | zero => exact h
  | succ n ih =>
    simp only [Machine.grantLoop]
    split
    · exact h
    · exact Operates.ite (fun _ => ih (h.grantOne _)) (fun _ => h)

theorem evaluateGrants : Operates s (evaluateGrants t) :=
  (Operates.ite (fun _ => h.grantLoop _) (fun _ => h)).testLine

theorem placeRequest (c : Consumer) (d : Nat) : Operates s (placeRequest c d t) := by
  unfold Machine.placeRequest
  split
  · exact (h.flow _).evaluateGrants
  · exact h

theorem dropRecord (c : Consumer) : Operates s (dropRecord c t) := h.flow _
theorem releaseGrant (c : Consumer) : Operates s (releaseGrant c t) :=
  Operates.ite (fun _ => (h.flow _).evaluateGrants) (fun _ => h)
theorem withdrawRequest (c : Consumer) : Operates s (withdrawRequest c t) :=
  Operates.ite (fun _ => (h.flow _).evaluateGrants) (fun _ => h)
theorem giveBackFlow (c : Consumer) : Operates s (giveBackFlow c t) := (h.releaseGrant c).withdrawRequest c
theorem clearFlow : Operates s (clearFlow t) := (h.flow _).testLine

/-! ### Windows and the service queue -/

theorem startComputation : Operates s (startComputation t) := by
  unfold Machine.startComputation
  split
  · exact h.weigh _ (by exact id)
  · exact h.weigh _ (by exact id)

theorem joinQueue (l : Lifter) : Operates s (joinQueue l t) := by
  unfold Machine.joinQueue
  split
  · exact (h.weigh _ (by exact id)).startComputation
  · exact h.weigh _ (by exact id)

theorem leaveQueue (l : Lifter) : Operates s (leaveQueue l t) := by
  unfold Machine.leaveQueue
  split
  · exact h
  · exact Operates.ite (fun _ => (h.weigh _ (by exact id)).startComputation) (fun _ => h.weigh _ (by exact id))

theorem withBuffer (l : Lifter) (b : Buffer) : Operates s (t.withBuffer l b) := h.scan _ (by exact id)

theorem withdrawWindow (l : Lifter) : Operates s (withdrawWindow l t) := by
  unfold Machine.withdrawWindow
  split
  · exact h
  · exact h.withBuffer l _
  · exact (h.withBuffer l _).leaveQueue l

theorem armWindow (l : Lifter) : Operates s (armWindow l t) := (h.withdrawWindow l).withBuffer l _

theorem markSeal (l : Lifter) : Operates s (markSeal l t) :=
  Operates.ite (fun _ => h.mapContext l _ (by exact fun _ => rfl) (by exact fun _ => id)) (fun _ => h)

theorem addSample (l : Lifter) (v : Int) : Operates s (addSample l v t) := by
  unfold Machine.addSample
  split
  · exact Operates.ite (fun _ => ((h.withBuffer l _).markSeal l).joinQueue l) (fun _ => h.withBuffer l _)
  · exact h

theorem writeSlot (ch : Fin 12) (v : Int) : Operates s (writeSlot ch v t) := h.scan _ (by exact id)

theorem afterRing : Operates s (afterRing t) := by
  unfold Machine.afterRing
  split
  · exact h.scan _ (by exact id)
  · exact h.scan _ (by exact id)

theorem withDrift (l : Lifter) (d : DriftMonitor) (fits : DriftFits t.weigh → d.count ≤ 50) :
    Operates s (t.withDrift l d) :=
  h.weigh _ fun old m => by
    by_cases hm : m = l
    · subst hm
      rw [PerLifter.get_set_self]
      exact fits old
    · rw [PerLifter.get_set_of_ne _ _ _ _ hm]
      exact old m

theorem driftCheck (l : Lifter) (n : Nat) : Operates s (driftCheck l n t) := by
  unfold Machine.driftCheck
  split
  · exact h
  · refine Operates.ite (fun _ => Operates.ite (fun _ => (h.withDrift l _ fun _ => ?_).latch _) fun below => ?_)
      (fun _ => h.withDrift l _ fun _ => ?_)
    · exact Nat.zero_le _
    · exact h.withDrift l _ fun _ => (by unfold driftCount at below; simp only at below ⊢; omega)
    · exact Nat.zero_le _

theorem endPass : Operates s (endPass t) := by
  have pass : Operates s (t.withScan { t.scan with pass := (t.scan.pass + 1) % 65536 }) :=
    h.scan _ fun _ => Nat.le_of_lt_succ (Nat.mod_lt _ (by decide))
  exact Operates.ite (fun _ => (pass.driftCheck .left _).driftCheck .right _) (fun _ => pass)

/-! ### Packers -/

theorem faultPacker (st : Stream) (x : PackFaultCause) (ph : StrokePhase) : Operates s (faultPacker st x ph t) :=
  ((h.packer st _ (by exact id)).giveBackFlow _).latch _

theorem enterStroke (st : Stream) (ph : StrokePhase) : Operates s (enterStroke st ph t) := by
  unfold Machine.enterStroke
  split
  · exact h.faultPacker st _ ph
  · exact (h.packer st _ (by exact id)).placeRequest _ _

theorem startCycle (st : Stream) : Operates s (startCycle st t) :=
  (h.packer st { t.packer st with pending := (t.packer st).pending - 1 }
    fun ⟨a, b, c⟩ => ⟨Nat.le_trans (Nat.sub_le _ _) a, b, c⟩).enterStroke st _

theorem tryStart (st : Stream) : Operates s (tryStart st t) := Operates.ite (fun _ => h.startCycle st) (fun _ => h)

theorem packerToIdle (st : Stream) : Operates s (packerToIdle st t) := (h.packer st _ (by exact id)).tryStart st

theorem holdPacker (st : Stream) (flow : Bool) : Operates s (holdPacker st flow t) := by
  unfold Machine.holdPacker
  split
  · exact (h.packer st _ (by exact id)).giveBackFlow _
  · exact h.packer st _ (by exact id)
  · exact h

theorem haltPacker (st : Stream) : Operates s (haltPacker st t) :=
  Operates.ite (fun _ => h) (fun _ => h.packer st _ (by exact id))

theorem unhaltPacker (st : Stream) : Operates s (unhaltPacker st t) :=
  Operates.ite (fun _ => h.packerToIdle st) (fun _ => h)

theorem addCycle (st : Stream) : Operates s (addCycle st t) := by
  refine Operates.ite (fun below => Operates.tryStart (h.packer st _ ?_) st) (fun _ => h.packer st _ ?_)
  · exact fun ⟨_, b, c⟩ => ⟨below, b, c⟩
  · exact fun ⟨a, b, c⟩ => ⟨a, saturatingSucc_le b, c⟩

theorem addCycles (n : Nat) (st : Stream) : Operates s (addCycles n st t) := by
  induction n generalizing t with
  | zero => exact h
  | succ n ih => exact ih (h.addCycle st)

theorem liftTriggeredCycles (st : Stream) : Operates s (liftTriggeredCycles st t) := h.addCycles _ st

theorem latchWhen (b : Bool) (e : Event) : Operates s (latchWhen b e t) := Operates.ite (fun _ => h.latch e) (fun _ => h)

theorem judgeExtend (st : Stream) : Operates s (judgeExtend st t) :=
  Operates.latchWhen (Operates.latchWhen (Operates.fill
    (h.packer st _ (by exact fun ⟨a, b, c⟩ => ⟨a, b, ite_saturatingSucc_le c⟩)) st _) _ _) _ _

theorem enterDwellPacker (st : Stream) : Operates s (enterDwellPacker st t) := by
  unfold Machine.enterDwellPacker
  split
  · exact h.faultPacker st _ _
  · exact h.packer st _ (by exact id)

theorem endRetract (st : Stream) : Operates s (endRetract st t) := by
  have released : Operates s (Machine.releaseGrant (.packer st) (t.withPacker st (stopPacker (t.packer st)))) :=
    (h.packer st _ (by exact id)).releaseGrant _
  unfold Machine.endRetract
  refine Operates.ite (fun _ => released.packerToIdle st) (fun _ => ?_)
  split
  · exact released.packer st _ (by exact id)
  · exact Operates.ite (fun _ => released.packerToIdle st) (fun _ => released.startCycle st)
  · exact released.packerToIdle st

theorem packerConversion (st : Stream) (ch : Fin 12) : Operates s (packerConversion st ch t) := by
  refine Operates.ite (fun _ => ?_) (fun _ => h)
  split
  · exact Operates.ite (fun _ => (h.judgeExtend st).enterDwellPacker st) (fun _ => h)
  · exact Operates.ite (fun _ => h.endRetract st) (fun _ => h)
  · exact h

theorem packerStale (st : Stream) : Operates s (packerStale st t) := by
  unfold Machine.packerStale
  split
  · exact h.faultPacker st _ _
  · exact h

theorem afterDwell (st : Stream) : Operates s (afterDwell st t) :=
  Operates.ite (fun _ => h.packer st _ (by exact id)) (fun _ => h.enterStroke st _)

/-! ### Lifters' phases -/

theorem setPhase (l : Lifter) (ph : Phase) : Operates s (setPhase l ph t) :=
  (h.withValves l _ _).mapContext l _ (by exact fun _ => rfl) (by exact fun _ => id)

theorem faultLifter (l : Lifter) (x : LiftFaultCause) : Operates s (faultLifter l x t) := by
  unfold Machine.faultLifter
  split
  · exact h
  · next c hc => exact ((h.context hc _ (by exact rfl) (by exact rfl) (by exact id)).giveBackFlow _).latch _

theorem enterMotion (l : Lifter) (ph : Phase) : Operates s (enterMotion l ph t) :=
  Operates.ite (fun _ => (h.setPhase l ph).faultLifter l _) (fun _ => (h.setPhase l ph).placeRequest _ _)

theorem enterWeigh (l : Lifter) (ph : Phase) (afresh : Bool) : Operates s (enterWeigh l ph afresh t) := by
  have entered : Operates s
      ((Machine.setPhase l ph t).mapContext l fun c => if afresh then { c with retry := 0 } else c) := by
    refine (h.setPhase l ph).mapContext l _ (fun c => ?_) (fun c hc => ?_) <;> cases afresh
    · rfl
    · rfl
    · exact hc
    · exact Nat.zero_le _
  exact Operates.ite (fun _ => (entered.mapContext l _ (by exact fun _ => rfl) (by exact fun _ => id)).enterMotion l _)
    (fun _ => entered.mapContext l _ (by exact fun _ => rfl) (by exact fun _ => id))

theorem endWeigh (l : Lifter) : Operates s (endWeigh l t) := by
  unfold Machine.endWeigh
  split
  · exact h
  · exact h.enterMotion l _

theorem enterDumpDwell (l : Lifter) : Operates s (enterDumpDwell l t) :=
  (h.setPhase l _).mapContext l _ (by exact fun _ => rfl) (by exact fun _ => id)

theorem giveLiftCycles (l : Lifter) : Operates s (giveLiftCycles l t) := by
  unfold Machine.giveLiftCycles
  split
  · exact h
  · exact (h.mapContext l _ (by exact fun _ => rfl) (by exact fun _ => id)).liftTriggeredCycles _

theorem enterShake (l : Lifter) : Operates s (enterShake l t) := by
  unfold Machine.enterShake
  split
  · exact h
  · exact Operates.ite (fun _ => h.enterMotion l _) (fun _ => h.enterMotion l _)

theorem holdMoving {l : Lifter} {c : LiftContext} (hc : t.context l = some c) (r : HoldReason) :
    Operates s (holdMoving l r c t) := by
  have held := (h.context hc
    { t.lifter l with
      raiseValve := false
      lowerValve := false
      context :=
        some { stopTimers c with remembered := some c.phase, phase := .held, reasons := HoldReasons.add {} r } }
    rfl rfl id).giveBackFlow (.lifter l)
  exact (Operates.ite (fun _ => held.withdrawWindow l) (fun _ => held)).latch _

theorem holdLifter (l : Lifter) (r : HoldReason) : Operates s (holdLifter l r t) := by
  unfold Machine.holdLifter
  split
  · exact h
  · next c hc =>
    split
    · exact h
    · exact Operates.ite (fun _ => h)
        (fun _ => (h.mapContext l _ (by exact fun _ => rfl) (by exact fun _ => id)).latch _)
    · exact h.holdMoving hc r

theorem holdBoth (r : HoldReason) : Operates s (holdBoth r t) := (h.holdLifter .left r).holdLifter .right r

theorem reenterPhase (l : Lifter) (ph : Phase) : Operates s (reenterPhase l ph t) := by
  cases ph
  case grossWeigh => exact h.enterWeigh l _ _
  case tareWeigh => exact h.enterWeigh l _ _
  case dumpDwell => exact h.enterDumpDwell l
  case held => exact h
  case fault => exact h
  case returning => exact h.enterMotion l .returning
  all_goals exact h.enterMotion l _

theorem resumeLifter {l : Lifter} {u : State} (taken : resumeLifter l t = .taken u) : Operates s u := by
  unfold Machine.resumeLifter at taken
  split at taken
  · cases taken
  · split at taken
    · split at taken
      · cases taken
      · cases taken
        exact (h.mapContext l _ (by exact fun _ => rfl) (by exact fun _ => id)).reenterPhase l _
    · cases taken

theorem takeAbort {l : Lifter} {c : LiftContext} (hc : t.context l = some c) : Operates s (takeAbort l c t) := by
  have off : (t.withValves l false false).context l = some c := by
    rw [context_withValves]; exact hc
  have given := ((h.withValves l false false).context off
    { (t.withValves l false false).lifter l with
      context := some { clearHold (stopTimers c) with abortPhase := some (abortPhaseOf c) } }
    rfl rfl id).giveBackFlow (.lifter l)
  have withdrawn := Operates.ite (p := isWeigh c.phase = true) (fun _ => given.withdrawWindow l) (fun _ => given)
  exact (Operates.ite (p := c.dumped ∧ ¬ c.cyclesGiven) (fun _ => withdrawn.giveLiftCycles l) (fun _ => withdrawn)).enterMotion l .returning

theorem abortLifter {l : Lifter} {u : State} (taken : abortLifter l t = .taken u) : Operates s u := by
  unfold Machine.abortLifter at taken
  split at taken
  · cases taken
  · next c hc =>
    split at taken
    · cases taken
    · cases taken
      exact h.takeAbort hc

theorem takeResult (l : Lifter) (o : WeighOutcome) (m : Option Int) : Operates s (takeResult l o m t) := by
  have failed (x : WeighOutcome) := (h.mapContext l (fun c => { c with outcome := x }) (fun _ => rfl)
    (fun _ hc => hc)).endWeigh l
  unfold Machine.takeResult
  split
  · exact h
  · next c hc =>
    refine Operates.ite (fun _ => ?_) (fun _ => h)
    split
    · refine (h.mapContext l _ (fun c => ?_) (fun c hc => ?_)).endWeigh l <;> unfold writeMass <;> split
      · rfl
      · rfl
      · exact hc
      · exact hc
    · refine Operates.ite (fun below => ?_) (fun _ => ?_)
      · have mapped : t.mapContext l (fun c =>
            { c with retry := c.retry + 1, flags := { c.flags with windowRetried := true } }) =
            t.withContext l (some { c with retry := c.retry + 1, flags := { c.flags with windowRetried := true } }) := by
          simp only [State.mapContext, hc, Option.map_some]
        rw [mapped]
        exact (h.context hc _ (by exact rfl) (by exact rfl)
          (by exact fun _ => Nat.succ_le_of_lt (Nat.lt_succ_of_lt below))).armWindow l
      · exact (h.mapContext l _ (by exact fun _ => rfl) (by exact fun _ _ => Nat.le_refl 3)).endWeigh l
    all_goals exact failed _

theorem lifterStale (l : Lifter) : Operates s (lifterStale l t) := by
  unfold Machine.lifterStale
  split
  · exact h
  · exact Operates.ite (fun _ => h.faultLifter l _) (fun _ => h)

theorem handStale (ch : Fin 12) : Operates s (handStale ch t) := by
  unfold Machine.handStale
  split
  · exact h.lifterStale _
  · exact h.packerStale _
  · exact h

theorem expireChannel (ch : Fin 12) : Operates s (expireChannel ch t) :=
  have stale (slots) := (h.scan { t.scan with slots := slots } id).latch .sensorStale
  Operates.ite (fun _ => (stale _).handStale ch) (fun _ => stale _)

theorem completeInserted (l : Lifter) (r : Option Int) : Operates s (completeInserted l r t) := by
  unfold Machine.completeInserted
  refine Operates.scan ?_ _ (by exact id)
  split
  · exact (h.writeSlot _ _).addSample l _
  · exact h

theorem endComputation : Operates s (endComputation t) := by
  unfold Machine.endComputation
  split
  · exact (((h.withBuffer _ _).weigh _ (by exact id)).takeResult _ _ _).startComputation
  · exact h

/-! ### Shakes -/

theorem nextShake (l : Lifter) (n : Nat) : Operates s (nextShake l n t) :=
  (h.withValves l _ _).mapContext l _ (by exact fun _ => rfl) (by exact fun _ => id)

theorem endShake (l : Lifter) (n : Nat) : Operates s (endShake l n t) := by
  have released := ((h.withValves l false false).mapContext l
    (fun c => { stopTimers c with shakesDone := n }) (fun _ => rfl) fun _ => id).releaseGrant (.lifter l)
  dsimp only [Machine.endShake]
  split
  · exact released.enterMotion l _
  · exact released

theorem pulseExpiry (l : Lifter) (c : LiftContext) : Operates s (pulseExpiry l c t) := by
  unfold Machine.pulseExpiry
  split
  · refine Operates.ite (fun _ => ?_) (fun _ => h)
    unfold endPulse
    split
    · exact (h.withValves l _ _).mapContext l _ (by exact fun _ => rfl) (by exact fun _ => id)
    · exact Operates.ite (fun _ => h.endShake l _) (fun _ => h.nextShake l _)
  · exact h

/-! ### The supply and the emergency stop -/

theorem holdConsumer (c : Consumer) : Operates s (holdConsumer c t) := by
  cases c with
  | lifter l => exact h.holdLifter l _
  | packer st => exact h.holdPacker st _

theorem handRevocation (was : PerConsumer FlowRecord) (c : Consumer) : Operates s (handRevocation was t c) :=
  Operates.ite (fun _ => h.holdConsumer c) (fun _ => h)

theorem revokeAll : Operates s (revokeAll t) :=
  ((((h.flow _).testLine.handRevocation _ _).handRevocation _ _).handRevocation _ _).handRevocation _ _

theorem handEngine (e : EngineState) : Operates s (handEngine e t) :=
  Operates.ite (fun _ => h.flow _)
    (fun _ => Operates.ite (fun _ => (h.flow _).revokeAll.evaluateGrants) (fun _ => (h.flow _).evaluateGrants))

theorem handEngineChange (b : EngineState) : Operates s (handEngineChange b t) :=
  Operates.ite (fun _ => h) (fun _ => h.handEngine _)

theorem allValvesOff : Operates s (allValvesOff t) :=
  (((h.withValves .left _ _).withValves .right _ _).packer .residual _ (by exact id)).packer .recycle _ (by exact id)

end Operates

end Sys2Proof.Safety
end

section
/-! SUPPORT. What every command is made of, for the laws about lines, latches and counters: `Serves s t` says that t is
reached from s by updates that keep each port's attention line and each counter's range. Every command but the resets is
of this kind (`exec_serves`). -/

namespace Sys2Proof.Safety

open Sys2Proof.Machine

variable {s t : State}

/-- A port's attention line stands as its latches and its mask give it. -/
def Lined (x : PortState) : Prop := x.attention = attentionOf x.latched x.mask

/-- The ranges of a port's counters, of the load numbers, the route clock and the correction counters. -/
def PortCountsFit (x : PortState) : Prop := x.errors ≤ 65535 ∧ x.overruns ≤ 65535
def LoadsFit (x : PerStream Compartment) : Prop :=
  ∀ st, 1 ≤ (x.get st).loadNumber ∧ (x.get st).loadNumber ≤ 4294967295
def ClockFits (x : Body) : Prop := x.clockSeconds < 2 ^ 32 ∧ x.clockMillis ≤ 1000
def CorrectionsFit (x : Integrity) : Prop := x.accountCorrections ≤ 255 ∧ x.journalCorrections ≤ 255

/-- The fields that hold no counter with a range and no line. -/
abbrev uncounted : List Field := [.freeIndex, .banks, .bodyLimit, .calib, .journal, .access, .loader]

/-- t is reached from s by updates that keep the attention lines and the ranges. -/
inductive Serves (s : State) : State → Prop
  | refl : Serves s s
  | operates {t u : State} (h : Serves s t) (k : Operates t u) : Serves s u
  | other {t u : State} (h : Serves s t) (k : Only uncounted t u) : Serves s u
  | port {t : State} (h : Serves s t) (p : Port) (x : PortState) (line : Lined (t.port p) → Lined x)
      (fits : PortCountsFit (t.port p) → PortCountsFit x) : Serves s (t.withPort p x)
  | body {t : State} (h : Serves s t) (v : Body) (fits : ClockFits t.body → ClockFits v) :
      Serves s (t.withBody v)
  | lifter {t : State} (h : Serves s t) (l : Lifter) (u : LifterUnit)
      (fits : RetryFits (t.lifter l) → RetryFits u) : Serves s (t.withLifter l u)
  | compartments {t : State} (h : Serves s t) (v : PerStream Compartment) (fits : LoadsFit t.compartments → LoadsFit v) :
      Serves s (t.withCompartments v)
  | tags {t : State} (h : Serves s t) (v : TagUnit)
      (fits : t.tags.crossReads ≤ 65535 → v.crossReads ≤ 65535) : Serves s (t.withTags v)
  | integrity {t : State} (h : Serves s t) (v : Integrity) (fits : CorrectionsFit t.integrity → CorrectionsFit v) :
      Serves s (t.withIntegrity v)

namespace Serves

theorem ite {p : Prop} [Decidable p] {u v : State} (yes : p → Serves s u) (no : ¬ p → Serves s v) :
    Serves s (if p then u else v) := by
  split
  · next hp => exact yes hp
  · next hp => exact no hp

variable (h : Serves s t)
include h

/-! ### Events -/

theorem latch (e : Event) : Serves s (latchAll e t) := h.operates (.latch .refl e)
theorem latchWhen (b : Bool) (e : Event) : Serves s (latchWhen b e t) := Serves.ite (fun _ => h.latch e) (fun _ => h)
theorem latchPort (p : Port) (e : Event) : Serves s (latchPort p e t) := h.port p _ (fun _ => rfl) (by exact id)
theorem evaluateInhibit : Serves s (evaluateInhibit t) := h.body _ (by exact id)
theorem evaluateLimits : Serves s (evaluateLimits t) :=
  (h.compartments _ fun old st => by cases st; exacts [old .residual, old .recycle]).latchWhen _ _

theorem compartment (st : Stream) (v : Compartment)
    (fits : 1 ≤ (t.compartment st).loadNumber ∧ (t.compartment st).loadNumber ≤ 4294967295 →
      1 ≤ v.loadNumber ∧ v.loadNumber ≤ 4294967295) : Serves s (t.withCompartment st v) :=
  h.compartments _ fun old su => by
    by_cases same : su = st
    · subst same; rw [PerStream.get_set_self]; exact fits (old su)
    · rw [PerStream.get_set_of_ne _ _ _ _ same]; exact old su

/-! ### Ports -/

theorem ports (v : PerPort PortState) (line : ∀ q, Lined (t.port q) → Lined (v.get q))
    (fits : ∀ q, PortCountsFit (t.port q) → PortCountsFit (v.get q)) : Serves s (t.withPorts v) :=
  ((h.port .cab v.cab (line .cab) (fits .cab)).port .route v.route (line .route) (fits .route)).port .chassis v.chassis
    (line .chassis) (fits .chassis)

theorem takeRequest (p : Port) (n kb : Byte) : Serves s (takeRequest p n kb t) := h.port p _ (by exact id) (by exact id)

theorem answerPort (p : Port) (r : Reply) : Serves s (answerPort p r t) := by
  unfold Machine.answerPort
  split
  · exact h.port p _ (by exact id) (by exact id)
  · exact h

theorem refuseAtPort (p : Port) (r : Reply) : Serves s (refuseAtPort p r t) :=
  (Serves.ite (p := r = .accessDenied) (fun _ => h.latchPort p _) (fun _ => h)).answerPort p r

theorem overrunPort (p : Port) : Serves s (overrunPort p t) :=
  (h.port p _ (by exact id) (by exact fun ⟨a, b⟩ => ⟨a, saturatingSucc_le b⟩)).latchPort p _

theorem badFramePort (p : Port) : Serves s (badFramePort p t) :=
  (h.port p _ (by exact id) (by exact fun ⟨a, b⟩ => ⟨saturatingSucc_le a, b⟩)).latchPort p _

theorem finishRequest (p : Port) (r : Option Reply) : Serves s (finishRequest p (t, r)) := by
  cases r with
  | none => exact h
  | some r => exact h.answerPort p r

/-! ### The two protected memories -/

theorem withTable (x : List (Stored AccountEntry)) : Serves s (t.withTable x) := h.tags _ (by exact id)

theorem countAccountCorrection : Serves s (countAccountCorrection t) :=
  (h.integrity _ (by exact fun ⟨a, b⟩ => ⟨saturatingSucc_le a, b⟩)).latchWhen _ _
theorem countJournalCorrection : Serves s (countJournalCorrection t) :=
  (h.integrity _ (by exact fun ⟨a, b⟩ => ⟨a, saturatingSucc_le b⟩)).latchWhen _ _

theorem readEntry (i : Nat) : Serves s (readEntry i t).2 := by
  unfold Machine.readEntry
  split
  · exact h
  · split
    · exact h
    · exact (h.withTable _).countAccountCorrection
    · exact h

theorem removeDamaged (i : Nat) : Serves s (removeDamaged i t) := (h.withTable _).latch _

theorem searchFrom (n low high tag : Nat) : Serves s (searchFrom n low high tag t).2 := by
  induction n generalizing low high t with
  | zero => exact h
  | succ n ih =>
    have read := h.readEntry ((low + (high - 1)) / 2)
    simp only [Machine.searchFrom]
    split
    · generalize Machine.readEntry ((low + (high - 1)) / 2) t = x at read ⊢
      obtain ⟨r, u⟩ := x
      cases r with
      | missing => exact read
      | uncorrectable => exact read
      | good e =>
        dsimp only
        split
        · exact read
        · split
          · exact ih read _ _
          · exact ih read _ _
    · exact h

theorem lookupFrom (n tag : Nat) : Serves s (lookupFrom n tag t).2 := by
  induction n generalizing t with
  | zero => exact h
  | succ n ih =>
    have searched := h.searchFrom (t.tags.table.length + 1) 0 t.tags.table.length tag
    simp only [Machine.lookupFrom]
    generalize Machine.searchFrom (t.tags.table.length + 1) 0 t.tags.table.length tag t = x at searched ⊢
    obtain ⟨r, u⟩ := x
    cases r with
    | found i e => exact searched
    | absent i => exact searched
    | damaged i => exact ih (searched.removeDamaged i)

theorem lookupTag (tag : Nat) : Serves s (lookupTag tag t).2 := h.lookupFrom _ tag

theorem readIndexFrom (n i : Nat) : Serves s (readIndexFrom n i t).2 := by
  induction n generalizing t with
  | zero => exact h
  | succ n ih =>
    have read := h.readEntry i
    simp only [Machine.readIndexFrom]
    generalize Machine.readEntry i t = x at read ⊢
    obtain ⟨r, u⟩ := x
    cases r with
    | missing => exact read
    | good e => exact read
    | uncorrectable => exact ih (read.removeDamaged i)

theorem withJournal (v : Journal) : Serves s (t.withJournal v) := h.other ((withJournal_only t v).mono (by decide))

theorem deliver (i : Nat) : Serves s (deliver i t).2 := by
  unfold Machine.deliver
  split
  · exact h
  · split
    · exact h
    · split
      · exact h
      · exact (h.withJournal _).countJournalCorrection
      · exact (h.withJournal _).latch _

theorem deliverFrom (n i : Nat) : Serves s (deliverFrom n i t).2 := by
  induction n generalizing i t with
  | zero => exact h
  | succ n ih =>
    have first := h.deliver i
    simp only [Machine.deliverFrom]
    generalize Machine.deliver i t = x at first ⊢
    obtain ⟨r, u⟩ := x
    cases r with
    | none => exact first
    | some d => exact ih first _

theorem makeReservation (l : Lifter) : Serves s (makeReservation l t) :=
  ((h.withJournal _).latchWhen _ _).latchWhen _ _

theorem writeRecord (r : Record) : Serves s (writeRecord r t) := (h.withJournal _).latch _

/-! ### Starts and ends of lifts -/

theorem completionLookup (c : LiftContext) : Serves s (completionLookup c t).2 := by
  unfold Machine.completionLookup
  split
  · next tag _ _ =>
    have found := h.lookupTag tag
    split <;> (next hx => rw [hx] at found; exact found)
  · exact h

theorem writeBack (b : Bool) (n : Nat) (found : Option (Nat × AccountEntry)) : Serves s (writeBack b n found t) := by
  cases found
  · exact h
  · exact h.withTable _

theorem endLift (how : Ending) (l : Lifter) : Serves s (endLift how l t) := by
  unfold Machine.endLift
  split
  · exact h
  · next c _ =>
    have written (r : Record) := ((h.completionLookup c).writeRecord r).writeBack c.dumped (usedOf r)
      (Machine.completionLookup c t).1
    exact (((written _).compartment c.stream _ (by exact id)).evaluateLimits.lifter l _ (fun _ _ none => by cases none)).evaluateInhibit

theorem resetLift (l : Lifter) : Serves s (resetLift l t) := by
  unfold Machine.resetLift
  split
  · exact h
  · exact (h.operates ((Operates.refl.withValves l _ _).withdrawWindow l)).endLift _ l

theorem tagPermission (l : Lifter) : Serves s (tagPermission l t).2 := by
  unfold Machine.tagPermission
  split
  · exact h
  · next x _ =>
    have found := h.lookupTag x.tag
    split <;> (next hx => rw [hx] at found; exact found)

theorem refuseStart (l : Lifter) (x : StartSource) (r : Reason) : Serves s (refuseStart l x r t) :=
  (h.lifter l _ (by exact id)).latch _

theorem acceptStart (l : Lifter) (arg : Option Stream) (tag : Option Nat) (entry : Option AccountEntry) :
    Serves s (acceptStart l arg tag entry t) := by
  have started := ((h.lifter l { t.lifter l with context := some (newContext l arg tag entry t) }
    (fun _ c new => by cases new; exact Nat.zero_le _)).evaluateInhibit).makeReservation l
  exact (Serves.ite (fun _ => started.tags _ (by exact id)) (fun _ => started)).operates
    (Operates.refl.enterMotion l .raiseWeigh)

theorem startLifter (l : Lifter) (arg : Option Stream) (x : StartSource) : Serves s (startLifter l arg x t).2 := by
  have asked := h.tagPermission l
  unfold Machine.startLifter
  split
  · exact h.refuseStart l x _
  · generalize Machine.tagPermission l t = y at asked ⊢
    obtain ⟨r, u⟩ := y
    cases r with
    | refused r => exact asked.refuseStart l x _
    | granted tag entry =>
      dsimp only
      split
      · exact asked.refuseStart l x _
      · exact asked.acceptStart l arg _ _

theorem startPress (l : Lifter) : Serves s (startPress l t) := by
  unfold Machine.startPress
  split
  · exact h.startLifter l none .rear
  · unfold resumeFromRear
    split
    · next taken => exact h.operates (Operates.refl.resumeLifter taken)
    · exact h
  · exact h

/-! ### Ends of motion phases and ring conversions -/

theorem endMotion (l : Lifter) : Serves s (endMotion l t) := by
  unfold Machine.endMotion
  split
  · exact h
  · have released := (((Operates.refl (s := t)).withValves l false false).mapContext l stopTimers
      (fun _ => rfl) fun _ => id).releaseGrant (.lifter l)
    unfold enterNext
    split
    · exact h.operates (released.enterWeigh l _ _)
    · exact h.operates (released.enterDumpDwell l)
    · exact h.operates (released.enterWeigh l _ _)
    · exact (h.operates released).endLift _ l
    · exact (h.operates released).endLift _ l
    · exact h.operates released

theorem angleReading (l : Lifter) (n : Nat) : Serves s (angleReading l n t) := by
  unfold Machine.angleReading
  split
  · exact h
  · split
    · exact h
    · exact Serves.ite (fun _ => h.endMotion l) (fun _ => h)

theorem handReading (ch : Fin 12) (v : Int) : Serves s (handReading ch v t) := by
  unfold Machine.handReading
  split
  · exact h.angleReading _ _
  · exact h.operates (Operates.refl.packerConversion _ ch)
  · exact h

theorem completeRing (r : Option Int) : Serves s (completeRing r t) := by
  have read : Serves s (takeRingResult t.scan.ringPos r t) := by
    unfold takeRingResult
    split
    · exact (h.operates (Operates.refl.writeSlot _ _)).handReading _ _
    · exact h
  have passed := Serves.ite (p := t.scan.ringPos = t.scan.ringEnd) (fun _ => read.operates Operates.refl.endPass)
    (fun _ => read)
  exact passed.operates (Operates.refl.scan _ (by exact id)).afterRing

/-! ### The body -/

theorem acceptVehicle {v : VehicleData} (clock : v.clock < 2 ^ 32) : Serves s (acceptVehicle v t) := by
  have handed : Serves s (handEngineChange (effectiveEngine t.body) (t.withBody
      { t.body with
        vehicle := some v, lastAccepted := some t.bodyTimer, fresh := true, clockSeconds := v.clock, clockMillis := 0 })) :=
    (h.body _ fun _ => ⟨clock, Nat.zero_le _⟩).operates (Operates.refl.handEngineChange _)
  exact Serves.ite (fun _ => handed.operates (Operates.refl.holdBoth _)) (fun _ => handed)

theorem expireVehicle : Serves s (expireVehicle t) :=
  (h.body { t.body with fresh := false } id).operates (((Operates.refl.latch _).holdBoth _).handEngineChange _)

theorem enterHalted : Serves s (enterHalted t) :=
  (h.body { t.body with state := .halted } id).operates
    ((((Operates.refl.allValvesOff.clearFlow).holdBoth _).haltPacker _).haltPacker _ |>.latch _)

theorem withLoader (v : Loader) : Serves s (t.withLoader v) := h.other ((withLoader_only t v).mono (by decide))
theorem withCalib (v : CalStore) : Serves s (t.withCalib v) := h.other ((withCalib_only t v).mono (by decide))

theorem leaveStarting : Serves s (leaveStarting t) :=
  Serves.ite (fun _ => (h.withLoader _).enterHalted) (fun _ => (h.withLoader _).body _ (by exact id))

/-- Both packers in turn, whichever is first. -/
theorem packersInTurn (b : Bool) {f : Stream → State → State} (step : ∀ st x, Operates x (f st x)) :
    Serves s (packersInTurn b f t) := by
  have counted : Serves s (t.withFreeIndex (t.freeIndex + 1)) :=
    h.other ((withFreeIndex_only t _).mono (by decide))
  exact Serves.ite
    (fun _ => Serves.ite (fun _ => (counted.operates (step _ _)).operates (step _ _))
      (fun _ => (counted.operates (step _ _)).operates (step _ _)))
    (fun _ => (h.operates (step _ _)).operates (step _ _))

theorem startPackers : Serves s (startPackers t) := h.packersInTurn _ fun st _ => Operates.refl.tryStart st

theorem resumeBodyTaken : Serves s (resumeBodyTaken t) :=
  ((h.body { t.body with state := .running } id).operates Operates.refl.evaluateGrants).packersInTurn _
    fun st _ => Operates.refl.unhaltPacker st

theorem resetBlocks : Serves s (resetBlocks t) := by
  have lifters : Serves s (resetLifters t) :=
    (h.operates ((Operates.refl.withValves .left _ _).withValves .right _ _)).tags _ (by exact id)
  have flow : Serves s (((resetLifters t).withBody (resetBody (resetLifters t).body)).withFlow resetFlow) :=
    (lifters.body _ fun _ => ⟨Nat.two_pow_pos 32, Nat.zero_le _⟩).operates (Operates.refl.flow _)
  have idle (k : Packer) : CountsFit k → CountsFit (resetPacker k) := fun ⟨_, b, c⟩ => ⟨Nat.zero_le _, b, c⟩
  exact Serves.evaluateInhibit (flow.operates ((((Operates.refl.packer .residual _ (idle _)).packer .recycle _
    (idle _)).scan _ fun _ => Nat.zero_le _).weigh _ fun _ l => by cases l <;> exact Nat.zero_le _))

theorem bodyResetState : Serves s (bodyResetState t) := by
  have blocks := ((h.resetLift .left).resetLift .right).resetBlocks
  exact (blocks.ports _ (fun q _ => by cases q <;> rfl) (fun q fits => by cases q <;> exact fits)).withLoader _

/-! ### Writes and the load -/

theorem handWrite (j : WriteJob) : Serves s (handWrite j t) := h.other ((handWrite_only j t).mono (by decide))
theorem nextWrite : Serves s (nextWrite t) := h.other ((nextWrite_only t).mono (by decide))
theorem breakWrite (j : WriteJob) : Serves s (breakWrite j t) :=
  h.other ((withLoader_only t _).both (withFreeIndex_only _ _) (by decide) (by decide))

theorem endCounterWrite (ok : Bool) (p : Port) (l : Lifter) (item : CalItem) (v : Int) (n : Nat) :
    Serves s (endCounterWrite ok p l item v n t) := by
  have stored : Serves s (storeCounter n t) := (h.withCalib _).withLoader _
  exact Serves.ite
    (fun _ => Serves.ite
      (fun _ => ((stored.withCalib _).operates (Operates.refl.withDrift l _ fun _ => Nat.zero_le _)).answerPort p _)
      (fun _ => stored.answerPort p _))
    (fun _ => h.answerPort p _)

theorem settleOwed : Serves s (settleOwed t) :=
  Serves.ite (fun _ => Serves.ite (fun _ => (h.withCalib _).handWrite _) (fun _ => h.withCalib _)) (fun _ => h)

theorem endCommit (ok : Bool) (copies : PerLifter (Option CalItems)) : Serves s (endCommit ok copies t) :=
  (Serves.ite (p := ok = true) (fun _ => (h.withCalib _).withLoader _) (fun _ => (h.withCalib _).latch _)).settleOwed

theorem endIdentityWrite (ok : Bool) (p : Port) (x : Vector (Option Byte) 16) :
    Serves s (endIdentityWrite ok p x t) :=
  Serves.ite (fun _ => ((h.withCalib _).withLoader _).answerPort p _) (fun _ => h.answerPort p _)

theorem endSettingsWrite (ok : Bool) (p : Port) (x : Settings) : Serves s (endSettingsWrite ok p x t) :=
  Serves.ite (fun _ => (h.withLoader _).answerPort p _) (fun _ => h.answerPort p _)

theorem sealCloses : Serves s (sealCloses t) :=
  Serves.ite (fun _ => Serves.ite (fun _ => h.withCalib _) (fun _ => h.handWrite _)) (fun _ => h)

theorem applySettings (x : Settings) : Serves s (applySettings x t) := by
  have lifters := (h.lifter .left
    { t.lifters.left with settings := x.lifters.left, selection := x.lifters.left.initialSelection } id).lifter .right
    { t.lifters.right with settings := x.lifters.right, selection := x.lifters.right.initialSelection } id
  have packers := (lifters.other ((withBanks_only _ x.banks).mono (by decide))).operates
    ((Operates.refl.packer .residual
      { t.packers.residual with mode := x.packModes.residual, settings := x.packers.residual } (by exact id)).packer .recycle
      { t.packers.recycle with mode := x.packModes.recycle, settings := x.packers.recycle } (by exact id))
  have limits := ((packers.compartment .residual { t.compartments.residual with limit := x.limits.residual } id).compartment
    .recycle { t.compartments.recycle with limit := x.limits.recycle } id).other
    ((withBodyLimit_only _ x.bodyLimit).mono (by decide))
  have tags := limits.tags { t.tags with
    threshold := x.threshold, untaggedAllow := x.untaggedAllow, unknownAllow := x.unknownAllow } id
  have scan := tags.operates (Operates.refl.scan
    (beginScanning { t.scan with ringStart := x.ringStart, ringEnd := x.ringEnd } t.bodyTimer) (by exact id))
  have ports := scan.ports
    ⟨t.ports.cab.setMask x.masks.cab, t.ports.route.setMask x.masks.route, t.ports.chassis.setMask x.masks.chassis⟩
    (fun q _ => by cases q <;> rfl) (fun q fits => by cases q <;> exact fits)
  exact (ports.other ((withAccess_only _ { t.access with map := x.map }).mono (by decide))).evaluateLimits

theorem readPart (ok : Bool) : Serves s (readPart ok t) := by
  have settings (good : Bool) : Serves s (loadSettings good t) :=
    Serves.ite (fun _ => h.applySettings _) (fun _ => (h.applySettings _).latch _)
  have calibration (l : Lifter) (good : Bool) : Serves s (loadCalibration l good t) :=
    Serves.ite (fun _ => h.withCalib _) (fun _ => (h.withCalib _).latch _)
  unfold Machine.readPart
  split
  · exact (settings _).withLoader _
  · exact (calibration _ _).withLoader _
  · exact (calibration _ _).withLoader _
  · exact (h.withCalib _).withLoader _
  · exact (h.withCalib _).leaveStarting
  · exact h

end Serves

end Sys2Proof.Safety
end

section
/-! SUPPORT. Every command but the resets serves (`exec_serves`), and every command but the starts and ends of lifts keeps
the lifters' contexts and their tags (`exec_sameTags`). -/

namespace Sys2Proof.Safety

open Sys2Proof.Machine

variable {s t : State} {p : Port} {d : List Byte}

/-! ### Requests decided by operations of lifters and packers -/

theorem decideStopLift_operates (d : List Byte) (s : State) : Operates s (decideStopLift d s).1 := by
  unfold decideStopLift
  split
  · exact Operates.refl.holdLifter _ _
  · exact .refl

theorem decideResumeLift_operates (d : List Byte) (s : State) : Operates s (decideResumeLift d s).1 := by
  unfold decideResumeLift
  split
  · split
    · exact .refl
    · exact .refl
    · next taken => exact Operates.refl.resumeLifter taken
  · exact .refl

theorem decideAbortLift_operates (d : List Byte) (s : State) : Operates s (decideAbortLift d s).1 := by
  unfold decideAbortLift
  split
  · split
    · exact .refl
    · exact .refl
    · next taken => exact Operates.refl.abortLifter taken
  · exact .refl

theorem decideSelectProfile_operates (d : List Byte) (s : State) : Operates s (decideSelectProfile d s).1 := by
  unfold decideSelectProfile
  split
  · exact Operates.refl.unit _ rfl
  · exact .refl

theorem decideSetLifterDefaults_operates (d : List Byte) (s : State) :
    Operates s (decideSetLifterDefaults d s).1 := by
  unfold decideSetLifterDefaults
  split
  · split
    · exact .refl
    · exact Operates.refl.unit _ rfl
  · exact .refl

theorem decidePackCycle_operates (d : List Byte) (s : State) : Operates s (decidePackCycle d s).1 := by
  unfold decidePackCycle
  split
  · split <;> exact Operates.refl.addCycle _
  · exact .refl

theorem retractForStop_operates (st : Stream) (h : Operates s t) : Operates s (retractForStop st t) :=
  (h.packer st _ (by exact id)).enterStroke st _

theorem stopByState_operates (st : Stream) (h : Operates s t) : Operates s (stopByState st t) := by
  unfold stopByState
  split
  · exact h
  · exact retractForStop_operates st ((h.packer st _ (by exact id)).giveBackFlow _)
  · exact h.packer st _ (by exact id)
  · exact h.packer st _ (by exact id)
  · exact retractForStop_operates st h
  · exact h.packerToIdle st
  · exact Operates.ite (fun _ => retractForStop_operates st h) (fun _ => h.packer st _ (by exact id))
  · exact h
  · exact Operates.ite (fun _ => h.packer st _ (by exact id)) (fun _ => h.packerToIdle st)

theorem decidePackStop_operates (d : List Byte) (s : State) : Operates s (decidePackStop d s).1 := by
  unfold decidePackStop
  split
  · exact stopByState_operates _ (Operates.refl.packer _ _ (by exact fun ⟨_, b, c⟩ => ⟨Nat.zero_le _, b, c⟩))
  · exact .refl

theorem stepWithTailgate_operates (h : Operates s t) : Operates s (stepWithTailgate s t).1 := by
  unfold stepWithTailgate
  split
  · exact h
  · exact .refl

theorem decidePackStep_operates (d : List Byte) (s : State) : Operates s (decidePackStep d s).1 := by
  unfold decidePackStep
  split
  · split
    · exact .refl
    · unfold stepByState
      split
      · exact stepWithTailgate_operates (Operates.refl.startCycle _)
      · exact stepWithTailgate_operates (Operates.refl.enterStroke _ _)
      · exact stepWithTailgate_operates (Operates.refl.startCycle _)
      all_goals exact .refl
  · exact .refl

theorem decidePackResume_operates (d : List Byte) (s : State) : Operates s (decidePackResume d s).1 := by
  unfold decidePackResume
  split
  · split
    · split
      · exact Operates.refl.enterStroke _ _
      · exact .refl
    · exact .refl
  · exact .refl

theorem decideSetPackMode_operates (d : List Byte) (s : State) : Operates s (decideSetPackMode d s).1 := by
  unfold decideSetPackMode
  split
  · split
    · exact .refl
    · exact Operates.ite (fun _ => (Operates.refl.packer _ _ (by exact id)).tryStart _)
        (fun _ => Operates.refl.packer _ _ (by exact id))
  · exact .refl

theorem decideSetPackerSettings_operates (d : List Byte) (s : State) :
    Operates s (decideSetPackerSettings d s).1 := by
  unfold decideSetPackerSettings
  split
  · split
    · exact .refl
    · exact Operates.refl.packer _ _ (by exact id)
  · exact .refl

theorem decideSetScanRing_operates (d : List Byte) (s : State) : Operates s (decideSetScanRing d s).1 := by
  unfold decideSetScanRing
  split
  · split
    · exact .refl
    · exact Operates.refl.scan _ (by exact id)
  · exact .refl

/-! ### Events of lifters, packers and the converter -/

theorem onContext_operates {l : Lifter} {f : LiftContext → State → State}
    (step : ∀ c, s.context l = some c → Operates s (f c s)) : Operates s (onContext l f s) := by
  unfold onContext
  split
  · next c hc => exact step c hc
  · exact .refl

/-- The events that are operations of lifters, packers, the arbiter and the weigh engine alone. -/
def isOperation : Instr → Bool
  | .liftPhaseTimeout _ | .settleExpiry _ | .weighPhaseLimitExpiry _ | .dumpDwellExpiry _ | .shakePulseEnd _
  | .flowWaitTimeout _ | .extendTimerExpiry _ | .packDwellExpiry _ | .retractTimerExpiry _
  | .insertedConversionComplete _ | .channelFreshnessExpiry _ | .weighComputationEnd | .rearStopPress _
  | .rearButtonRelease _ _ => true
  | _ => false

theorem exec_operates {i : Instr} (operation : isOperation i = true) (h : exec i s = .next t) : Operates s t := by
  cases i
  case liftPhaseTimeout l =>
    cases h
    exact onContext_operates fun _ _ => Operates.ite (fun _ => Operates.refl.faultLifter l _) (fun _ => .refl)
  case settleExpiry l =>
    cases h
    exact onContext_operates fun _ _ =>
      Operates.ite
        (fun _ => (Operates.refl.mapContext l _ (by exact fun _ => rfl) (by exact fun _ => id)).armWindow l) (fun _ => .refl)
  case weighPhaseLimitExpiry l =>
    cases h
    exact onContext_operates fun _ _ =>
      Operates.ite (fun _ => ((Operates.refl.withdrawWindow l).mapContext l _ (by exact fun _ => rfl)
        (by exact fun _ => id)).endWeigh l) (fun _ => .refl)
  case dumpDwellExpiry l =>
    cases h
    exact onContext_operates fun _ _ =>
      Operates.ite (fun _ => ((Operates.refl.mapContext l _ (by exact fun _ => rfl)
        (by exact fun _ => id)).giveLiftCycles l).enterShake l) (fun _ => .refl)
  case shakePulseEnd l => cases h; exact onContext_operates fun c _ => Operates.refl.pulseExpiry l c
  case flowWaitTimeout x =>
    cases h
    exact Operates.ite (fun _ => (((Operates.refl.dropRecord x).latch _).holdConsumer x).evaluateGrants) (fun _ => .refl)
  case extendTimerExpiry st => cases h; exact Operates.ite (fun _ => Operates.refl.faultPacker st _ _) (fun _ => .refl)
  case packDwellExpiry st =>
    cases h
    exact Operates.ite (fun _ => ((Operates.refl.packer st _ (by exact id)).releaseGrant _).afterDwell st) (fun _ => .refl)
  case retractTimerExpiry st => cases h; exact Operates.ite (fun _ => Operates.refl.faultPacker st _ _) (fun _ => .refl)
  case insertedConversionComplete r =>
    cases h
    split
    · exact Operates.refl.completeInserted _ r
    · exact .refl
  case channelFreshnessExpiry ch => cases h; exact Operates.ite (fun _ => Operates.refl.expireChannel ch) (fun _ => .refl)
  case weighComputationEnd => cases h; exact Operates.ite (fun _ => Operates.refl.endComputation) (fun _ => .refl)
  case rearStopPress l =>
    cases h
    exact Operates.ite (fun _ => .refl) (fun _ => Operates.ite (fun _ => Operates.refl.unit _ rfl)
      (fun _ => (Operates.refl.unit _ (by exact rfl)).holdLifter l _))
  case rearButtonRelease l b => cases h; cases b <;> exact Operates.refl.unit _ rfl
  all_goals nomatch operation

/-! ### Every command but the resets serves -/

theorem Serves.trans {u : State} (h : Serves s t) (k : Serves t u) : Serves s u := by
  induction k with
  | refl => exact h
  | operates _ k ih => exact ih.operates k
  | other _ k ih => exact ih.other k
  | port _ p x line fits ih => exact ih.port p x line fits
  | body _ v fits ih => exact ih.body v fits
  | lifter _ l u fits ih => exact ih.lifter l u fits
  | compartments _ v fits ih => exact ih.compartments v fits
  | tags _ v fits ih => exact ih.tags v fits
  | integrity _ v fits ih => exact ih.integrity v fits

theorem serve_serves_of {k : Kind} {n : Byte} {owner : State → Decision}
    (decides : ∀ x y, owner x = y → Serves x y.1) : Serves s (serve k p n d owner s) := by
  refine Serves.ite (fun _ => .refl) (fun _ => Serves.ite (fun _ => Serves.refl.overrunPort p) (fun _ => ?_))
  have taken := (Serves.refl (s := s)).takeRequest p n k.code
  split
  · exact taken.refuseAtPort p _
  · exact (taken.trans (decides _ _ rfl)).finishRequest p _

theorem serve_serves {k : Kind} {n : Byte} {owner : State → Decision} (decides : ∀ x, Serves x (owner x).1) :
    Serves s (serve k p n d owner s) := serve_serves_of fun x _ same => same ▸ decides x

theorem serve_operates {k : Kind} {n : Byte} {owner : State → Decision} (decides : ∀ x, Operates x (owner x).1) :
    Serves s (serve k p n d owner s) := serve_serves fun x => Serves.refl.operates (decides x)

/-- A request that changes none of the counted fields. -/
theorem serve_uncounted {k : Kind} {n : Byte} {owner : State → Decision}
    (decides : ∀ x, Only uncounted x (owner x).1) : Serves s (serve k p n d owner s) :=
  serve_serves fun x => Serves.refl.other (decides x)

/-! ### Requests that are decided by other blocks -/

theorem decideStartLift_serves (p : Port) (d : List Byte) (s : State) : Serves s (decideStartLift p d s).1 := by
  unfold decideStartLift
  split
  · next l arg _ _ =>
    have started := (Serves.refl (s := s)).startLifter l arg (.port p)
    split
    · generalize startLifter l arg (.port p) s = x at started ⊢
      obtain ⟨r, u⟩ := x
      cases r <;> exact started
    · exact .refl
  · exact .refl

theorem decideSetTagThreshold_serves (d : List Byte) (s : State) : Serves s (decideSetTagThreshold d s).1 := by
  unfold decideSetTagThreshold
  split
  · split
    · exact .refl
    · exact Serves.refl.tags _ (by exact id)
  · exact .refl

theorem decideSetPayloadLimits_serves (d : List Byte) (s : State) : Serves s (decideSetPayloadLimits d s).1 := by
  unfold decideSetPayloadLimits
  split
  · split
    · exact .refl
    · exact (((Serves.refl.compartment .residual _ (by exact id)).compartment .recycle _ (by exact id)).other
        ((withBodyLimit_only _ _).mono (by decide))).evaluateLimits
  · exact .refl

theorem nextLoad_range {n : Nat} (h : 1 ≤ n ∧ n ≤ 4294967295) : 1 ≤ nextLoad n ∧ nextLoad n ≤ 4294967295 := by
  unfold nextLoad sequenceCount
  split <;> omega

theorem decideUnloadComplete_serves (d : List Byte) (s : State) : Serves s (decideUnloadComplete d s).1 := by
  unfold decideUnloadComplete
  split
  · split
    · exact .refl
    · next st _ _ _ =>
      have emptied := (Serves.refl (s := s)).compartment st
        { s.compartment st with payload := 0, fill := .opened, loadNumber := nextLoad (s.compartment st).loadNumber }
        nextLoad_range
      exact ((emptied.operates (Operates.refl.packer st _ (by exact fun ⟨a, b, _⟩ => ⟨a, b, Nat.zero_le _⟩))).body
        _ (by exact id)).evaluateLimits
  · exact .refl

theorem decideResumeBody_serves (s : State) : Serves s (decideResumeBody s).1 := by
  unfold decideResumeBody
  split
  · split
    · exact .refl
    · exact Serves.refl.resumeBodyTaken
  · exact .refl

theorem vehicleArg_clock {v : VehicleData} (h : vehicleArg d = some v) : v.clock < 2 ^ 32 := by
  have small : beAt d 5 4 < 2 ^ 32 := Nat.lt_succ_of_le (beAt_four_le d 5)
  unfold vehicleArg at h
  split at h
  · cases h
    exact small
  · cases h

theorem decideVehicleData_serves (d : List Byte) (s : State) : Serves s (decideVehicleData d s).1 := by
  unfold decideVehicleData
  split
  · next v found => exact Serves.refl.acceptVehicle (vehicleArg_clock found)
  · exact .refl

theorem decideReadAccount_serves (d : List Byte) (s : State) : Serves s (decideReadAccount d s).1 := by
  unfold decideReadAccount
  split
  · split
    · next tag _ =>
      have found := (Serves.refl (s := s)).lookupTag tag
      unfold readByTag
      generalize lookupTag tag s = x at found ⊢
      obtain ⟨r, u⟩ := x
      cases r <;> exact found
    · exact .refl
  · split
    · next i _ =>
      have found := (Serves.refl (s := s)).readIndexFrom (s.tags.table.length + 1) i
      unfold readByIndex readIndex
      generalize readIndexFrom (s.tags.table.length + 1) i s = x at found ⊢
      obtain ⟨r, u⟩ := x
      cases r <;> exact found
    · exact .refl
  · exact .refl

theorem decidePutAccount_serves (d : List Byte) (s : State) : Serves s (decidePutAccount d s).1 := by
  unfold decidePutAccount
  split
  · next e _ =>
    have found := (Serves.refl (s := s)).lookupTag e.tag
    unfold putEntry
    generalize lookupTag e.tag s = x at found ⊢
    obtain ⟨r, u⟩ := x
    cases r with
    | found i _ => exact found.withTable _
    | absent i =>
      dsimp only
      split
      · exact found.withTable _
      · exact found
  · exact .refl

theorem decideDeleteAccount_serves (d : List Byte) (s : State) : Serves s (decideDeleteAccount d s).1 := by
  unfold decideDeleteAccount
  split
  · next tag _ =>
    have found := (Serves.refl (s := s)).lookupTag tag
    unfold deleteEntry
    generalize lookupTag tag s = x at found ⊢
    obtain ⟨r, u⟩ := x
    cases r with
    | found i _ => exact found.withTable _
    | absent i => exact found
  · exact .refl

theorem decideClearAccounts_serves (s : State) : Serves s (decideClearAccounts s).1 := by
  unfold decideClearAccounts
  split
  · exact .refl
  · exact Serves.refl.withTable _

theorem decideSetRoutePolicy_serves (d : List Byte) (s : State) : Serves s (decideSetRoutePolicy d s).1 := by
  unfold decideSetRoutePolicy
  split
  · split
    · exact .refl
    · exact Serves.refl.tags _ (by exact id)
  · exact .refl

theorem decideClearCounters_serves (s : State) : Serves s (decideClearCounters s).1 :=
  (Serves.refl.integrity _ fun _ => ⟨Nat.zero_le _, Nat.zero_le _⟩).tags _ fun _ => Nat.zero_le _

theorem decidePutTariff_serves (d : List Byte) (s : State) : Serves s (decidePutTariff d s).1 := by
  unfold decidePutTariff
  split
  · exact Serves.refl.tags _ (by exact id)
  · exact .refl

theorem decideReadJournal_serves {x : Decision} (h : decideReadJournal d s = x) : Serves s x.1 := by
  obtain same | ⟨n, count, r, read, same⟩ := decideReadJournal_cases h <;> rw [same]
  · exact .refl
  · obtain ⟨first, found⟩ : ∃ y, firstDelivered s.journal n = y := exists_eq'
    have read' := read.symm.trans (journalRead_of_first count found)
    clear h read same
    subst read'
    cases first with
    | none => exact .refl
    | some i => exact Serves.refl.deliverFrom _ i

theorem decideWriteCalibration_serves (p : Port) (d : List Byte) (s : State) :
    Serves s (decideWriteCalibration p d s).1 := by
  unfold decideWriteCalibration
  split
  · exact Serves.refl.latch _
  · split
    · unfold writeItem
      split
      · exact .refl
      · split
        · exact .refl
        · split
          · exact .refl
          · exact Serves.refl.handWrite _
    · exact .refl

theorem decideWriteIdentity_serves (p : Port) (d : List Byte) (s : State) :
    Serves s (decideWriteIdentity p d s).1 := by
  simp only [decideWriteIdentity]
  split
  · exact .refl
  · split
    · exact .refl
    · split
      · exact .refl
      · split
        · exact .refl
        · exact Serves.refl.handWrite _

theorem decideSaveSettings_serves (p : Port) (s : State) : Serves s (decideSaveSettings p s).1 := by
  unfold decideSaveSettings
  split
  · exact .refl
  · exact Serves.refl.handWrite _

theorem decideClearEvents_serves (p : Port) (d : List Byte) (s : State) : Serves s (decideClearEvents p d s).1 := by
  unfold decideClearEvents
  split
  · exact Serves.refl.port p _ (by exact fun _ => rfl) (by exact id)
  · exact .refl

theorem decideSetEventMask_serves (p : Port) (d : List Byte) (s : State) : Serves s (decideSetEventMask p d s).1 := by
  unfold decideSetEventMask
  split
  · split
    · exact .refl
    · exact Serves.refl.port p _ (by exact fun _ => rfl) (by exact id)
  · exact .refl

theorem decideSetBank_serves (d : List Byte) (s : State) : Serves s (decideSetBank d s).1 := by
  unfold decideSetBank
  split
  · split
    · exact .refl
    · exact Serves.refl.other ((withBanks_only _ _).mono (by decide))
  · exact .refl

theorem decideSetAccess_serves (d : List Byte) (s : State) : Serves s (decideSetAccess d s).1 := by
  unfold decideSetAccess
  split
  · exact .refl
  · split
    · split
      · exact .refl
      · exact Serves.refl.other ((withAccess_only _ _).mono (by decide))
    · exact .refl

theorem decideLockMap_serves (s : State) : Serves s (decideLockMap s).1 := by
  unfold decideLockMap
  split
  · exact .refl
  · exact Serves.refl.other ((withAccess_only _ _).mono (by decide))

theorem decideAcknowledgeJournal_serves {x : Decision} (h : decideAcknowledgeJournal d s = x) : Serves s x.1 := by
  obtain zero | acknowledged := decideAcknowledgeJournal_cases h
  · rw [zero]; exact .refl
  · obtain ⟨y, answered⟩ := acknowledge_cases acknowledged
    rw [answered]
    exact Serves.refl.withJournal _

theorem takeRead_serves (l : Lifter) (ok : Bool) (tag quality : Nat) (s : State) :
    Serves s (takeRead l ok tag quality s) := by
  refine Serves.refl.tags _ fun fits => ?_
  split
  · simp only [acceptTag]
    split
    · exact saturatingSucc_le fits
    · exact fits
  · exact fits

/-- The end of a write: what it wrote stands or is broken, its request is answered, and the next write begins. -/
theorem writeEnd_serves {ok : Bool} {j : WriteJob} {f : State → State} (step : ∀ x, Serves x (f x)) :
    Serves s (nextWrite (f (if ok then s else breakWrite j s))) := by
  have broken : Serves s (if ok then s else breakWrite j s) :=
    Serves.ite (fun _ => .refl) (fun _ => Serves.refl.breakWrite j)
  exact (broken.trans (step _)).nextWrite

/-- Whether a command puts every block into its power-on state. -/
def isPowerReset : Instr → Bool
  | .powerOnReset | .resetLineAssert | .resetLineRelease => true
  | _ => false

/-- Every command but the resets keeps the attention lines and the ranges. -/
theorem exec_serves {i : Instr} (other : isPowerReset i = false) (h : exec i s = .next t) : Serves s t := by
  have reads (r : State → Reply) (x : State) : Serves x (declined (r x) x).1 := .refl
  cases i
  case liftPhaseTimeout | settleExpiry | weighPhaseLimitExpiry | dumpDwellExpiry | shakePulseEnd | flowWaitTimeout
      | extendTimerExpiry | packDwellExpiry | retractTimerExpiry | insertedConversionComplete
      | channelFreshnessExpiry | weighComputationEnd | rearStopPress | rearButtonRelease =>
    exact Serves.refl.operates (exec_operates rfl h)
  case powerOnReset | resetLineAssert | resetLineRelease => nomatch other
  case inputLineChange change =>
    cases change <;> cases h
    · exact Serves.refl.body _ (by exact id)
    · exact (Serves.refl.body _ (by exact id)).evaluateInhibit
    · exact Serves.refl.body _ (by exact id)
    · exact Serves.refl.withCalib _
  all_goals cases h
  case startLift => exact serve_serves (decideStartLift_serves _ _)
  case stopLift => exact serve_operates (decideStopLift_operates _)
  case resumeLift => exact serve_operates (decideResumeLift_operates _)
  case abortLift => exact serve_operates (decideAbortLift_operates _)
  case selectProfile => exact serve_operates (decideSelectProfile_operates _)
  case setBank => exact serve_serves fun x => decideSetBank_serves _ x
  case setLifterDefaults => exact serve_operates (decideSetLifterDefaults_operates _)
  case setTagThreshold => exact serve_serves (decideSetTagThreshold_serves _)
  case packCycle => exact serve_operates (decidePackCycle_operates _)
  case packStop => exact serve_operates (decidePackStop_operates _)
  case packStep => exact serve_operates (decidePackStep_operates _)
  case packResume => exact serve_operates (decidePackResume_operates _)
  case setPackMode => exact serve_operates (decideSetPackMode_operates _)
  case setPackerSettings => exact serve_operates (decideSetPackerSettings_operates _)
  case setPayloadLimits => exact serve_serves (decideSetPayloadLimits_serves _)
  case unloadComplete => exact serve_serves (decideUnloadComplete_serves _)
  case resumeBody => exact serve_serves decideResumeBody_serves
  case bodyReset => exact serve_serves fun _ => Serves.refl.bodyResetState
  case saveSettings => exact serve_serves (decideSaveSettings_serves _)
  case readAccount => exact serve_serves (decideReadAccount_serves _)
  case putAccount => exact serve_serves (decidePutAccount_serves _)
  case deleteAccount => exact serve_serves (decideDeleteAccount_serves _)
  case clearAccounts => exact serve_serves decideClearAccounts_serves
  case setRoutePolicy => exact serve_serves (decideSetRoutePolicy_serves _)
  case clearCounters => exact serve_serves decideClearCounters_serves
  case putTariff => exact serve_serves (decidePutTariff_serves _)
  case readJournal => exact serve_serves_of fun _ _ => decideReadJournal_serves
  case acknowledgeJournal => exact serve_serves_of fun _ _ => decideAcknowledgeJournal_serves
  case writeCalibration => exact serve_serves (decideWriteCalibration_serves _ _)
  case writeIdentity => exact serve_serves (decideWriteIdentity_serves _ _)
  case vehicleData => exact serve_serves (decideVehicleData_serves _)
  case clearEvents => exact serve_serves (decideClearEvents_serves _ _)
  case setEventMask => exact serve_serves (decideSetEventMask_serves _ _)
  case setScanRing => exact serve_operates (decideSetScanRing_operates _)
  case setAccess => exact serve_serves (decideSetAccess_serves _)
  case lockMap => exact serve_serves decideLockMap_serves
  case readTariff => exact serve_serves fun x => by unfold decideReadTariff; split <;> exact .refl
  case readCalibration => exact serve_serves fun x => by unfold decideReadCalibration; split <;> exact .refl
  case lifterStatus => exact serve_serves fun x => by unfold decideLifterStatus; split <;> exact .refl
  case compartmentStatus => exact serve_serves fun x => by unfold decideCompartmentStatus; split <;> exact .refl
  case journalStatus | readCounter | readIdentity | bodyStatus | flowStatus | weighStatus | tagStatus | integrityStatus
      | linkStatus | readEvents | scanStatus | readAccess => exact serve_serves (reads _)
  case unknownKindRequest p n k _ =>
    exact Serves.ite (fun _ => .refl) (fun _ => Serves.ite (fun _ => Serves.refl.overrunPort p)
      (fun _ => (Serves.refl.takeRequest p n k).refuseAtPort p _))
  case badFrame p _ => exact Serves.ite (fun _ => .refl) (fun _ => Serves.refl.badFramePort p)
  case frameGapTimeout p => exact Serves.ite (fun _ => Serves.refl.badFramePort p) (fun _ => .refl)
  case overrun p => exact Serves.ite (fun _ => .refl) (fun _ => Serves.refl.overrunPort p)
  case answerSent p => exact Serves.ite (fun _ => Serves.refl.port p _ (by exact id) (by exact id)) (fun _ => .refl)
  case estopReadingActive =>
    exact Serves.ite (fun _ => Serves.ite (fun _ => (Serves.refl.body _ (by exact id)).enterHalted)
        (fun _ => Serves.refl.body _ (by exact id)))
      (fun _ => .refl)
  case estopReadingReleased => exact Serves.ite (fun _ => Serves.refl.body _ (by exact id)) (fun _ => .refl)
  case tailgateReadingNotClosed =>
    exact Serves.ite (fun _ => ((Serves.refl.body _ (by exact id)).operates (((Operates.refl.holdBoth _).holdPacker _ _).holdPacker
      _ _)).evaluateInhibit) (fun _ => .refl)
  case tailgateReadingClosed =>
    exact Serves.ite (fun _ => (Serves.refl.body _ (by exact id)).startPackers.evaluateInhibit) (fun _ => .refl)
  case stepReadingOccupied l =>
    exact Serves.ite (fun _ => (Serves.refl.body _ (by exact id)).operates (Operates.refl.holdLifter l _)) (fun _ => .refl)
  case stepReadingFree => exact Serves.ite (fun _ => Serves.refl.body _ (by exact id)) (fun _ => .refl)
  case sealReadingOpen => exact Serves.ite (fun _ => (Serves.refl.withCalib _).latch _) (fun _ => .refl)
  case sealReadingClosed => exact Serves.ite (fun _ => (Serves.refl.withCalib _).sealCloses) (fun _ => .refl)
  case rearStartPress l =>
    exact Serves.ite (fun _ => .refl) (fun _ => Serves.ite (fun _ => Serves.refl.lifter l _ (by exact id))
      (fun _ => (Serves.refl.lifter l _ (by exact id)).startPress l))
  case tagRead l ok tag quality => exact Serves.ite (fun _ => .refl) (fun _ => takeRead_serves l ok _ _ s)
  case loadPartRead ok => exact Serves.ite (fun _ => .refl) (fun _ => Serves.refl.readPart ok)
  case bodyResetPassEnd => exact Serves.ite (fun _ => Serves.refl.leaveStarting) (fun _ => .refl)
  case returnTimeLimit l =>
    change Serves s (onContext l _ s)
    unfold onContext
    split
    · exact Serves.ite (fun _ => Serves.refl.endMotion l) (fun _ => .refl)
    · exact .refl
  case vehicleFreshnessExpiry => exact Serves.ite (fun _ => Serves.refl.expireVehicle) (fun _ => .refl)
  case routeClockSecond =>
    exact Serves.ite (fun _ => Serves.refl.body _ fun _ => ⟨Nat.mod_lt _ (by decide), Nat.zero_le _⟩) (fun _ => .refl)
  case ringConversionComplete r => exact Serves.ite (fun _ => Serves.refl.completeRing r) (fun _ => .refl)
  case counterWriteEnd ok =>
    split
    · exact writeEnd_serves fun _ => Serves.refl.endCounterWrite ok _ _ _ _ _
    · exact .refl
  case commitEnd ok =>
    split
    · exact writeEnd_serves fun _ => Serves.refl.endCommit ok _
    · exact .refl
  case identityWriteEnd ok =>
    split
    · exact writeEnd_serves fun _ => Serves.refl.endIdentityWrite ok _ _
    · exact .refl
  case settingsWriteEnd ok =>
    split
    · exact writeEnd_serves fun _ => Serves.refl.endSettingsWrite ok _ _
    · exact .refl

end Sys2Proof.Safety
end

section
/-! SUPPORT. What a step is (`step_cases`), which commands keep the lifters' contexts and their tags (`exec_sameTags`), and
what the commands that can end a lift are made of (`Ends`). -/

namespace Sys2Proof.Safety

open Sys2Proof.Machine

variable {s t u : State} {p : Port} {d : List Byte} {c : List Field}

/-! ### A step -/

/-- A step runs the front command, or with an empty queue changes the queue alone or passes a millisecond. -/
theorem step_cases (h : step s = .next t) :
    (∃ i rest, exec i (s.withPending rest) = .next t) ∨ Only [.pending, .freeIndex] s t
      ∨ (t = passMillisecond s ∧ secondFull s.body = false) := by
  unfold step at h
  split at h
  · cases h
    refine .inr ?_
    unfold tick
    split
    · exact .inl (Only.refl _ s)
    · split
      · next none =>
        refine .inr ⟨rfl, Bool.eq_false_iff.mpr fun full => ?_⟩
        have listed : Instr.routeClockSecond ∈ dueExpiries s :=
          (mem_dueExpiries _).mpr full
        rw [none] at listed
        cases listed
      · exact .inl ((withPending_only s _).mono (by decide))
      · exact .inl ((withPending_only s _).both (withFreeIndex_only _ _) (by decide) (by decide))
  · exact .inl ⟨_, _, h⟩

/-! ### Contexts and their tags -/

/-- The same lifters hold a context, each with the same tag. -/
def SameTags (s t : State) : Prop := ∀ l, (t.context l).map LiftContext.tag = (s.context l).map LiftContext.tag

theorem SameTags.refl (s : State) : SameTags s s := fun _ => rfl
theorem SameTags.trans (h : SameTags s t) (k : SameTags t u) : SameTags s u := fun l => (k l).trans (h l)

/-- A change of other fields keeps the contexts. -/
theorem Only.sameTags (h : Only c s t) (free : Field.lifters ∉ c) : SameTags s t := fun l => by
  have same : t.lifters = s.lifters := h.same .lifters free
  simp only [State.context, State.lifter, same]

theorem Operates.sameTags (h : Operates s t) : SameTags s t := by
  induction h with
  | refl => exact .refl s
  | lifter _ l u kept ih =>
    refine ih.trans fun m => ?_
    by_cases same : m = l
    · subst same
      simp only [State.context, lifter_withLifter_self]
      exact kept.tag
    · simp only [State.context, lifter_withLifter_of_ne _ _ _ _ same]
  | flow _ _ ih | packer _ _ _ _ ih | fill _ _ _ ih | scan _ _ _ ih | weigh _ _ _ ih | latch _ _ ih => exact ih

theorem Operates.idle (h : Operates s t) (l : Lifter) : t.context l = none ↔ s.context l = none := by
  rw [← Option.map_eq_none_iff (f := LiftContext.tag), h.sameTags l, Option.map_eq_none_iff]

theorem SameTags.idle (h : SameTags s t) (l : Lifter) : t.context l = none ↔ s.context l = none := by
  rw [← Option.map_eq_none_iff (f := LiftContext.tag), h l, Option.map_eq_none_iff]

theorem SameTags.bound (h : SameTags s t) (l : Lifter) : bound t l = bound s l := by
  have := congrArg (Option.bind · id) (h l)
  simpa [Safety.bound, Option.bind_map] using this

theorem serve_sameTags {k : Kind} {n : Byte} {owner : State → Decision} (decides : ∀ x, SameTags x (owner x).1) :
    SameTags s (serve k p n d owner s) := by
  have ports {x y : State} (h : Only [.ports] x y) : SameTags x y := Only.sameTags h (by decide)
  unfold serve
  split
  · exact .refl s
  · split
    · exact ports (overrunPort_only p s)
    · split
      · exact ports ((takeRequest_only p n _ s).step (refuseAtPort_only p _ _))
      · exact ((ports (takeRequest_only p n _ s)).trans (decides _)).trans (ports (finishRequest_only p _))

theorem serve_operates_sameTags {k : Kind} {n : Byte} {owner : State → Decision}
    (decides : ∀ x, Operates x (owner x).1) : SameTags s (serve k p n d owner s) :=
  serve_sameTags fun x => (decides x).sameTags

/-- What a body that changes and then operations of lifters and packers keep. -/
theorem withBody_sameTags {v : Body} (h : Operates (s.withBody v) t) : SameTags s t :=
  (Only.sameTags (withBody_only s v) (by decide)).trans h.sameTags

theorem enterHalted_sameTags (s : State) : SameTags s (enterHalted s) := by
  have halted := ((((Operates.refl (s := s.withBody { s.body with state := .halted })).allValvesOff.clearFlow.holdBoth
    .estop).haltPacker .residual).haltPacker .recycle).latch .estop
  exact (Only.sameTags (withBody_only s _) (by decide)).trans halted.sameTags

theorem leaveStarting_sameTags (s : State) : SameTags s (leaveStarting s) := by
  have loaded : SameTags s (s.withLoader { s.loader with load := .none }) :=
    Only.sameTags (withLoader_only s _) (by decide)
  unfold leaveStarting
  simp only
  split
  · exact loaded.trans (enterHalted_sameTags _)
  · exact loaded.trans (Only.sameTags (withBody_only _ _) (by decide))

theorem packersInTurn_sameTags (b : Bool) {f : Stream → State → State} (step : ∀ st x, Operates x (f st x))
    (s : State) : SameTags s (packersInTurn b f s) := by
  have counted : SameTags s (s.withFreeIndex (s.freeIndex + 1)) :=
    Only.sameTags (withFreeIndex_only s _) (by decide)
  unfold packersInTurn
  split
  · split
    · exact counted.trans ((step _ _).sameTags.trans (step _ _).sameTags)
    · exact counted.trans ((step _ _).sameTags.trans (step _ _).sameTags)
  · exact (step _ _).sameTags.trans (step _ _).sameTags

theorem applySettings_lifters (x : Settings) (s : State) : (applySettings x s).lifters =
    { left := { s.lifters.left with settings := x.lifters.left, selection := x.lifters.left.initialSelection }
      right := { s.lifters.right with settings := x.lifters.right, selection := x.lifters.right.initialSelection } } := by
  have same (y : State) : (evaluateLimits y).lifters = y.lifters := (evaluateLimits_only y).same .lifters (by decide)
  simp only [applySettings, same, withAccess_lifters, withPorts_lifters, withScan_lifters, withTags_lifters,
    withBodyLimit_lifters, withCompartments_lifters, withPackers_lifters, withBanks_lifters, withLifters_lifters]

theorem applySettings_sameTags (x : Settings) (s : State) : SameTags s (applySettings x s) := fun l => by
  simp only [State.context, State.lifter, applySettings_lifters]
  cases l <;> rfl

theorem readPart_sameTags (ok : Bool) (s : State) : SameTags s (readPart ok s) := by
  have load {x : State} (h : SameTags s x) (v : LoadState) : SameTags s (x.withLoad v) :=
    h.trans (Only.sameTags (withLoader_only x _) (by decide))
  have latch (e : Event) (x : State) : SameTags x (latchAll e x) := Only.sameTags (latchAll_only e x) (by decide)
  have calib (v : CalStore) : SameTags s (s.withCalib v) := Only.sameTags (withCalib_only s v) (by decide)
  have settings (good : Bool) : SameTags s (loadSettings good s) := by
    cases good
    · exact (applySettings_sameTags _ s).trans (latch _ _)
    · exact applySettings_sameTags _ s
  have calibration (l : Lifter) (good : Bool) : SameTags s (loadCalibration l good s) := by
    cases good
    · exact (calib _).trans (latch _ _)
    · exact calib _
  unfold readPart
  split
  · exact load (settings _) _
  · exact load (calibration _ _) _
  · exact load (calibration _ _) _
  · exact load (calib _) _
  · exact (calib _).trans (leaveStarting_sameTags _)
  · exact .refl s

theorem decideVehicleData_sameTags (d : List Byte) (s : State) : SameTags s (decideVehicleData d s).1 := by
  unfold decideVehicleData
  split
  · next v _ =>
    have handed := (Operates.refl (s := s.withBody
      { s.body with
        vehicle := some v, lastAccepted := some s.bodyTimer, fresh := true, clockSeconds := v.clock,
        clockMillis := 0 })).handEngineChange (effectiveEngine s.body)
    exact withBody_sameTags (Operates.ite (p := holdSpeed < v.speed) (fun _ => handed.holdBoth .speed) (fun _ => handed))
  · exact .refl s

theorem decideResumeBody_sameTags (s : State) : SameTags s (decideResumeBody s).1 := by
  unfold decideResumeBody
  split
  · split
    · exact .refl s
    · exact (withBody_sameTags (v := { s.body with state := .running }) Operates.refl.evaluateGrants).trans
        (packersInTurn_sameTags _ (fun st _ => Operates.refl.unhaltPacker st) _)
  · exact .refl s

/-- The commands that can begin or end a lift. -/
def isLiftEnd : Instr → Bool
  | .startLift .. | .rearStartPress _ | .bodyReset .. | .returnTimeLimit _ | .ringConversionComplete _
  | .powerOnReset | .resetLineAssert | .resetLineRelease => true
  | _ => false

/-- Every other command keeps the contexts and their tags. -/
theorem exec_sameTags {i : Instr} (other : isLiftEnd i = false) (h : exec i s = .next t) : SameTags s t := by
  by_cases free : Field.lifters ∉ parts i
  · exact Only.sameTags (exec_only h) free
  have evaluated (x : State) : SameTags x (evaluateInhibit x) := Only.sameTags (evaluateInhibit_only x) (by decide)
  cases i
  case liftPhaseTimeout | settleExpiry | weighPhaseLimitExpiry | dumpDwellExpiry | shakePulseEnd | flowWaitTimeout
      | extendTimerExpiry | packDwellExpiry | retractTimerExpiry | insertedConversionComplete
      | channelFreshnessExpiry | weighComputationEnd | rearStopPress | rearButtonRelease =>
    exact (exec_operates rfl h).sameTags
  case stopLift => cases h; exact serve_operates_sameTags (decideStopLift_operates _)
  case resumeLift => cases h; exact serve_operates_sameTags (decideResumeLift_operates _)
  case abortLift => cases h; exact serve_operates_sameTags (decideAbortLift_operates _)
  case selectProfile => cases h; exact serve_operates_sameTags (decideSelectProfile_operates _)
  case setLifterDefaults => cases h; exact serve_operates_sameTags (decideSetLifterDefaults_operates _)
  case packCycle => cases h; exact serve_operates_sameTags (decidePackCycle_operates _)
  case packStop => cases h; exact serve_operates_sameTags (decidePackStop_operates _)
  case packStep => cases h; exact serve_operates_sameTags (decidePackStep_operates _)
  case packResume => cases h; exact serve_operates_sameTags (decidePackResume_operates _)
  case setPackMode => cases h; exact serve_operates_sameTags (decideSetPackMode_operates _)
  case resumeBody => cases h; exact serve_sameTags decideResumeBody_sameTags
  case vehicleData => cases h; exact serve_sameTags (decideVehicleData_sameTags _)
  case estopReadingActive =>
    cases h
    have body : SameTags s (s.withBody { s.body with estop := settled true }) :=
      Only.sameTags (withBody_only s _) (by decide)
    split
    · dsimp only
      split
      · exact body.trans (enterHalted_sameTags _)
      · exact body
    · exact .refl s
  case tailgateReadingNotClosed =>
    cases h
    split
    · exact (withBody_sameTags (v := { s.body with tailgate := settled false })
        (((Operates.refl.holdBoth _).holdPacker _ _).holdPacker _ _)).trans (evaluated _)
    · exact .refl s
  case tailgateReadingClosed =>
    cases h
    split
    · exact ((withBody_sameTags (v := { s.body with tailgate := settled true, tailgateCycled := ⟨true, true⟩ })
        Operates.refl).trans (packersInTurn_sameTags _ (fun st _ => Operates.refl.tryStart st) _)).trans (evaluated _)
    · exact .refl s
  case stepReadingOccupied l =>
    cases h
    split
    · exact withBody_sameTags (Operates.refl.holdLifter l _)
    · exact .refl s
  case vehicleFreshnessExpiry =>
    cases h
    split
    · exact withBody_sameTags (v := { s.body with fresh := false })
        (((Operates.refl.latch _).holdBoth _).handEngineChange _)
    · exact .refl s
  case loadPartRead ok =>
    cases h
    split
    · exact .refl s
    · exact readPart_sameTags ok s
  case bodyResetPassEnd =>
    cases h
    split
    · exact leaveStarting_sameTags s
    · exact .refl s
  case startLift | rearStartPress | bodyReset | returnTimeLimit | ringConversionComplete | powerOnReset
      | resetLineAssert | resetLineRelease => simp [isLiftEnd] at other
  all_goals exact absurd (by simp [parts]) free

/-! ### Ends of lifts -/

/-- t is reached from s by operations of lifters and packers and by ends of lifts. -/
inductive Ends (s : State) : State → Prop
  | refl : Ends s s
  | operates {t u : State} (h : Ends s t) (k : Operates t u) : Ends s u
  | ended {t : State} (h : Ends s t) (how : Ending) (l : Lifter) : Ends s (endLift how l t)

theorem endMotion_ends (h : Ends s t) (l : Lifter) : Ends s (endMotion l t) := by
  unfold endMotion
  split
  · exact h
  · have released := (((Operates.refl (s := t)).withValves l false false).mapContext l stopTimers
      (fun _ => rfl) fun _ => id).releaseGrant (.lifter l)
    unfold enterNext
    split
    · exact h.operates (released.enterWeigh l _ _)
    · exact h.operates (released.enterDumpDwell l)
    · exact h.operates (released.enterWeigh l _ _)
    · exact (h.operates released).ended _ l
    · exact (h.operates released).ended _ l
    · exact h.operates released

theorem handReading_ends (h : Ends s t) (ch : Fin 12) (v : Int) : Ends s (handReading ch v t) := by
  unfold handReading
  split
  · unfold angleReading
    split
    · exact h
    · split
      · exact h
      · split
        · exact endMotion_ends h _
        · exact h
  · exact h.operates (Operates.refl.packerConversion _ ch)
  · exact h

theorem completeRing_ends (r : Option Int) (s : State) : Ends s (completeRing r s) := by
  have read : Ends s (takeRingResult s.scan.ringPos r s) := by
    unfold takeRingResult
    split
    · exact handReading_ends (Ends.refl.operates (Operates.refl.writeSlot _ _)) _ _
    · exact .refl
  have passed : Ends s (if s.scan.ringPos = s.scan.ringEnd then endPass (takeRingResult s.scan.ringPos r s)
      else takeRingResult s.scan.ringPos r s) := by
    split
    · exact read.operates Operates.refl.endPass
    · exact read
  exact passed.operates (Operates.refl.scan _ (by exact id)).afterRing

theorem returnTimeLimit_ends {l : Lifter} (h : exec (.returnTimeLimit l) s = .next t) : Ends s t := by
  cases h
  unfold onContext
  split
  · dsimp only
    split
    · exact endMotion_ends .refl l
    · exact .refl
  · exact .refl

theorem ringConversionComplete_ends {r : Option Int} (h : exec (.ringConversionComplete r) s = .next t) : Ends s t := by
  cases h
  split
  · exact completeRing_ends r s
  · exact .refl

theorem resetLift_ends (h : Ends s t) (l : Lifter) : Ends s (resetLift l t) := by
  unfold resetLift
  split
  · exact h
  · exact (h.operates ((Operates.refl.withValves l _ _).withdrawWindow l)).ended _ l

end Sys2Proof.Safety
end

section
/-! PROOFS. The output lines and the ranges of the counters are kept by every step (O55, and the ranges of O59). -/

namespace Sys2Proof.Safety

open Sys2Proof.Machine

variable {s t u : State} {p : Port} {d : List Byte}

/-! ### Attention lines (R205) -/

theorem attentionOf_eq_true {x m : EventSet} :
    attentionOf x m = true ↔ ∃ n, x.getLsbD n = true ∧ m.getLsbD n = false := by
  rw [attentionOf, decide_eq_true_eq, ne_eq, BitVec.eq_of_getLsbD_eq_iff]
  constructor
  · intro some
    simp only [not_forall] at some
    obtain ⟨n, small, set⟩ := some
    refine ⟨n, ?_⟩
    simpa [small] using set
  · rintro ⟨n, set, clear⟩ all
    have small : n < 26 := BitVec.lt_of_getLsbD set
    have absurd := all n small
    rw [BitVec.getLsbD_and, BitVec.getLsbD_not, set, clear] at absurd
    simp [small] at absurd

theorem attentionLaw_iff : AttentionLaw s ↔ ∀ p, Lined (s.port p) := by
  refine forall_congr' fun p => ?_
  rw [← attentionOf_eq_true, Lined]
  exact Bool.eq_iff_iff.symm

/-! ### The two relations keep the lines and the ranges -/

/-- All the ranges, one for each block. -/
structure RangesFit (s : State) : Prop where
  packers : ∀ st, CountsFit (s.packer st)
  loads : LoadsFit s.compartments
  lifters : ∀ l, RetryFits (s.lifter l)
  ports : ∀ p, PortCountsFit (s.port p)
  corrections : CorrectionsFit s.integrity
  crossReads : s.tags.crossReads ≤ 65535
  pass : PassFits s.scan
  drift : DriftFits s.weigh
  clock : ClockFits s.body

theorem rangeLaw_iff : RangeLaw s ↔ RangesFit s :=
  ⟨fun h => ⟨fun st => ⟨h.pendingCycles st, h.droppedCycles st, h.shortStrokes st⟩, h.loadNumbers, h.retries,
      fun p => ⟨h.linkErrors p, h.overruns p⟩, h.corrections, h.crossReads, h.passes, h.drift, h.clock⟩,
    fun ⟨packers, loads, lifters, ports, corrections, crossReads, pass, drift, clock⟩ =>
      ⟨fun st => (packers st).1, fun st => (packers st).2.1, fun st => (packers st).2.2, loads, lifters,
        fun p => (ports p).1, fun p => (ports p).2, corrections, crossReads, pass, drift, clock⟩⟩

theorem latchAll_lined (e : Event) (s : State) (p : Port) : Lined ((latchAll e s).port p) := by
  rw [latchAll_port]; rfl

theorem forall_lifter_set {P : LifterUnit → Prop} {l : Lifter} {v : LifterUnit} (h : ∀ m, P (s.lifter m)) (hv : P v) :
    ∀ m, P ((s.withLifter l v).lifter m) := fun m => by
  by_cases same : m = l
  · subst same; rw [lifter_withLifter_self]; exact hv
  · rw [lifter_withLifter_of_ne _ _ _ _ same]; exact h m

theorem forall_packer_set {P : Packer → Prop} {st : Stream} {v : Packer} (h : ∀ su, P (s.packer su)) (hv : P v) :
    ∀ su, P ((s.withPacker st v).packer su) := fun su => by
  by_cases same : su = st
  · subst same; rw [packer_withPacker_self]; exact hv
  · rw [packer_withPacker_of_ne _ _ _ _ same]; exact h su

theorem forall_port_set {P : PortState → Prop} {q : Port} {v : PortState} (h : ∀ p, P (s.port p)) (hv : P v) :
    ∀ p, P ((s.withPort q v).port p) := fun p => by
  by_cases same : p = q
  · subst same; rw [port_withPort_self]; exact hv
  · rw [port_withPort_of_ne _ _ _ _ same]; exact h p

theorem Operates.lined (h : Operates s t) (old : ∀ p, Lined (s.port p)) : ∀ p, Lined (t.port p) := by
  induction h with
  | refl => exact old
  | latch _ e _ => exact latchAll_lined e _
  | flow _ _ ih | lifter _ _ _ _ ih | packer _ _ _ _ ih | fill _ _ _ ih | scan _ _ _ ih | weigh _ _ _ ih => exact ih

theorem Operates.ranges (h : Operates s t) (old : RangesFit s) : RangesFit t := by
  induction h with
  | refl => exact old
  | flow _ v ih => exact { ih with }
  | lifter _ l v kept ih => exact { ih with lifters := forall_lifter_set ih.lifters (kept.retry (ih.lifters l)) }
  | packer _ st k fits ih => exact { ih with packers := forall_packer_set ih.packers (fits (ih.packers st)) }
  | fill _ st v ih =>
    refine { ih with loads := fun su => ?_ }
    have same := ih.loads su
    cases st <;> cases su <;> exact same
  | scan _ v fits ih => exact { ih with pass := fits ih.pass }
  | weigh _ v fits ih => exact { ih with drift := fits ih.drift }
  | latch _ e ih => exact { ih with ports := fun p => by rw [latchAll_port]; exact ih.ports p }

theorem Serves.lined (h : Serves s t) (old : ∀ p, Lined (s.port p)) : ∀ p, Lined (t.port p) := by
  induction h with
  | refl => exact old
  | operates _ k ih => exact k.lined ih
  | other _ k ih =>
    have same := k.same .ports (by decide)
    exact fun p => by rw [State.port, same]; exact ih p
  | port _ q x line _ ih => exact forall_port_set ih (line (ih q))
  | body _ _ _ ih | lifter _ _ _ _ ih | compartments _ _ _ ih | tags _ _ _ ih | integrity _ _ _ ih => exact ih

/-- The ranges stand where every block with a counter is the same. -/
theorem RangesFit.of_only (h : Only (.pending :: uncounted) s t) (old : RangesFit s) : RangesFit t := by
  have lifters : t.lifters = s.lifters := h.same .lifters (by decide)
  have packers : t.packers = s.packers := h.same .packers (by decide)
  have compartments : t.compartments = s.compartments := h.same .compartments (by decide)
  have ports : t.ports = s.ports := h.same .ports (by decide)
  have integrity : t.integrity = s.integrity := h.same .integrity (by decide)
  have tags : t.tags = s.tags := h.same .tags (by decide)
  have scan : t.scan = s.scan := h.same .scan (by decide)
  have weigh : t.weigh = s.weigh := h.same .weigh (by decide)
  have body : t.body = s.body := h.same .body (by decide)
  constructor
  case packers => simpa [State.packer, packers] using old.packers
  case loads => rw [compartments]; exact old.loads
  case lifters => simpa [State.lifter, lifters] using old.lifters
  case ports => simpa [State.port, ports] using old.ports
  case corrections => rw [integrity]; exact old.corrections
  case crossReads => rw [tags]; exact old.crossReads
  case pass => rw [scan]; exact old.pass
  case drift => rw [weigh]; exact old.drift
  case clock => rw [body]; exact old.clock

theorem Serves.ranges (h : Serves s t) (old : RangesFit s) : RangesFit t := by
  induction h with
  | refl => exact old
  | operates _ k ih => exact k.ranges ih
  | other _ k ih => exact ih.of_only (k.mono (by decide))
  | port _ q x _ fits ih => exact { ih with ports := forall_port_set ih.ports (fits (ih.ports q)) }
  | body _ v fits ih => exact { ih with clock := fits ih.clock }
  | lifter _ l v fits ih => exact { ih with lifters := forall_lifter_set ih.lifters (fits (ih.lifters l)) }
  | compartments _ v fits ih => exact { ih with loads := fits ih.loads }
  | tags _ v fits ih => exact { ih with crossReads := fits ih.crossReads }
  | integrity _ v fits ih => exact { ih with corrections := fits ih.corrections }

/-! ### The resets -/

/-- A reset, or the release of a line that does not hold the B40. -/
theorem powerReset_cases {i : Instr} (reset : isPowerReset i = true) (h : exec i s = .next t) :
    t = s ∨ ∃ held load free e, t = poweredOn s held load free e := by
  cases i
  case powerOnReset => cases h; exact .inr ⟨_, _, _, _, powerOnState_eq _ _ s⟩
  case resetLineAssert => cases h; exact .inr ⟨_, _, _, _, powerOnState_eq _ _ s⟩
  case resetLineRelease =>
    cases h
    split
    · exact .inr ⟨_, _, _, _, powerOnState_eq _ _ s⟩
    · exact .inl rfl
  all_goals simp [isPowerReset] at reset

variable {held : Bool} {load : LoadState} {free : Nat} {e : Eeprom}

theorem poweredOn_context (l : Lifter) : (poweredOn s held load free e).context l = none := by cases l <;> rfl

theorem poweredOn_lined (p : Port) : Lined ((poweredOn s held load free e).port p) :=
  attentionLaw_iff.mp resetIsLawful.attention p

theorem poweredOn_ranges : RangesFit (poweredOn s held load free e) := by
  have reset := rangeLaw_iff.mp resetIsLawful.ranges
  exact { reset with
    lifters := fun l c h => absurd ((poweredOn_context l).symm.trans h) nofun
    clock := ⟨Nat.two_pow_pos 32, Nat.zero_le _⟩ }

theorem poweredOn_inhibit : InhibitLaw (poweredOn s held load free e) := by
  simp only [InhibitLaw, poweredOn_context]
  simp [poweredOn]

theorem poweredOn_limits : LimitLaw (poweredOn s held load free e) := resetIsLawful.limits

/-! ### Every step -/

/-- A law that the front command is not part of is kept by every step when every command and the millisecond keep it. -/
theorem step_keeps {I : State → Prop} (queue : ∀ {x y}, Only [.pending, .freeIndex] x y → I x → I y)
    (command : ∀ {i x y}, exec i x = .next y → I x → I y)
    (tick : secondFull s.body = false → I s → I (passMillisecond s)) (h : step s = .next t) (old : I s) : I t := by
  obtain ⟨i, rest, ran⟩ | only | ⟨rfl, early⟩ := step_cases h
  · exact command ran (queue ((withPending_only s rest).mono (by decide)) old)
  · exact queue only old
  · exact tick early old

theorem exec_lined {i : Instr} (h : exec i s = .next t) (old : ∀ p, Lined (s.port p)) : ∀ p, Lined (t.port p) := by
  by_cases reset : isPowerReset i = true
  · obtain rfl | ⟨_, _, _, _, rfl⟩ := powerReset_cases reset h
    · exact old
    · exact poweredOn_lined
  · exact (exec_serves (Bool.eq_false_iff.mpr reset) h).lined old

theorem exec_ranges {i : Instr} (h : exec i s = .next t) (old : RangesFit s) : RangesFit t := by
  by_cases reset : isPowerReset i = true
  · obtain rfl | ⟨_, _, _, _, rfl⟩ := powerReset_cases reset h
    · exact old
    · exact poweredOn_ranges
  · exact (exec_serves (Bool.eq_false_iff.mpr reset) h).ranges old

theorem step_attention (h : step s = .next t) (old : AttentionLaw s) : AttentionLaw t := by
  rw [attentionLaw_iff] at old ⊢
  exact step_keeps (I := fun x => ∀ p, Lined (x.port p))
    (fun only kept p => by rw [State.port, show _ = _ from only.same .ports (by decide)]; exact kept p)
    exec_lined (fun _ kept => kept) h old

theorem step_ranges (h : step s = .next t) (old : RangeLaw s) : RangeLaw t := by
  rw [rangeLaw_iff] at old ⊢
  refine step_keeps (I := RangesFit) (fun only kept => kept.of_only (only.mono (by decide))) exec_ranges
    (fun early kept => ?_) h old
  refine { kept with clock := ⟨kept.clock.1, ?_⟩ }
  have below : ¬ 1000 ≤ s.body.clockMillis := of_decide_eq_false early
  change s.body.clockMillis + 1 ≤ 1000
  omega

/-! ### The drive-inhibit line (R46) -/

/-- The inhibit law looks at the contexts, the tailgate's reading, and the line with its reasons. -/
theorem InhibitLaw.congr (old : InhibitLaw s) (contexts : ∀ l, t.context l = none ↔ s.context l = none)
    (reading : t.body.tailgate.reading = s.body.tailgate.reading) (line : t.body.inhibitLine = s.body.inhibitLine)
    (reasons : t.body.inhibitReasons = s.body.inhibitReasons) : InhibitLaw t := by
  simpa only [InhibitLaw, ne_eq, contexts, reading, line, reasons] using old

theorem InhibitLaw.of_sameTags (old : InhibitLaw s) (contexts : SameTags s t) (body : t.body = s.body) :
    InhibitLaw t :=
  old.congr contexts.idle (by rw [body]) (by rw [body]) (by rw [body])

theorem evaluateInhibit_inhibit (s : State) : InhibitLaw (evaluateInhibit s) := by
  have contexts (l : Lifter) : (evaluateInhibit s).context l = s.context l := rfl
  simp only [InhibitLaw, contexts]
  simp [evaluateInhibit, inhibitConditions, InhibitReasons.any, State.lifterIdle, or_assoc, Option.isSome_iff_ne_none]

/-- A frame that has neither the contexts nor the body. -/
theorem InhibitLaw.of_only {c : List Field} (old : InhibitLaw s) (h : Only c s t) (lifters : Field.lifters ∉ c)
    (body : Field.body ∉ c) : InhibitLaw t := old.of_sameTags (Only.sameTags h lifters) (h.same .body body)

theorem Operates.body (h : Operates s t) : t.body = s.body := by
  induction h with
  | refl => rfl
  | flow _ _ ih | lifter _ _ _ _ ih | packer _ _ _ _ ih | fill _ _ _ ih | scan _ _ _ ih | weigh _ _ _ ih
  | latch _ _ ih => exact ih

theorem Operates.inhibit (h : Operates s t) (old : InhibitLaw s) : InhibitLaw t := old.of_sameTags h.sameTags h.body

theorem endLift_inhibit (how : Ending) (l : Lifter) (old : InhibitLaw s) : InhibitLaw (endLift how l s) := by
  unfold endLift
  split
  · exact old
  · exact evaluateInhibit_inhibit _

theorem Ends.inhibit (h : Ends s t) (old : InhibitLaw s) : InhibitLaw t := by
  induction h with
  | refl => exact old
  | operates _ k ih => exact k.inhibit ih
  | ended _ how l ih => exact endLift_inhibit how l ih

theorem startLifter_inhibit (l : Lifter) (arg : Option Stream) (x : StartSource) (old : InhibitLaw s) :
    InhibitLaw (startLifter l arg x s).2 := by
  have refused {y : State} (kept : InhibitLaw y) (r : Reason) : InhibitLaw (refuseStart l x r y) :=
    ((Operates.refl.unit _ (by exact rfl)).latch _).inhibit kept
  have asked : InhibitLaw (tagPermission l s).2 := old.of_only (tagPermission_only l s) (by decide) (by decide)
  unfold startLifter
  split
  · exact refused old _
  · generalize tagPermission l s = y at asked ⊢
    obtain ⟨r, y⟩ := y
    cases r with
    | refused r => exact refused asked r
    | granted tag entry =>
      dsimp only
      split
      · exact refused asked _
      · have started := (evaluateInhibit_inhibit (y.withContext l (some (newContext l arg tag entry y)))).of_only
          (makeReservation_only l _) (by decide) (by decide)
        have emptied : InhibitLaw (if tag.isSome then emptyPending l (makeReservation l (evaluateInhibit
            (y.withContext l (some (newContext l arg tag entry y))))) else makeReservation l (evaluateInhibit
            (y.withContext l (some (newContext l arg tag entry y))))) := by
          split
          · exact started.of_only (withTags_only _ _) (by decide) (by decide)
          · exact started
        exact (Operates.refl.enterMotion l .raiseWeigh).inhibit emptied

/-- A request keeps a law of neither the ports nor the queue that its owner keeps. -/
theorem serve_keeps {I : State → Prop} (blind : ∀ {x y}, Only [.ports] x y → I x → I y) {k : Kind} {n : Byte}
    {owner : State → Decision} (decides : ∀ x, I x → I (owner x).1) (old : I s) : I (serve k p n d owner s) := by
  unfold serve
  split
  · exact old
  · split
    · exact blind (overrunPort_only p s) old
    · have taken := blind (takeRequest_only p n k.code s) old
      split
      · exact blind (refuseAtPort_only p _ _) taken
      · exact blind (finishRequest_only p _) (decides _ taken)

theorem inhibit_blind {x y : State} (h : Only [.ports] x y) (old : InhibitLaw x) : InhibitLaw y :=
  old.of_only h (by decide) (by decide)

/-- The body changed but for the tailgate's reading and the line, then operations of lifters and packers. -/
theorem InhibitLaw.withBody {v : Body} (old : InhibitLaw s) (h : SameTags s t) (body : t.body = v)
    (reading : v.tailgate.reading = s.body.tailgate.reading := by rfl)
    (line : v.inhibitLine = s.body.inhibitLine := by rfl)
    (reasons : v.inhibitReasons = s.body.inhibitReasons := by rfl) : InhibitLaw t := by
  subst body
  exact old.congr h.idle reading line reasons

theorem enterHalted_body (s : State) : (enterHalted s).body = { s.body with state := .halted } := by
  have halted := ((((Operates.refl (s := s.withBody { s.body with state := .halted })).allValvesOff.clearFlow.holdBoth
    .estop).haltPacker .residual).haltPacker .recycle).latch .estop
  exact halted.body

theorem leaveStarting_inhibit (old : InhibitLaw s) : InhibitLaw (leaveStarting s) := by
  have loaded : InhibitLaw (s.withLoader { s.loader with load := .none }) :=
    old.of_only (withLoader_only s _) (by decide) (by decide)
  unfold leaveStarting
  dsimp only
  split
  · exact loaded.withBody (enterHalted_sameTags _) (enterHalted_body _)
  · exact loaded.withBody (Only.sameTags (withBody_only _ _) (by decide)) (withBody_body _ _)

theorem decideStartLift_inhibit (p : Port) (d : List Byte) (old : InhibitLaw s) :
    InhibitLaw (decideStartLift p d s).1 := by
  unfold decideStartLift
  split
  · next l arg _ _ =>
    have started := startLifter_inhibit l arg (.port p) old
    split
    · generalize startLifter l arg (.port p) s = x at started ⊢
      obtain ⟨r, y⟩ := x
      cases r <;> exact started
    · exact old
  · exact old

theorem startPress_inhibit (l : Lifter) (old : InhibitLaw s) : InhibitLaw (startPress l s) := by
  unfold startPress
  split
  · exact startLifter_inhibit l none .rear old
  · unfold resumeFromRear
    split
    · next taken => exact (Operates.refl.resumeLifter taken).inhibit old
    · exact old
  · exact old

theorem packersInTurn_body (b : Bool) {f : Stream → State → State} (step : ∀ st x, Operates x (f st x)) (s : State) :
    (packersInTurn b f s).body = s.body := by
  unfold packersInTurn
  split
  · split
    · exact ((step _ _).body.trans (step _ _).body).trans rfl
    · exact ((step _ _).body.trans (step _ _).body).trans rfl
  · exact (step _ _).body.trans (step _ _).body

theorem decideResumeBody_inhibit (old : InhibitLaw s) : InhibitLaw (decideResumeBody s).1 := by
  unfold decideResumeBody
  split
  · split
    · exact old
    · have running := Operates.refl (s := s.withBody { s.body with state := .running }) |>.evaluateGrants
      exact old.withBody ((withBody_sameTags running).trans (packersInTurn_sameTags _
          (fun st _ => Operates.refl.unhaltPacker st) _))
        ((packersInTurn_body _ (fun st _ => Operates.refl.unhaltPacker st) _).trans running.body)
  · exact old

theorem decideVehicleData_inhibit (d : List Byte) (old : InhibitLaw s) : InhibitLaw (decideVehicleData d s).1 := by
  unfold decideVehicleData
  split
  · next v _ =>
    have handed := (Operates.refl (s := s.withBody
      { s.body with
        vehicle := some v, lastAccepted := some s.bodyTimer, fresh := true, clockSeconds := v.clock,
        clockMillis := 0 })).handEngineChange (effectiveEngine s.body)
    have done := Operates.ite (p := holdSpeed < v.speed) (fun _ => handed.holdBoth .speed) (fun _ => handed)
    exact old.withBody (withBody_sameTags done) done.body
  · exact old

theorem decideUnloadComplete_inhibit (d : List Byte) (old : InhibitLaw s) :
    InhibitLaw (decideUnloadComplete d s).1 := by
  unfold decideUnloadComplete
  split
  · split
    · exact old
    · next st _ _ _ =>
      refine old.withBody (v := { s.body with tailgateCycled := s.body.tailgateCycled.set st false }) ?_ ?_
      · exact Only.sameTags (c := [.compartments, .packers, .body, .ports]) ((((withCompartment_only s st _).both
          (withPacker_only _ _ _) (c := [.compartments, .packers, .body, .ports]) (by decide) (by decide)).both
          (withBody_only _ _) (fun q h => h) (by decide)).both (evaluateLimits_only _) (fun q h => h) (by decide))
          (by decide)
      · exact (evaluateLimits_only _).same .body (by decide)
  · exact old

theorem bodyResetState_inhibit (s : State) : InhibitLaw (bodyResetState s) := by
  have blocks : InhibitLaw (resetBlocks (resetLift .right (resetLift .left s))) := evaluateInhibit_inhibit _
  exact (blocks.of_only (withPorts_only _ _) (by decide) (by decide)).of_only (withLoader_only _ _) (by decide)
    (by decide)

theorem applySettings_body (x : Settings) (s : State) : (applySettings x s).body = s.body := by
  have same (y : State) : (evaluateLimits y).body = y.body := (evaluateLimits_only y).same .body (by decide)
  simp only [applySettings, same, withAccess_body, withPorts_body, withScan_body, withTags_body, withBodyLimit_body,
    withCompartments_body, withPackers_body, withBanks_body, withLifters_body]

theorem readPart_inhibit (ok : Bool) (old : InhibitLaw s) : InhibitLaw (readPart ok s) := by
  have latch {x : State} (e : Event) (kept : InhibitLaw x) : InhibitLaw (latchAll e x) :=
    kept.of_only (latchAll_only e x) (by decide) (by decide)
  have load {x : State} (v : LoadState) (kept : InhibitLaw x) : InhibitLaw (x.withLoad v) :=
    kept.of_only (withLoader_only x _) (by decide) (by decide)
  have calib (v : CalStore) : InhibitLaw (s.withCalib v) := old.of_only (withCalib_only s v) (by decide) (by decide)
  have applied (x : Settings) : InhibitLaw (applySettings x s) :=
    old.of_sameTags (applySettings_sameTags x s) (applySettings_body x s)
  have settings (good : Bool) : InhibitLaw (loadSettings good s) := by
    cases good
    · exact latch _ (applied _)
    · exact applied _
  have calibration (l : Lifter) (good : Bool) : InhibitLaw (loadCalibration l good s) := by
    cases good
    · exact latch _ (calib _)
    · exact calib _
  unfold readPart
  split
  · exact load _ (settings _)
  · exact load _ (calibration _ _)
  · exact load _ (calibration _ _)
  · exact load _ (calib _)
  · exact leaveStarting_inhibit (calib _)
  · exact old

/-- Every command keeps the inhibit law: those that reach the tailgate's reading or a context evaluate it, the others
leave it. -/
theorem exec_inhibit {i : Instr} (h : exec i s = .next t) (old : InhibitLaw s) : InhibitLaw t := by
  by_cases reset : isPowerReset i = true
  · obtain rfl | ⟨_, _, _, _, rfl⟩ := powerReset_cases reset h
    · exact old
    · exact poweredOn_inhibit
  have body (v : Body) : SameTags s (s.withBody v) := Only.sameTags (withBody_only s v) (by decide)
  cases i
  case powerOnReset | resetLineAssert | resetLineRelease => simp [isPowerReset] at reset
  case startLift => cases h; exact serve_keeps inhibit_blind (fun _ => decideStartLift_inhibit _ _) old
  case bodyReset => cases h; exact serve_keeps inhibit_blind (fun _ _ => bodyResetState_inhibit _) old
  case resumeBody => cases h; exact serve_keeps inhibit_blind (fun _ => decideResumeBody_inhibit) old
  case vehicleData => cases h; exact serve_keeps inhibit_blind (fun _ => decideVehicleData_inhibit _) old
  case unloadComplete => cases h; exact serve_keeps inhibit_blind (fun _ => decideUnloadComplete_inhibit _) old
  case returnTimeLimit => exact (returnTimeLimit_ends h).inhibit old
  case ringConversionComplete => exact (ringConversionComplete_ends h).inhibit old
  case rearStartPress l =>
    cases h
    have pressed := (Operates.refl.unit (l := l) { s.lifter l with startPressed := true } (by exact rfl)).inhibit old
    split
    · exact old
    · dsimp only
      split
      · exact pressed
      · exact startPress_inhibit l pressed
  case inputLineChange change =>
    cases change <;> cases h
    · exact old.withBody (body _) (withBody_body s _)
    · exact evaluateInhibit_inhibit _
    · exact old.withBody (body _) (withBody_body s _)
    · exact old.of_only (withCalib_only s _) (by decide) (by decide)
  case estopReadingActive =>
    have kept : InhibitLaw (s.withBody { s.body with estop := settled true }) := old.withBody (body _) (withBody_body s _)
    cases h
    split
    · dsimp only
      split
      · exact kept.withBody (enterHalted_sameTags _) (enterHalted_body _)
      · exact kept
    · exact old
  case estopReadingReleased =>
    cases h
    split
    · exact old.withBody (body _) (withBody_body s _)
    · exact old
  case tailgateReadingNotClosed =>
    cases h
    split
    · exact evaluateInhibit_inhibit _
    · exact old
  case tailgateReadingClosed =>
    cases h
    split
    · exact evaluateInhibit_inhibit _
    · exact old
  case stepReadingOccupied l =>
    cases h
    split
    · have held := (Operates.refl (s := s.withBody { s.body with steps := s.body.steps.set l (settled true) })).holdLifter
        l .step
      exact old.withBody (withBody_sameTags held) held.body
    · exact old
  case stepReadingFree l =>
    cases h
    split
    · exact old.withBody (body _) (withBody_body s _)
    · exact old
  case vehicleFreshnessExpiry =>
    cases h
    split
    · have expired := (((Operates.refl (s := s.withBody { s.body with fresh := false })).latch .vehicleDataStale).holdBoth
        .speed).handEngineChange (effectiveEngine s.body)
      exact old.withBody (withBody_sameTags expired) expired.body
    · exact old
  case routeClockSecond =>
    cases h
    split
    · exact old.withBody (body _) (withBody_body s _)
    · exact old
  case loadPartRead ok =>
    cases h
    split
    · exact old
    · exact readPart_inhibit ok old
  case bodyResetPassEnd =>
    cases h
    split
    · exact leaveStarting_inhibit old
    · exact old
  all_goals exact old.of_sameTags (exec_sameTags rfl h) ((exec_only h).same .body (by simp [parts]))

/-! ### The limit-reached flags (R84) -/

theorem limitReachedNow_iff (st : Stream) (s : State) : limitReachedNow st s = true ↔
    (s.compartment st).limit ≤ (s.compartment st).payload
      ∨ s.bodyLimit ≤ s.compartments.residual.payload + s.compartments.recycle.payload := by
  simp only [limitReachedNow, Bool.or_eq_true, decide_eq_true_eq]
  rfl

theorem evaluateLimits_limits (s : State) : LimitLaw (evaluateLimits s) := by
  have compartments : (evaluateLimits s).compartments = _ := (latchWhen_only _ _ _).same .compartments (by decide)
  have limit : (evaluateLimits s).bodyLimit = s.bodyLimit := (evaluateLimits_only s).same .bodyLimit (by decide)
  intro st
  rw [State.compartment, compartments, limit]
  cases st
  · exact limitReachedNow_iff .residual s
  · exact limitReachedNow_iff .recycle s

theorem LimitLaw.of_only {c : List Field} (old : LimitLaw s) (h : Only c s t) (compartments : Field.compartments ∉ c)
    (limit : Field.bodyLimit ∉ c) : LimitLaw t := by
  have same : t.compartments = s.compartments := h.same .compartments compartments
  have sameLimit : t.bodyLimit = s.bodyLimit := h.same .bodyLimit limit
  simpa only [LimitLaw, State.compartment, same, sameLimit] using old

theorem Operates.limits (h : Operates s t) (old : LimitLaw s) : LimitLaw t := by
  induction h with
  | refl => exact old
  | fill _ st v ih =>
    intro su
    have same := ih su
    cases st <;> cases su <;> exact same
  | flow _ _ ih | lifter _ _ _ _ ih | packer _ _ _ _ ih | scan _ _ _ ih | weigh _ _ _ ih | latch _ _ ih => exact ih

theorem endLift_limits (how : Ending) (l : Lifter) (old : LimitLaw s) : LimitLaw (endLift how l s) := by
  unfold endLift
  split
  · exact old
  · refine LimitLaw.of_only (c := [.lifters, .body]) ?_ (endContext_only l _) (by decide) (by decide)
    exact evaluateLimits_limits _

theorem Ends.limits (h : Ends s t) (old : LimitLaw s) : LimitLaw t := by
  induction h with
  | refl => exact old
  | operates _ k ih => exact k.limits ih
  | ended _ how l ih => exact endLift_limits how l ih

theorem limits_blind {x y : State} (h : Only [.ports] x y) (old : LimitLaw x) : LimitLaw y :=
  old.of_only h (by decide) (by decide)

/-- The blocks that a body reset sets after the lifts have ended. -/
abbrev blockParts : List Field := [.lifters, .tags, .body, .flow, .packers, .scan, .weigh]

theorem resetBlocks_parts (s : State) : Only blockParts s (resetBlocks s) := by
  have own : ∀ q ∈ blockParts, q ∈ blockParts := fun _ h => h
  refine Only.both (a := blockParts) ?_ (evaluateInhibit_only _) own (by decide)
  refine Only.both (a := blockParts) ?_ (withWeigh_only _ _) own (by decide)
  refine Only.both (a := blockParts) ?_ (withScan_only _ _) own (by decide)
  refine Only.both (a := blockParts) ?_ (withPackers_only _ _) own (by decide)
  refine Only.both (a := blockParts) ?_ (withFlow_only _ _) own (by decide)
  exact (resetLifters_only s).both (withBody_only _ _) (by decide) (by decide)

theorem bodyResetState_parts (s : State) :
    Only (.ports :: .loader :: blockParts) (resetLift .right (resetLift .left s)) (bodyResetState s) :=
  ((resetBlocks_parts _).both (withPorts_only _ _) (c := .ports :: .loader :: blockParts) (by decide) (by decide)).both
    (withLoader_only _ _) (fun q h => h) (by decide)

theorem bodyResetState_limits (old : LimitLaw s) : LimitLaw (bodyResetState s) :=
  ((resetLift_ends (resetLift_ends .refl .left) .right).limits old).of_only (bodyResetState_parts s) (by decide)
    (by decide)

theorem readPart_limits (ok : Bool) (old : LimitLaw s) : LimitLaw (readPart ok s) := by
  have load {x : State} (v : LoadState) (kept : LimitLaw x) : LimitLaw (x.withLoad v) :=
    kept.of_only (withLoader_only x _) (by decide) (by decide)
  have calib (v : CalStore) : LimitLaw (s.withCalib v) := old.of_only (withCalib_only s v) (by decide) (by decide)
  have settings (good : Bool) : LimitLaw (loadSettings good s) := by
    cases good
    · exact limits_blind (latchAll_only _ _) (evaluateLimits_limits _)
    · exact evaluateLimits_limits _
  have calibration (l : Lifter) (good : Bool) : LimitLaw (loadCalibration l good s) := by
    cases good
    · exact limits_blind (latchAll_only _ _) (calib _)
    · exact calib _
  unfold readPart
  split
  · exact load _ (settings _)
  · exact load _ (calibration _ _)
  · exact load _ (calibration _ _)
  · exact load _ (calib _)
  · exact (calib _).of_only (leaveStarting_only _) (by decide) (by decide)
  · exact old

theorem exec_limits {i : Instr} (h : exec i s = .next t) (old : LimitLaw s) : LimitLaw t := by
  by_cases reset : isPowerReset i = true
  · obtain rfl | ⟨_, _, _, _, rfl⟩ := powerReset_cases reset h
    · exact old
    · exact poweredOn_limits
  cases i
  case powerOnReset | resetLineAssert | resetLineRelease => simp [isPowerReset] at reset
  case setPayloadLimits =>
    cases h
    refine serve_keeps limits_blind (fun x kept => ?_) old
    unfold decideSetPayloadLimits
    split
    · split
      · exact kept
      · exact evaluateLimits_limits _
    · exact kept
  case unloadComplete =>
    cases h
    refine serve_keeps limits_blind (fun x kept => ?_) old
    unfold decideUnloadComplete
    split
    · split
      · exact kept
      · exact evaluateLimits_limits _
    · exact kept
  case bodyReset => cases h; exact serve_keeps limits_blind (fun _ => bodyResetState_limits) old
  case returnTimeLimit => exact (returnTimeLimit_ends h).limits old
  case ringConversionComplete => exact (ringConversionComplete_ends h).limits old
  case loadPartRead ok =>
    cases h
    split
    · exact old
    · exact readPart_limits ok old
  all_goals exact old.of_only (exec_only h) (by simp [parts]) (by simp [parts])

/-- Settles O55: the three laws are kept by every command, by the queue's changes and by a millisecond. -/
theorem outputLawsKept : Obligations.OutputLawsKept := by
  intro s t attention inhibit limits h
  exact ⟨step_attention h attention,
    step_keeps (I := InhibitLaw) (fun only kept => kept.of_only only (by decide) (by decide)) exec_inhibit
      (fun _ kept => kept) h inhibit,
    step_keeps (I := LimitLaw) (fun only kept => kept.of_only only (by decide) (by decide)) exec_limits
      (fun _ kept => kept) h limits⟩

end Sys2Proof.Safety
end

section
/-! PROOFS. The journal's reservations and sequence numbers are kept by every step (O57). -/

namespace Sys2Proof.Safety

open Sys2Proof.Machine

variable {s t u : State} {p : Port} {d : List Byte} {l : Lifter}

/-! ### What the end of a lift does to the context and to the journal -/

/-- The record that the end of a lift writes, its sequence given at the write (R18, R174). -/
def endRecord (how : Ending) (l : Lifter) (c : LiftContext) (s : State) : Record :=
  buildRecord how l c (completionLookup c s).1 (completionLookup c s).2

theorem endRecord_lifter (how : Ending) (l : Lifter) (c : LiftContext) (s : State) :
    (endRecord how l c s).lifter = l := rfl

/-- The state in which the context of an ended lift still stands (R18 steps 1 to 3). -/
def booked (how : Ending) (l : Lifter) (c : LiftContext) (s : State) : State :=
  raisePayload c.stream (endRecord how l c s).dumpedMass
    (writeBack c.dumped (usedOf (endRecord how l c s)) (completionLookup c s).1
      (writeRecord (endRecord how l c s) (completionLookup c s).2))

theorem endLift_some (how : Ending) {c : LiftContext} (hc : s.context l = some c) :
    endLift how l s = endContext l (booked how l c s) := by
  simp only [endLift, hc]
  rfl

theorem endLift_none (how : Ending) (hc : s.context l = none) : endLift how l s = s := by
  simp only [endLift, hc]

theorem endContext_lifters (l : Lifter) (s : State) : (endContext l s).lifters = (s.withContext l none).lifters := rfl

theorem booked_lifters (how : Ending) (l : Lifter) (c : LiftContext) (s : State) :
    (booked how l c s).lifters = s.lifters := by
  have raised := (raisePayload_only c.stream (endRecord how l c s).dumpedMass
    (writeBack c.dumped (usedOf (endRecord how l c s)) (completionLookup c s).1
      (writeRecord (endRecord how l c s) (completionLookup c s).2))).same .lifters (by decide)
  have back := (writeBack_only c.dumped (usedOf (endRecord how l c s)) (completionLookup c s).1
      (writeRecord (endRecord how l c s) (completionLookup c s).2)).same .lifters (by decide)
  have found := (completionLookup_only c s).same .lifters (by decide)
  exact raised.trans (back.trans found)

/-- The lifter whose lift ends is IDLE, the other one is as it was. -/
theorem endLift_lifter (how : Ending) (l : Lifter) (s : State) (m : Lifter) :
    (endLift how l s).lifter m = if m = l then { s.lifter l with context := none } else s.lifter m := by
  obtain hc | ⟨c, hc⟩ := Option.eq_none_or_eq_some (s.context l)
  · rw [endLift_none how hc]
    split
    · next same => subst same; rw [← show (s.lifter m).context = none from hc]
    · rfl
  · have lifters : (endLift how l s).lifters = ((booked how l c s).withContext l none).lifters := by
      rw [endLift_some how hc, endContext_lifters]
    rw [State.lifter, lifters, ← State.lifter, State.withContext]
    have before (x : Lifter) : (booked how l c s).lifter x = s.lifter x := by rw [State.lifter, booked_lifters]; rfl
    split
    · next same => subst same; rw [lifter_withLifter_self, before]
    · next other => rw [lifter_withLifter_of_ne _ _ _ _ other, before]

theorem endLift_context (how : Ending) (l : Lifter) (s : State) (m : Lifter) :
    (endLift how l s).context m = if m = l then none else s.context m := by
  rw [State.context, endLift_lifter]
  split <;> rfl

/-- One record after the others, the write position and the next sequence on, the reservation given back (R174). -/
theorem endLift_journal (how : Ending) {c : LiftContext} (hc : s.context l = some c) :
    (endLift how l s).journal =
      { slots := s.journal.slots ++
          [⟨⟨{ endRecord how l c s with sequence := s.journal.nextSequence }, .clean⟩, false⟩]
        writePos := (s.journal.writePos + 1) % journalSlots
        nextSequence := nextSeq s.journal.nextSequence
        reservations := s.journal.reservations.set l false } := by
  have found : (completionLookup c s).2.journal = s.journal := (completionLookup_only c s).same .journal (by decide)
  have raised := (raisePayload_only c.stream (endRecord how l c s).dumpedMass
    (writeBack c.dumped (usedOf (endRecord how l c s)) (completionLookup c s).1
      (writeRecord (endRecord how l c s) (completionLookup c s).2))).same .journal (by decide)
  have back := (writeBack_only c.dumped (usedOf (endRecord how l c s)) (completionLookup c s).1
      (writeRecord (endRecord how l c s) (completionLookup c s).2)).same .journal (by decide)
  rw [endLift_some how hc]
  refine (((endContext_only l _).same .journal (by decide) : _).trans (Eq.trans raised back)).trans ?_
  rw [← found]
  rfl

/-! ### Reservations (R171) -/

/-- The law looks at which lifters hold a context, at the reservations and at the number of records. -/
theorem ReservationLaw.congr (old : ReservationLaw s) (contexts : ∀ l, t.context l = none ↔ s.context l = none)
    (reservations : t.journal.reservations = s.journal.reservations)
    (count : t.journal.slots.length ≤ s.journal.slots.length) : ReservationLaw t := by
  obtain ⟨held, capacity⟩ := old
  refine ⟨fun l => ?_, ?_⟩
  · rw [reservations, held, ne_eq, ne_eq, contexts]
  · rw [reservations]; omega

theorem ReservationLaw.of_sameTags (old : ReservationLaw s) (contexts : SameTags s t) (journal : t.journal = s.journal) :
    ReservationLaw t := old.congr contexts.idle (by rw [journal]) (by rw [journal])

theorem Operates.journal (h : Operates s t) : t.journal = s.journal := by
  induction h with
  | refl => rfl
  | flow _ _ ih | lifter _ _ _ _ ih | packer _ _ _ _ ih | fill _ _ _ ih | scan _ _ _ ih | weigh _ _ _ ih
  | latch _ _ ih => exact ih

theorem Operates.reservations (h : Operates s t) (old : ReservationLaw s) : ReservationLaw t :=
  old.of_sameTags h.sameTags h.journal

/-- A journal count before and after a reservation is set. -/
theorem reservationCount_set (r : PerLifter Bool) (l : Lifter) (b : Bool) :
    (r.set l b).left.toNat + (r.set l b).right.toNat + (r.get l).toNat = r.left.toNat + r.right.toNat + b.toNat := by
  cases l <;> simp only [PerLifter.set, PerLifter.get] <;> omega

theorem endLift_reservations (how : Ending) (l : Lifter) (old : ReservationLaw s) :
    ReservationLaw (endLift how l s) := by
  obtain hc | ⟨c, hc⟩ := Option.eq_none_or_eq_some (s.context l)
  · rw [endLift_none how hc]; exact old
  · obtain ⟨held, capacity⟩ := old
    have reserved : s.journal.reservations.get l = true := (held l).mpr (by simp [hc])
    have moved := reservationCount_set s.journal.reservations l false
    rw [reserved] at moved
    refine ⟨fun m => ?_, ?_⟩
    · rw [endLift_journal how hc, endLift_context]
      by_cases same : m = l
      · subst same; simp [PerLifter.get_set_self]
      · simp only [if_neg same]
        rw [PerLifter.get_set_of_ne _ _ _ _ same]
        exact held m
    · rw [endLift_journal how hc]
      simp only [List.length_append, List.length_singleton]
      simp only [Bool.toNat_true, Bool.toNat_false] at moved
      omega

theorem Ends.reservations (h : Ends s t) (old : ReservationLaw s) : ReservationLaw t := by
  induction h with
  | refl => exact old
  | operates _ k ih => exact k.reservations ih
  | ended _ how l ih => exact endLift_reservations how l ih

/-! ### Sequences (R174) -/

/-- Sequence numbers from the oldest to the newest, each followed by its successor, the last one by the next. -/
structure Chained (q : List Nat) (following : Nat) : Prop where
  next : 1 ≤ following ∧ following ≤ 4294967295
  range : ∀ n ∈ q, 1 ≤ n ∧ n ≤ 4294967295
  consecutive : ∀ i a b, q[i]? = some a → q[i + 1]? = some b → b = nextSeq a
  newest : ∀ n, q.getLast? = some n → following = nextSeq n

/-- The sequence numbers of the records, from the oldest to the newest. -/
def sequences (s : State) : List Nat := s.journal.slots.map slotSequence

theorem sequenceLaw_iff : SequenceLaw s ↔ Chained (sequences s) s.journal.nextSequence := by
  constructor
  · rintro ⟨next, range, consecutive, newest⟩
    refine ⟨next, fun n hn => ?_, fun i a b ha hb => ?_, fun n hn => ?_⟩
    · obtain ⟨w, hw, rfl⟩ := List.mem_map.mp hn
      exact range w hw
    · rw [sequences, List.getElem?_map, Option.map_eq_some_iff] at ha hb
      obtain ⟨v, hv, rfl⟩ := ha
      obtain ⟨w, hw, rfl⟩ := hb
      exact consecutive i v w hv hw
    · rw [sequences, List.getLast?_map, Option.map_eq_some_iff] at hn
      obtain ⟨w, hw, rfl⟩ := hn
      exact newest w hw
  · rintro ⟨next, range, consecutive, newest⟩
    refine ⟨next, fun w hw => range _ (List.mem_map_of_mem hw), fun i v w hv hw => consecutive i _ _ ?_ ?_,
      fun w hw => newest _ ?_⟩
    · rw [sequences, List.getElem?_map, hv]; rfl
    · rw [sequences, List.getElem?_map, hw]; rfl
    · rw [sequences, List.getLast?_map, hw]; rfl

theorem nextSeq_range {n : Nat} (h : 1 ≤ n ∧ n ≤ 4294967295) : 1 ≤ nextSeq n ∧ nextSeq n ≤ 4294967295 := by
  unfold nextSeq sequenceCount
  split <;> omega

theorem Chained.drop {q : List Nat} {n : Nat} (h : Chained q n) (k : Nat) : Chained (q.drop k) n := by
  obtain ⟨next, range, consecutive, newest⟩ := h
  refine ⟨next, fun m hm => range m (List.mem_of_mem_drop hm), fun i a b ha hb => ?_, fun m hm => newest m ?_⟩
  · rw [List.getElem?_drop] at ha hb
    exact consecutive (k + i) a b ha hb
  · rw [List.getLast?_drop] at hm
    split at hm
    · cases hm
    · exact hm

theorem Chained.append {q : List Nat} {n : Nat} (h : Chained q n) : Chained (q ++ [n]) (nextSeq n) := by
  obtain ⟨next, range, consecutive, newest⟩ := h
  refine ⟨nextSeq_range next, fun m hm => ?_, fun i a b ha hb => ?_, fun m hm => ?_⟩
  · obtain old | new := List.mem_append.mp hm
    · exact range m old
    · rw [List.mem_singleton.mp new]; exact next
  · have inside : i < q.length := by
      have := (List.getElem?_eq_some_iff.mp hb).1
      simp only [List.length_append, List.length_singleton] at this
      omega
    rw [List.getElem?_append_left inside] at ha
    by_cases last : i + 1 < q.length
    · rw [List.getElem?_append_left last] at hb
      exact consecutive i a b ha hb
    · have end_ : i + 1 = q.length := by omega
      rw [end_, List.getElem?_concat_length] at hb
      cases hb
      refine newest a ?_
      rw [List.getLast?_eq_getElem?, ← end_]
      exact ha
  · rw [List.getLast?_concat] at hm
    cases hm
    rfl

theorem Operates.sequences (h : Operates s t) (old : SequenceLaw s) : SequenceLaw t := by
  rw [sequenceLaw_iff, Safety.sequences, h.journal]
  exact sequenceLaw_iff.mp old

theorem endLift_sequences (how : Ending) (l : Lifter) (old : SequenceLaw s) : SequenceLaw (endLift how l s) := by
  obtain hc | ⟨c, hc⟩ := Option.eq_none_or_eq_some (s.context l)
  · rw [endLift_none how hc]; exact old
  · rw [sequenceLaw_iff, sequences, endLift_journal how hc]
    simp only [List.map_append, List.map_cons, List.map_nil]
    exact (sequenceLaw_iff.mp old).append

theorem Ends.sequences (h : Ends s t) (old : SequenceLaw s) : SequenceLaw t := by
  induction h with
  | refl => exact old
  | operates _ k ih => exact k.sequences ih
  | ended _ how l ih => exact endLift_sequences how l ih

theorem SequenceLaw.of_journal (old : SequenceLaw s) (same : t.journal = s.journal) : SequenceLaw t := by
  rw [sequenceLaw_iff, sequences, same]
  exact sequenceLaw_iff.mp old

/-! ### Deliveries -/

/-- Reads of records change neither their number nor their sequences, nor the reservations. -/
structure RecordsKept (s t : State) : Prop where
  sequences : sequences t = sequences s
  next : t.journal.nextSequence = s.journal.nextSequence
  reservations : t.journal.reservations = s.journal.reservations

theorem RecordsKept.refl (s : State) : RecordsKept s s := ⟨rfl, rfl, rfl⟩
theorem RecordsKept.trans (h : RecordsKept s t) (k : RecordsKept t u) : RecordsKept s u :=
  ⟨k.sequences.trans h.sequences, k.next.trans h.next, k.reservations.trans h.reservations⟩

/-- A slot written anew with the same sequence. -/
theorem map_slotSequence_set {x : List JournalSlot} {i : Nat} {v w : JournalSlot} (h : x[i]? = some w)
    (same : slotSequence v = slotSequence w) : (x.set i v).map slotSequence = x.map slotSequence := by
  refine List.ext_getElem? fun j => ?_
  rw [List.getElem?_map, List.getElem?_map, List.getElem?_set]
  split
  · next here =>
    subst here
    obtain ⟨inside, -⟩ := List.getElem?_eq_some_iff.mp h
    rw [if_pos inside, h, Option.map_some, Option.map_some, same]
  · rfl

theorem deliver_recordsKept (i : Nat) (s : State) : RecordsKept s (deliver i s).2 := by
  have corrected (x : State) : (countJournalCorrection x).journal = x.journal :=
    (countJournalCorrection_only x).same .journal (by decide)
  unfold deliver
  split
  · exact .refl s
  · next w found =>
    split
    · exact .refl s
    · split
      · exact .refl s
      · refine ⟨?_, ?_, ?_⟩
        · rw [sequences, corrected]; exact map_slotSequence_set found rfl
        · rw [corrected]; rfl
        · rw [corrected]; rfl
      · exact ⟨map_slotSequence_set found rfl, rfl, rfl⟩

theorem deliverFrom_recordsKept (n i : Nat) (s : State) : RecordsKept s (deliverFrom n i s).2 := by
  induction n generalizing i s with
  | zero => exact .refl s
  | succ n ih =>
    have first := deliver_recordsKept i s
    simp only [deliverFrom]
    generalize deliver i s = x at first ⊢
    obtain ⟨r, y⟩ := x
    cases r with
    | none => exact first
    | some r => exact first.trans (ih _ y)

theorem decideReadJournal_recordsKept {x : Decision} (h : decideReadJournal d s = x) : RecordsKept s x.1 := by
  obtain same | ⟨n, count, r, read, same⟩ := decideReadJournal_cases h <;> rw [same]
  · exact .refl s
  · obtain ⟨first, found⟩ : ∃ y, firstDelivered s.journal n = y := exists_eq'
    have read' := read.symm.trans (journalRead_of_first count found)
    clear h read same
    subst read'
    cases first with
    | none => exact .refl s
    | some i => exact deliverFrom_recordsKept _ i s

/-! ### Both laws -/

/-- The two laws of the journal together. -/
def JournalLaws (s : State) : Prop := ReservationLaw s ∧ SequenceLaw s

theorem JournalLaws.of_recordsKept (old : JournalLaws s) (contexts : SameTags s t) (kept : RecordsKept s t) :
    JournalLaws t := by
  obtain ⟨reservations, chained⟩ := old
  refine ⟨reservations.congr contexts.idle kept.reservations (Nat.le_of_eq ?_), ?_⟩
  · have count := congrArg List.length kept.sequences
    simpa only [sequences, List.length_map] using count
  · rw [sequenceLaw_iff, kept.sequences, kept.next]
    exact sequenceLaw_iff.mp chained

theorem JournalLaws.of_sameTags (old : JournalLaws s) (contexts : SameTags s t) (journal : t.journal = s.journal) :
    JournalLaws t := ⟨old.1.of_sameTags contexts journal, old.2.of_journal journal⟩

theorem JournalLaws.of_only {c : List Field} (old : JournalLaws s) (h : Only c s t) (lifters : Field.lifters ∉ c)
    (journal : Field.journal ∉ c) : JournalLaws t := old.of_sameTags (Only.sameTags h lifters) (h.same .journal journal)

theorem Operates.journalLaws (h : Operates s t) (old : JournalLaws s) : JournalLaws t :=
  old.of_sameTags h.sameTags h.journal

theorem Ends.journalLaws (h : Ends s t) (old : JournalLaws s) : JournalLaws t :=
  ⟨h.reservations old.1, h.sequences old.2⟩

theorem journal_blind {x y : State} (h : Only [.ports] x y) (old : JournalLaws x) : JournalLaws y :=
  old.of_only h (by decide) (by decide)

/-- A request whose owner's decision must not be written out (`serve_keeps` for a decision that is a variable). -/
theorem serve_keeps_of {I : State → Prop} (blind : ∀ {x y}, Only [.ports] x y → I x → I y) {k : Kind} {n : Byte}
    {owner : State → Decision} (decides : ∀ x y, owner x = y → I x → I y.1) (old : I s) : I (serve k p n d owner s) := by
  refine serve_keeps blind (fun x kept => ?_) old
  exact decides x _ rfl kept

theorem acknowledge_journalLaws {x : Decision} (h : decideAcknowledgeJournal d s = x) (old : JournalLaws s) :
    JournalLaws x.1 := by
  obtain zero | acknowledged := decideAcknowledgeJournal_cases h
  · rw [zero]; exact old
  · obtain ⟨y, answered⟩ := acknowledge_cases acknowledged
    rw [answered]
    cases y with
    | held i =>
      refine ⟨old.1.congr (fun _ => Iff.rfl) rfl ?_, ?_⟩
      · exact (List.length_drop (i := i + 1) (l := s.journal.slots)).trans_le (Nat.sub_le _ _)
      · have dropped := (sequenceLaw_iff.mp old.2).drop (i + 1)
        rw [sequences, ← List.map_drop] at dropped
        exact sequenceLaw_iff.mpr dropped
    | older => exact old
    | newer => exact old

/-! ### Lift start -/

/-- An accepted start before its first phase is entered (R7, R8): context, inhibit line, reservation and binding. -/
def admitted (l : Lifter) (arg : Option Stream) (tag : Option Nat) (entry : Option AccountEntry) (s : State) : State :=
  let s1 := makeReservation l (evaluateInhibit (s.withContext l (some (newContext l arg tag entry s))))
  if tag.isSome then emptyPending l s1 else s1

theorem acceptStart_eq (l : Lifter) (arg : Option Stream) (tag : Option Nat) (entry : Option AccountEntry) (s : State) :
    acceptStart l arg tag entry s = enterMotion l .raiseWeigh (admitted l arg tag entry s) := rfl

/-- What an admission leaves to its context alone. -/
theorem admitted_only (l : Lifter) (arg : Option Stream) (tag : Option Nat) (entry : Option AccountEntry) (s : State) :
    Only [.body, .journal, .ports, .tags] (s.withContext l (some (newContext l arg tag entry s)))
      (admitted l arg tag entry s) := by
  have made := (evaluateInhibit_only (s.withContext l (some (newContext l arg tag entry s)))).both
    (makeReservation_only l _) (c := [.body, .journal, .ports, .tags]) (by decide) (by decide)
  unfold admitted
  dsimp only
  split
  · exact made.both (withTags_only _ _) (fun q h => h) (by decide)
  · exact made

theorem admitted_context (l : Lifter) (arg : Option Stream) (tag : Option Nat) (entry : Option AccountEntry) (s : State)
    (m : Lifter) : (admitted l arg tag entry s).context m =
      if m = l then some (newContext l arg tag entry s) else s.context m := by
  have same : (admitted l arg tag entry s).lifters = (s.withContext l (some (newContext l arg tag entry s))).lifters :=
    (admitted_only l arg tag entry s).same .lifters (by decide)
  rw [State.context, State.lifter, same, ← State.lifter, ← State.context]
  split
  · next same => subst same; exact context_withContext_self ..
  · next other => exact context_withContext_of_ne _ _ _ _ other

theorem makeReservation_journal (l : Lifter) (s : State) : (makeReservation l s).journal =
    { s.journal with reservations := s.journal.reservations.set l true } := by
  unfold makeReservation
  exact ((latchWhen_only _ _ _).same .journal (by decide) : _).trans
    ((latchWhen_only _ _ _).same .journal (by decide))

theorem admitted_journal (l : Lifter) (arg : Option Stream) (tag : Option Nat) (entry : Option AccountEntry) (s : State) :
    (admitted l arg tag entry s).journal = { s.journal with reservations := s.journal.reservations.set l true } := by
  have made := makeReservation_journal l (evaluateInhibit (s.withContext l (some (newContext l arg tag entry s))))
  have before : (evaluateInhibit (s.withContext l (some (newContext l arg tag entry s)))).journal = s.journal :=
    (evaluateInhibit_only _).same .journal (by decide)
  rw [before] at made
  unfold admitted
  dsimp only
  split
  · exact made
  · exact made

/-- A start of an IDLE lifter is refused, or its lookup allows it, every late check passes, and it is accepted. -/
theorem startLifter_cases (l : Lifter) (arg : Option Stream) (x : StartSource) (s : State) :
    (∃ r, (startLifter l arg x s).2 = refuseStart l x r s)
      ∨ (∃ r, (startLifter l arg x s).2 = refuseStart l x r (tagPermission l s).2)
      ∨ ∃ tag entry, (tagPermission l s).1 = .granted tag entry
        ∧ lateChecks (startStream l arg entry (tagPermission l s).2) (tagPermission l s).2 = none
        ∧ (startLifter l arg x s).2 = acceptStart l arg tag entry (tagPermission l s).2 := by
  unfold startLifter
  split
  · exact .inl ⟨_, rfl⟩
  · refine .inr ?_
    generalize tagPermission l s = y
    obtain ⟨r, y⟩ := y
    cases r with
    | refused r => exact .inl ⟨r, rfl⟩
    | granted tag entry =>
      dsimp only
      split
      · exact .inl ⟨_, rfl⟩
      · next passed => exact .inr ⟨tag, entry, rfl, passed, rfl⟩

theorem refuseStart_operates (l : Lifter) (x : StartSource) (r : Reason) (s : State) :
    Operates s (refuseStart l x r s) := (Operates.refl.unit _ (by exact rfl)).latch _

/-- What operations, the lookup of check 6 and the admission of an IDLE lifter keep, a lift start keeps. -/
theorem startLifter_keeps {I : State → Prop} (operates : ∀ {x y}, Operates x y → I x → I y) (l : Lifter)
    (arg : Option Stream) (x : StartSource) (looked : I (tagPermission l s).2)
    (admits : ∀ tag entry, (tagPermission l s).1 = .granted tag entry →
      lateChecks (startStream l arg entry (tagPermission l s).2) (tagPermission l s).2 = none →
      I (admitted l arg tag entry (tagPermission l s).2)) (old : I s) : I (startLifter l arg x s).2 := by
  obtain ⟨r, refused⟩ | ⟨r, refused⟩ | ⟨tag, entry, granted, passed, accepted⟩ := startLifter_cases l arg x s
  · rw [refused]; exact operates (refuseStart_operates l x r s) old
  · rw [refused]; exact operates (refuseStart_operates l x r _) looked
  · rw [accepted, acceptStart_eq]
    exact operates (Operates.refl.enterMotion l .raiseWeigh) (admits tag entry granted passed)

/-- What the start of an IDLE lifter keeps, Start Lift keeps. -/
theorem decideStartLift_keeps {I : State → Prop}
    (starts : ∀ l arg x, s.context l = none → I s → I (startLifter l arg x s).2) (p : Port) (d : List Byte) (old : I s) :
    I (decideStartLift p d s).1 := by
  unfold decideStartLift
  split
  · next l arg _ _ =>
    split
    · next idle =>
      have started := starts l arg (.port p) (lifterIdle_eq_true.mp idle) old
      generalize startLifter l arg (.port p) s = x at started ⊢
      obtain ⟨r, y⟩ := x
      cases r <;> exact started
    · exact old
  · exact old

/-- What operations and the start of an IDLE lifter keep, a rear start press keeps. -/
theorem rearStartPress_keeps {I : State → Prop} (operates : ∀ {x y}, Operates x y → I x → I y)
    (starts : ∀ {x : State} l arg source, x.context l = none → I x → I (startLifter l arg source x).2) {l : Lifter}
    (h : exec (.rearStartPress l) s = .next t) (old : I s) : I t := by
  have pressed := operates (Operates.refl.unit (l := l) { s.lifter l with startPressed := true } (by exact rfl)) old
  cases h
  split
  · exact old
  · dsimp only
    split
    · exact pressed
    · unfold startPress
      split
      · next idle => exact starts l none .rear (Option.map_eq_none_iff.mp idle) pressed
      · unfold resumeFromRear
        split
        · next taken => exact operates (Operates.refl.resumeLifter taken) pressed
        · exact pressed
      · exact pressed

/-- The last check of a lift start leaves room for its reservation (R4 check 9, R171). -/
theorem lateChecks_room {st : Stream} (h : lateChecks st s = none) : journalCount s.journal < journalSlots := by
  unfold lateChecks at h
  split at h
  · cases h
  · split at h
    · cases h
    · split at h
      · cases h
      · next room => exact Nat.lt_of_not_le room

/-- The admission of an IDLE lifter below the journal's capacity takes one reservation (R7, R171). -/
theorem admitted_journalLaws (l : Lifter) (arg : Option Stream) (tag : Option Nat) (entry : Option AccountEntry)
    (idle : s.context l = none) (room : journalCount s.journal < journalSlots) (old : JournalLaws s) :
    JournalLaws (admitted l arg tag entry s) := by
  obtain ⟨⟨held, capacity⟩, chained⟩ := old
  have free : s.journal.reservations.get l = false := by
    rw [← Bool.not_eq_true, held, idle]; simp
  refine ⟨⟨fun m => ?_, ?_⟩, ?_⟩
  · rw [admitted_journal, admitted_context]
    by_cases same : m = l
    · subst same; simp [PerLifter.get_set_self]
    · rw [if_neg same, PerLifter.get_set_of_ne _ _ _ _ same]
      exact held m
  · have moved := reservationCount_set s.journal.reservations l true
    simp only [journalCount, reservationCount, journalSlots] at room
    rw [free] at moved
    rw [admitted_journal]
    simp only [Bool.toNat_true, Bool.toNat_false] at moved
    dsimp only
    omega
  · rw [sequenceLaw_iff, sequences, admitted_journal]
    exact sequenceLaw_iff.mp chained

theorem startLifter_journalLaws (l : Lifter) (arg : Option Stream) (x : StartSource) (idle : s.context l = none)
    (old : JournalLaws s) : JournalLaws (startLifter l arg x s).2 := by
  have looked : JournalLaws (tagPermission l s).2 := old.of_only (tagPermission_only l s) (by decide) (by decide)
  have contexts : SameTags s (tagPermission l s).2 := Only.sameTags (tagPermission_only l s) (by decide)
  exact startLifter_keeps Operates.journalLaws l arg x looked
    (fun tag entry _ passed => admitted_journalLaws l arg tag entry ((contexts.idle l).mpr idle) (lateChecks_room passed)
      looked) old

/-! ### Resets and the step -/

/-- The lifters after a body reset: the lifts ended, both valves off. -/
theorem bodyResetState_lifters (s : State) :
    (bodyResetState s).lifters = (resetLifters (resetLift .right (resetLift .left s))).lifters :=
  (evaluateInhibit_only _).same .lifters (by decide)

theorem bodyResetState_context (s : State) (l : Lifter) :
    (bodyResetState s).context l = (resetLift .right (resetLift .left s)).context l := by
  rw [State.context, State.lifter, bodyResetState_lifters, ← State.lifter, ← State.context]
  exact (context_withValves ..).trans (context_withValves ..)

theorem bodyResetState_journalLaws (old : JournalLaws s) : JournalLaws (bodyResetState s) :=
  ((resetLift_ends (resetLift_ends .refl .left) .right).journalLaws old).of_sameTags
    (fun l => by rw [bodyResetState_context]) ((bodyResetState_parts s).same .journal (by decide))

theorem poweredOn_journalLaws {held : Bool} {load : LoadState} {free : Nat} {e : Eeprom} :
    JournalLaws (poweredOn s held load free e) :=
  JournalLaws.of_sameTags ⟨resetIsLawful.reservations, resetIsLawful.sequences⟩
    (fun l => by rw [poweredOn_context, reset_context]) rfl

theorem exec_journalLaws {i : Instr} (h : exec i s = .next t) (old : JournalLaws s) : JournalLaws t := by
  by_cases reset : isPowerReset i = true
  · obtain rfl | ⟨_, _, _, _, rfl⟩ := powerReset_cases reset h
    · exact old
    · exact poweredOn_journalLaws
  cases i
  case powerOnReset | resetLineAssert | resetLineRelease => simp [isPowerReset] at reset
  case startLift =>
    cases h
    exact serve_keeps journal_blind
      (fun _ => decideStartLift_keeps (fun l arg x idle => startLifter_journalLaws l arg x idle) _ _) old
  case rearStartPress => exact rearStartPress_keeps Operates.journalLaws startLifter_journalLaws h old
  case bodyReset => cases h; exact serve_keeps journal_blind (fun _ => bodyResetState_journalLaws) old
  case readJournal =>
    cases h
    refine serve_keeps_of journal_blind (fun x y decides kept => ?_) old
    exact kept.of_recordsKept (Only.sameTags (decideReadJournal_only decides) (by decide))
      (decideReadJournal_recordsKept decides)
  case acknowledgeJournal =>
    cases h
    exact serve_keeps_of journal_blind (fun _ _ decides => acknowledge_journalLaws decides) old
  case returnTimeLimit => exact (returnTimeLimit_ends h).journalLaws old
  case ringConversionComplete => exact (ringConversionComplete_ends h).journalLaws old
  all_goals exact old.of_sameTags (exec_sameTags rfl h) ((exec_only h).same .journal (by simp [parts]))

/-- Settles O57: a reservation is taken with the context at a start and given back with it at the record; records are
added behind the newest and removed at the oldest only. -/
theorem journalLawsKept : Obligations.JournalLawsKept := by
  intro s t reservations sequences h
  exact step_keeps (I := JournalLaws) (fun only kept => kept.of_only only (by decide) (by decide)) exec_journalLaws
    (fun _ kept => kept.of_sameTags (.refl s) rfl) h ⟨reservations, sequences⟩

end Sys2Proof.Safety
end

section
/-! SUPPORT. The account table: what its reads leave (`Reads`), where a search by halving ends (`SearchDone`, `Gap`), and
what a lookup is in a table without error. Settles O36. -/

namespace Sys2Proof.Safety

open Sys2Proof.Machine

variable {s t u : State} {c : List Field} {tag i : Nat} {e : AccountEntry}

/-! ### Frames and latches -/

/-- Two states that agree in the fields that may differ are one. -/
theorem Only.closed (h : Only c s t) (k : ∀ q ∈ c, sameOn s t q) : t = s := by
  have all : ∀ q, sameOn s t q := fun q => by
    by_cases hq : q ∈ c
    · exact k q hq
    · exact h q hq
  have h1 : t.pending = s.pending := all .pending
  have h2 : t.freeIndex = s.freeIndex := all .freeIndex
  have h3 : t.resetHeld = s.resetHeld := all .resetHeld
  have h4 : t.bodyTimer = s.bodyTimer := all .bodyTimer
  have h5 : t.lifters = s.lifters := all .lifters
  have h6 : t.banks = s.banks := all .banks
  have h7 : t.body = s.body := all .body
  have h8 : t.flow = s.flow := all .flow
  have h9 : t.packers = s.packers := all .packers
  have h10 : t.compartments = s.compartments := all .compartments
  have h11 : t.bodyLimit = s.bodyLimit := all .bodyLimit
  have h12 : t.scan = s.scan := all .scan
  have h13 : t.weigh = s.weigh := all .weigh
  have h14 : t.calib = s.calib := all .calib
  have h15 : t.tags = s.tags := all .tags
  have h16 : t.journal = s.journal := all .journal
  have h17 : t.integrity = s.integrity := all .integrity
  have h18 : t.ports = s.ports := all .ports
  have h19 : t.access = s.access := all .access
  have h20 : t.loader = s.loader := all .loader
  cases s
  cases t
  simp only at h1 h2 h3 h4 h5 h6 h7 h8 h9 h10 h11 h12 h13 h14 h15 h16 h17 h18 h19 h20
  subst h1 h2 h3 h4 h5 h6 h7 h8 h9 h10 h11 h12 h13 h14 h15 h16 h17 h18 h19 h20
  rfl

theorem LatchedAll.of_quiet {x : Event} (old : LatchedAll x s) (h : PortsQuiet s t) : LatchedAll x t :=
  fun p => h.latches p _ (old p)

theorem latchWhen_quiet (b : Bool) (x : Event) (s : State) : PortsQuiet s (latchWhen b x s) := by
  unfold latchWhen
  split
  · exact latchAll_quiet x s
  · exact .refl s

/-- Operations of lifters and packers set latches only. -/
theorem Operates.quiet (h : Operates s t) : PortsQuiet s t := by
  induction h with
  | refl => exact .refl s
  | latch _ x ih => exact ih.trans (latchAll_quiet x _)
  | flow _ _ ih | lifter _ _ _ _ ih | packer _ _ _ _ ih | fill _ _ _ ih | scan _ _ _ ih | weigh _ _ _ ih =>
    exact ih.trans (.of_ports_eq rfl)

/-! ### One read -/

/-- The entries' contents in the order of the table. -/
def contents (s : State) : List AccountEntry := s.tags.table.map Stored.content

theorem contents_getElem? {w : Stored AccountEntry} (h : s.tags.table[i]? = some w) :
    (contents s)[i]? = some w.content := by rw [contents, List.getElem?_map, h]; rfl

theorem contents_length (s : State) : (contents s).length = s.tags.table.length := List.length_map _

/-- s after the entry e at an index has been repaired (R184). -/
def repaired (i : Nat) (e : AccountEntry) (s : State) : State :=
  countAccountCorrection (s.withTable (s.tags.table.set i ⟨e, .clean⟩))

/-- The four outcomes of a read of an entry (R183, R184). -/
theorem readEntry_cases (i : Nat) (s : State) :
    (s.tags.table[i]? = none ∧ readEntry i s = (.missing, s))
      ∨ (∃ e, s.tags.table[i]? = some ⟨e, .clean⟩ ∧ readEntry i s = (.good e, s))
      ∨ (∃ e, s.tags.table[i]? = some ⟨e, .single⟩ ∧ readEntry i s = (.good e, repaired i e s))
      ∨ ∃ e, s.tags.table[i]? = some ⟨e, .double⟩ ∧ readEntry i s = (.uncorrectable, s) := by
  unfold readEntry
  cases h : s.tags.table[i]? with
  | none => exact .inl ⟨rfl, rfl⟩
  | some w =>
    obtain ⟨e, health⟩ := w
    cases health with
    | clean => exact .inr (.inl ⟨e, rfl, rfl⟩)
    | single => exact .inr (.inr (.inl ⟨e, rfl, rfl⟩))
    | double => exact .inr (.inr (.inr ⟨e, rfl, rfl⟩))

theorem repaired_tags (i : Nat) (e : AccountEntry) (s : State) :
    (repaired i e s).tags = { s.tags with table := s.tags.table.set i ⟨e, .clean⟩ } := by
  unfold repaired countAccountCorrection
  exact (latchWhen_only _ _ _).same .tags (by decide)

theorem removeDamaged_tags (i : Nat) (s : State) :
    (removeDamaged i s).tags = { s.tags with table := s.tags.table.eraseIdx i } := rfl

/-- A table taken apart at an index. -/
theorem split_at {α : Type} {x : List α} {w : α} (h : x[i]? = some w) : ∃ a b, x = a ++ w :: b ∧ a.length = i := by
  obtain ⟨inside, rfl⟩ := List.getElem?_eq_some_iff.mp h
  exact ⟨x.take i, x.drop (i + 1), by simp, by simp [Nat.le_of_lt inside]⟩

theorem set_split {α : Type} (a b : List α) (v w : α) : (a ++ w :: b).set a.length v = a ++ v :: b := by simp

theorem eraseIdx_split {α : Type} (a b : List α) (w : α) : (a ++ w :: b).eraseIdx a.length = a ++ b := by
  rw [List.eraseIdx_append_of_length_le (Nat.le_refl _)]
  simp

/-- A repair keeps every content. -/
theorem repaired_contents {w : Stored AccountEntry} (h : s.tags.table[i]? = some w) :
    contents (repaired i w.content s) = contents s := by
  obtain ⟨a, b, split, rfl⟩ := split_at h
  simp [contents, repaired_tags, split]

/-! ### What reads of the table leave -/

/-- t is reached from s by reads of account entries: repairs of single errors, removals of damaged entries. -/
inductive Reads (s : State) : State → Prop
  | refl : Reads s s
  | repair {t : State} (h : Reads s t) (i : Nat) (e : AccountEntry) (found : t.tags.table[i]? = some ⟨e, .single⟩) :
      Reads s (repaired i e t)
  | remove {t : State} (h : Reads s t) (i : Nat) (e : AccountEntry) (found : t.tags.table[i]? = some ⟨e, .double⟩) :
      Reads s (removeDamaged i t)

theorem Reads.trans (h : Reads s t) (k : Reads t u) : Reads s u := by
  induction k with
  | refl => exact h
  | repair _ i e found ih => exact ih.repair i e found
  | remove _ i e found ih => exact ih.remove i e found

theorem Reads.readEntry (h : Reads s t) (i : Nat) : Reads s (readEntry i t).2 := by
  obtain ⟨-, read⟩ | ⟨e, -, read⟩ | ⟨e, found, read⟩ | ⟨e, -, read⟩ := readEntry_cases i t <;> rw [read]
  · exact h
  · exact h
  · exact h.repair i e found
  · exact h

theorem Reads.only (h : Reads s t) : Only tableParts s t := by
  induction h with
  | refl => exact Only.refl _ s
  | repair _ i e _ ih =>
    exact ih.both ((withTags_only _ _).both (countAccountCorrection_only _) (c := tableParts) (by decide) (by decide))
      (fun _ h => h) (by decide)
  | remove _ i e _ ih => exact ih.both (removeDamaged_only i _) (fun _ h => h) (by decide)

/-- The tag unit but for its table. -/
theorem Reads.tags (h : Reads s t) : t.tags = { s.tags with table := t.tags.table } := by
  induction h with
  | refl => rfl
  | repair _ i e _ ih => rw [repaired_tags, ih]
  | remove _ i e _ ih => rw [removeDamaged_tags, ih]

/-- Reads leave everything but the table, the correction counter and latches. -/
theorem Reads.frame (h : Reads s t) : ((t.withTable s.tags.table).withIntegrity s.integrity).withPorts s.ports = s := by
  have tags := h.tags
  refine Only.closed (c := tableParts) ((((h.only.both (withTags_only _ _) (fun _ h => h) (by decide)).both
    (withIntegrity_only _ _) (fun _ h => h) (by decide)).both (withPorts_only _ _) (fun _ h => h) (by decide))) ?_
  intro q hq
  simp only [List.mem_cons, List.not_mem_nil, or_false] at hq
  obtain rfl | rfl | rfl := hq
  · change { t.tags with table := s.tags.table } = s.tags
    rw [tags]
  · rfl
  · rfl

theorem Reads.contents (h : Reads s t) : (contents t).Sublist (contents s) := by
  induction h with
  | refl => exact List.Sublist.refl _
  | repair _ i e found ih => rw [repaired_contents found]; exact ih
  | remove _ i e found ih =>
    refine List.Sublist.trans ?_ ih
    exact (List.eraseIdx_sublist _ i).map _

theorem Reads.quiet (h : Reads s t) : PortsQuiet s t := by
  induction h with
  | refl => exact .refl s
  | repair _ i e _ ih => exact ih.trans ((latchWhen_quiet _ _ _).after rfl)
  | remove _ i e _ ih => exact ih.trans ((latchAll_quiet _ _).after rfl)

/-- The entries that are not damaged are kept. -/
theorem Reads.whole (h : Reads s t) :
    (t.tags.table.filter fun w => decide (w.health ≠ .double)).map Stored.content =
      (s.tags.table.filter fun w => decide (w.health ≠ .double)).map Stored.content := by
  induction h with
  | refl => rfl
  | repair _ i e found ih =>
    rw [← ih]
    obtain ⟨a, b, split, rfl⟩ := split_at found
    simp [repaired_tags, split]
  | remove _ i e found ih =>
    rw [← ih]
    obtain ⟨a, b, split, rfl⟩ := split_at found
    rw [removeDamaged_tags]
    dsimp only
    rw [split, eraseIdx_split]
    simp

/-- The entries with a single error. -/
def singles (s : State) : Nat := (s.tags.table.filter fun w => decide (w.health = .single)).length

theorem repaired_corrections (i : Nat) (e : AccountEntry) (s : State) :
    (repaired i e s).integrity =
      { s.integrity with accountCorrections := saturatingSucc 255 s.integrity.accountCorrections } := by
  unfold repaired countAccountCorrection
  exact (latchWhen_only _ _ _).same .integrity (by decide)

/-- Each repair is counted once, up to 255. -/
theorem Reads.counted (h : Reads s t) (fits : s.integrity.accountCorrections ≤ 255) :
    t.integrity.accountCorrections ≤ 255
      ∧ t.integrity.accountCorrections + singles t =
        min (255 + singles t) (s.integrity.accountCorrections + singles s) := by
  induction h with
  | refl => omega
  | @repair x _ i e found ih =>
    obtain ⟨a, b, split, rfl⟩ := split_at found
    have fewer : singles (repaired a.length e x) + 1 = singles x := by
      simp [singles, repaired_tags, split]
      omega
    rw [repaired_corrections]
    simp only [saturatingSucc]
    split <;> omega
  | @remove x _ i e found ih =>
    obtain ⟨a, b, split, rfl⟩ := split_at found
    have same : singles (removeDamaged a.length x) = singles x := by
      simp only [singles, removeDamaged_tags, split, eraseIdx_split]
      simp
    exact same ▸ ih

theorem Reads.journalCorrections (h : Reads s t) :
    t.integrity.journalCorrections = s.integrity.journalCorrections := by
  induction h with
  | refl => rfl
  | repair _ i e _ ih => rw [repaired_corrections]; exact ih
  | remove _ i e _ ih => exact ih

theorem Reads.length (h : Reads s t) : t.tags.table.length ≤ s.tags.table.length := by
  rw [← contents_length, ← contents_length]
  exact h.contents.length_le

/-- A removal sets ACCOUNT_DAMAGED (R186). -/
theorem Reads.damaged (h : Reads s t) : t.tags.table.length < s.tags.table.length → LatchedAll .accountDamaged t := by
  induction h with
  | refl => exact fun shorter => absurd shorter (Nat.lt_irrefl _)
  | repair _ i e _ ih =>
    intro shorter
    rw [repaired_tags, List.length_set] at shorter
    exact (ih shorter).of_quiet ((latchWhen_quiet _ _ _).after rfl)
  | remove _ i e _ _ => exact fun _ => latchAll_latchedAll _ _

/-- The correction that brings the counter to 255 sets CORRECTION_OVERFLOW (R184). -/
theorem Reads.overflow (h : Reads s t) (below : s.integrity.accountCorrections < 255) :
    t.integrity.accountCorrections = 255 → LatchedAll .correctionOverflow t := by
  induction h with
  | refl => exact fun full => absurd full (Nat.ne_of_lt below)
  | @repair t k i e _ ih =>
    intro full
    by_cases before : t.integrity.accountCorrections = 255
    · exact (ih before).of_quiet ((latchWhen_quiet _ _ _).after rfl)
    · have last : t.integrity.accountCorrections + 1 = 255 := by
        rw [repaired_corrections] at full
        simp only [saturatingSucc] at full
        split at full <;> omega
      have bumps : bumpsTo255 t.integrity.accountCorrections = true := by simp [bumpsTo255, top8, last]
      unfold repaired countAccountCorrection
      rw [latchWhen, if_pos]
      · exact latchAll_latchedAll _ _
      · exact bumps
  | remove _ i e _ ih => exact fun full => (ih full).of_quiet ((latchAll_quiet _ _).after rfl)

/-- Without errors a read leaves everything as it was. -/
theorem Reads.clean (h : Reads s t) (clean : CleanTable s) : t = s := by
  induction h with
  | refl => rfl
  | repair _ i e found ih =>
    subst ih
    cases clean _ (List.mem_of_getElem? found)
  | remove _ i e found ih =>
    subst ih
    cases clean _ (List.mem_of_getElem? found)

/-! ### Where a search ends (R185) -/

/-- What one search by halving has done when it ends with r in t. -/
structure SearchDone (tag : Nat) (s : State) (r : SearchEnd) (t : State) : Prop where
  reads : Reads s t
  contents : contents t = contents s
  found : ∀ i e, r = .found i e → t.tags.table[i]? = some ⟨e, .clean⟩ ∧ e.tag = tag
  damaged : ∀ i, r = .damaged i → ∃ e, t.tags.table[i]? = some ⟨e, .double⟩

/-- An absent end does nothing. -/
theorem SearchDone.absent (reads : Reads s t) (same : Safety.contents t = Safety.contents s) (i : Nat) :
    SearchDone tag s (.absent i) t :=
  ⟨reads, same, fun _ _ h => (by cases h), fun _ h => (by cases h)⟩

theorem SearchDone.after {r : SearchEnd} (h : SearchDone tag t r u) (reads : Reads s t)
    (same : Safety.contents t = Safety.contents s) : SearchDone tag s r u :=
  ⟨reads.trans h.reads, h.contents.trans same, h.found, h.damaged⟩

/-- A good read gives the entry of the index, which is then clean. -/
theorem readEntry_good (h : readEntry i s = (.good e, t)) :
    Reads s t ∧ contents t = contents s ∧ t.tags.table[i]? = some ⟨e, .clean⟩ := by
  have reads : Reads s (readEntry i s).2 := Reads.refl.readEntry i
  obtain ⟨-, read⟩ | ⟨e', found, read⟩ | ⟨e', found, read⟩ | ⟨e', -, read⟩ := readEntry_cases i s
    <;> rw [read] at h reads <;> cases h
  · exact ⟨reads, rfl, found⟩
  · refine ⟨reads, repaired_contents found, ?_⟩
    obtain ⟨inside, -⟩ := List.getElem?_eq_some_iff.mp found
    rw [repaired_tags, List.getElem?_set_self inside]

theorem searchFrom_done (n low high tag : Nat) (s : State) :
    SearchDone tag s (searchFrom n low high tag s).1 (searchFrom n low high tag s).2 := by
  induction n generalizing low high s with
  | zero => exact .absent .refl rfl low
  | succ n ih =>
    simp only [searchFrom]
    split
    · obtain ⟨-, read⟩ | ⟨e, -, read⟩ | ⟨e, -, read⟩ | ⟨e, found, read⟩ := readEntry_cases ((low + (high - 1)) / 2) s
      case inr.inr.inr =>
        rw [read]
        exact ⟨.refl, rfl, fun _ _ h => (by cases h), fun _ h => by cases h; exact ⟨e, found⟩⟩
      case inl => rw [read]; exact .absent .refl rfl low
      all_goals
        obtain ⟨reads, same, here⟩ := readEntry_good read
        rw [read]
        dsimp only
        split
        · next equal => exact ⟨reads, same, fun _ _ h => (by cases h; exact ⟨here, equal⟩), fun _ h => (by cases h)⟩
        · split
          · exact (ih _ _ _).after reads same
          · exact (ih _ _ _).after reads same
    · exact .absent .refl rfl low

/-- The table in the order of its tags (R148). -/
def Ordered (q : List AccountEntry) : Prop := q.Pairwise fun a b => a.tag < b.tag

theorem TableLaw.ordered (h : TableLaw s) : Ordered (contents s) := List.pairwise_map.mpr h.order

/-- The entries before an index have smaller tags. -/
def Below (tag : Nat) (q : List AccountEntry) (i : Nat) : Prop := ∀ j x, j < i → q[j]? = some x → x.tag < tag

/-- The entries from an index on have greater tags. -/
def Above (tag : Nat) (q : List AccountEntry) (i : Nat) : Prop := ∀ j x, i ≤ j → q[j]? = some x → tag < x.tag

/-- The place a tag that is not in the table would have (R148). -/
structure Gap (tag : Nat) (q : List AccountEntry) (i : Nat) : Prop where
  inside : i ≤ q.length
  below : Below tag q i
  above : Above tag q i

theorem Ordered.lt {q : List AccountEntry} (h : Ordered q) {i j : Nat} {x y : AccountEntry} (hi : q[i]? = some x)
    (hj : q[j]? = some y) (lt : i < j) : x.tag < y.tag := by
  obtain ⟨_, rfl⟩ := List.getElem?_eq_some_iff.mp hi
  obtain ⟨_, rfl⟩ := List.getElem?_eq_some_iff.mp hj
  exact List.pairwise_iff_getElem.mp h i j _ _ lt

theorem Ordered.below {q : List AccountEntry} (h : Ordered q) {m : Nat} {x : AccountEntry} (hm : q[m]? = some x)
    (small : x.tag < tag) : Below tag q (m + 1) := fun j y lt hj => by
  obtain before | rfl : j < m ∨ j = m := by omega
  · exact Nat.lt_trans (h.lt hj hm before) small
  · rw [hm] at hj; cases hj; exact small

theorem Ordered.above {q : List AccountEntry} (h : Ordered q) {m : Nat} {x : AccountEntry} (hm : q[m]? = some x)
    (great : tag < x.tag) : Above tag q m := fun j y le hj => by
  obtain after | rfl : m < j ∨ j = m := by omega
  · exact Nat.lt_trans great (h.lt hm hj after)
  · rw [hm] at hj; cases hj; exact great

theorem Gap.missing {q : List AccountEntry} (h : Gap tag q i) {x : AccountEntry} (hx : x ∈ q) : x.tag ≠ tag := by
  obtain ⟨j, hj⟩ := List.mem_iff_getElem?.mp hx
  obtain before | after := Nat.lt_or_ge j i
  · exact Nat.ne_of_lt (h.below j x before hj)
  · exact (Nat.ne_of_lt (h.above j x after hj)).symm

/-- A search that ends without the tag in an ordered table ends at its place. -/
theorem searchFrom_gap {n low high : Nat} {q : List AccountEntry} (same : contents s = q) (ordered : Ordered q)
    (fuel : high ≤ low + n) (order : low ≤ high) (fits : high ≤ q.length) (below : Below tag q low)
    (above : Above tag q high) (h : searchFrom n low high tag s = (.absent i, t)) : Gap tag q i := by
  induction n generalizing low high s with
  | zero =>
    cases h
    obtain rfl : high = i := by omega
    exact ⟨fits, below, above⟩
  | succ n ih =>
    simp only [searchFrom] at h
    split at h
    · next less =>
      have middle : (low + (high - 1)) / 2 < high := by omega
      have middle' : low ≤ (low + (high - 1)) / 2 := by omega
      generalize (low + (high - 1)) / 2 = m at h middle middle'
      obtain ⟨none, -⟩ | ⟨e, -, read⟩ | ⟨e, -, read⟩ | ⟨e, -, read⟩ := readEntry_cases m s
      case inl =>
        rw [List.getElem?_eq_none_iff, ← contents_length, same] at none
        omega
      case inr.inr.inr => rw [read] at h; cases h
      all_goals
        obtain ⟨-, kept, here⟩ := readEntry_good read
        have here := contents_getElem? here
        rw [kept, same] at here
        dsimp only at here
        rw [read] at h
        dsimp only at h
        split at h
        · cases h
        · next other =>
          split at h
          · next small =>
            exact ih (kept.trans same) (by omega) (by omega) fits (ordered.below here small) above h
          · exact ih (kept.trans same) (by omega) (by omega) (by omega) below
              (ordered.above here (by omega)) h
    · cases h
      obtain rfl : high = i := by omega
      exact ⟨fits, below, above⟩

/-! ### Lookups (R185, R186) -/

theorem removeDamaged_contents (i : Nat) (s : State) : contents (removeDamaged i s) = (contents s).eraseIdx i := by
  rw [contents, removeDamaged_tags, contents, List.eraseIdx_map]

theorem lookupFrom_reads (n tag : Nat) (s : State) : Reads s (lookupFrom n tag s).2 := by
  induction n generalizing s with
  | zero => exact .refl
  | succ n ih =>
    have done := searchFrom_done (s.tags.table.length + 1) 0 s.tags.table.length tag s
    simp only [lookupFrom]
    generalize searchFrom (s.tags.table.length + 1) 0 s.tags.table.length tag s = x at done ⊢
    obtain ⟨r, u⟩ := x
    cases r with
    | found i e => exact done.reads
    | absent i => exact done.reads
    | damaged i =>
      obtain ⟨e, here⟩ := done.damaged i rfl
      exact (done.reads.remove i e here).trans (ih _)

theorem lookupFrom_found {n : Nat} (h : lookupFrom n tag s = (.found i e, t)) :
    t.tags.table[i]? = some ⟨e, .clean⟩ ∧ e.tag = tag := by
  induction n generalizing s with
  | zero => cases h
  | succ n ih =>
    have done := searchFrom_done (s.tags.table.length + 1) 0 s.tags.table.length tag s
    simp only [lookupFrom] at h
    generalize searchFrom (s.tags.table.length + 1) 0 s.tags.table.length tag s = x at done h
    obtain ⟨r, u⟩ := x
    cases r with
    | found i e => cases h; exact done.found _ _ rfl
    | absent i => cases h
    | damaged i => exact ih h

theorem lookupFrom_absent {n : Nat} (ordered : Ordered (contents s)) (fuel : (contents s).length < n)
    (h : lookupFrom n tag s = (.absent i, t)) : Gap tag (contents t) i := by
  induction n generalizing s with
  | zero => exact absurd fuel (Nat.not_lt_zero _)
  | succ n ih =>
    have done := searchFrom_done (s.tags.table.length + 1) 0 s.tags.table.length tag s
    simp only [lookupFrom] at h
    obtain ⟨⟨r, u⟩, ended⟩ : ∃ x, searchFrom (s.tags.table.length + 1) 0 s.tags.table.length tag s = x := ⟨_, rfl⟩
    rw [ended] at h done
    cases r with
    | found i e => cases h
    | absent i =>
      cases h
      rw [done.contents]
      exact searchFrom_gap rfl ordered (by omega) (Nat.zero_le _) (Nat.le_of_eq (contents_length s).symm)
        (fun _ _ lt => absurd lt (Nat.not_lt_zero _))
        (fun j x le hj => absurd (List.getElem?_eq_some_iff.mp hj).1 (by rw [contents_length]; omega)) ended
    | damaged i =>
      obtain ⟨e, here⟩ := done.damaged i rfl
      have inside := (List.getElem?_eq_some_iff.mp (contents_getElem? here)).1
      have fewer : (contents (removeDamaged i u)).length < n := by
        rw [removeDamaged_contents, List.length_eraseIdx_of_lt inside, done.contents]
        rw [done.contents] at inside
        omega
      refine ih ?_ fewer h
      rw [removeDamaged_contents, done.contents]
      exact List.Pairwise.sublist (List.eraseIdx_sublist _ _) ordered

theorem lookupTag_reads (tag : Nat) (s : State) : Reads s (lookupTag tag s).2 := lookupFrom_reads _ tag s

theorem lookupTag_found (h : lookupTag tag s = (.found i e, t)) :
    t.tags.table[i]? = some ⟨e, .clean⟩ ∧ e.tag = tag := lookupFrom_found h

theorem lookupTag_absent (law : Ordered (contents s)) (h : lookupTag tag s = (.absent i, t)) :
    Gap tag (contents t) i :=
  lookupFrom_absent law (by rw [contents_length]; exact Nat.lt_succ_self _) h

/-- Settles O36, from what reads leave and from where a lookup ends. -/
theorem damagedEntriesLeave : Obligations.DamagedEntriesLeave := by
  intro tag s t r law fits ended
  have reads : Reads s t := by
    have found := lookupTag_reads tag s
    rwa [ended] at found
  refine ⟨?_, ?_, reads.contents, reads.whole, (reads.counted fits).2, reads.journalCorrections, reads.damaged,
    reads.overflow, reads.frame⟩
  · rintro i x rfl
    exact (lookupTag_found ended).symm
  · rintro i rfl w hw
    exact (lookupTag_absent law.ordered ended).missing (List.mem_map_of_mem hw)

/-! ### A table without error -/

theorem contents_clean (clean : CleanTable s) (h : (contents s)[i]? = some e) :
    s.tags.table[i]? = some ⟨e, .clean⟩ := by
  rw [contents, List.getElem?_map, Option.map_eq_some_iff] at h
  obtain ⟨⟨_, health⟩, found, rfl⟩ := h
  have := clean _ (List.mem_of_getElem? found)
  cases this
  exact found

/-- In an ordered table without error a lookup finds the entry of the tag and changes nothing. -/
theorem lookupTag_present (law : TableLaw s) (clean : CleanTable s) (here : s.tags.table[i]? = some ⟨e, .clean⟩) :
    lookupTag e.tag s = (.found i e, s) := by
  have reads := lookupTag_reads e.tag s
  obtain ⟨⟨r, t⟩, ended⟩ : ∃ x, lookupTag e.tag s = x := ⟨_, rfl⟩
  rw [ended] at reads ⊢
  obtain rfl := reads.clean clean
  cases r with
  | found j x =>
    obtain ⟨found, same⟩ := lookupTag_found ended
    obtain before | rfl | after := Nat.lt_trichotomy i j
    · exact absurd (law.ordered.lt (contents_getElem? here) (contents_getElem? found) before) (by dsimp only; omega)
    · rw [here] at found; cases found; rfl
    · exact absurd (law.ordered.lt (contents_getElem? found) (contents_getElem? here) after) (by dsimp only; omega)
  | absent j =>
    exact absurd rfl ((lookupTag_absent law.ordered ended).missing
      (List.mem_of_getElem? (contents_getElem? here)))

/-- A tag that is not in the table is absent at its place. -/
theorem lookupTag_missing (law : TableLaw s) (clean : CleanTable s) (none : ∀ w ∈ s.tags.table, w.content.tag ≠ tag) :
    ∃ i, lookupTag tag s = (.absent i, s) ∧ Gap tag (contents s) i := by
  have reads := lookupTag_reads tag s
  obtain ⟨⟨r, t⟩, ended⟩ : ∃ x, lookupTag tag s = x := ⟨_, rfl⟩
  rw [ended] at reads ⊢
  obtain rfl := reads.clean clean
  cases r with
  | found j x =>
    obtain ⟨found, same⟩ := lookupTag_found ended
    exact absurd same (none _ (List.mem_of_getElem? found))
  | absent j => exact ⟨j, rfl, lookupTag_absent law.ordered ended⟩

end Sys2Proof.Safety
end

section
/-! PROOFS. The account table and the tags are kept in order by every step (O58). -/

namespace Sys2Proof.Safety

open Sys2Proof.Machine

variable {s t u : State} {c : List Field} {p : Port} {d : List Byte} {l : Lifter} {tag i : Nat} {e : AccountEntry}

/-! ### Entries after lifts -/

/-- An entry after lifts of its tag: its tag and account are kept, the allowance falls, the lifts rise (R157). -/
structure Aged (y x : AccountEntry) : Prop where
  tag : y.tag = x.tag
  account : y.account = x.account
  allowance : y.allowance ≤ x.allowance
  lifts : x.lifts ≤ y.lifts
  fits : entryFits x → entryFits y

theorem Aged.refl (x : AccountEntry) : Aged x x := ⟨rfl, rfl, Nat.le_refl _, Nat.le_refl _, id⟩
theorem Aged.trans {x y z : AccountEntry} (h : Aged z y) (k : Aged y x) : Aged z x :=
  ⟨h.tag.trans k.tag, h.account.trans k.account, h.allowance.trans k.allowance, k.lifts.trans h.lifts,
    fun fits => h.fits (k.fits fits)⟩

/-- Entries that have left the table, and entries after lifts; none added. -/
abbrev Fewer (p q : List AccountEntry) : Prop := List.SublistForall₂ Aged p q

theorem Fewer.of_sublist {p q : List AccountEntry} (h : p.Sublist q) : Fewer p q :=
  List.sublistForall₂_iff.mpr ⟨p, List.forall₂_same.mpr fun x _ => Aged.refl x, h⟩

theorem Fewer.trans {p q r : List AccountEntry} (h : Fewer p q) (k : Fewer q r) : Fewer p r :=
  have : IsTrans AccountEntry Aged := ⟨fun _ _ _ => Aged.trans⟩
  IsTrans.trans _ _ _ h k

theorem Fewer.mem {p q : List AccountEntry} (h : Fewer p q) {y : AccountEntry} (hy : y ∈ p) : ∃ x ∈ q, Aged y x := by
  induction h with
  | nil => cases hy
  | cons aged _ ih =>
    obtain rfl | rest := List.mem_cons.mp hy
    · exact ⟨_, List.mem_cons_self .., aged⟩
    · obtain ⟨x, hx, aged⟩ := ih rest
      exact ⟨x, List.mem_cons_of_mem _ hx, aged⟩
  | cons_right _ ih =>
    obtain ⟨x, hx, aged⟩ := ih hy
    exact ⟨x, List.mem_cons_of_mem _ hx, aged⟩

theorem Fewer.ordered {p q : List AccountEntry} (h : Fewer p q) (old : Ordered q) : Ordered p := by
  induction h with
  | nil => exact List.Pairwise.nil
  | cons aged rest ih =>
    obtain ⟨first, others⟩ := List.pairwise_cons.mp old
    refine List.pairwise_cons.mpr ⟨fun y hy => ?_, ih others⟩
    obtain ⟨x, hx, same⟩ := Fewer.mem rest hy
    rw [aged.tag, same.tag]
    exact first x hx
  | cons_right _ ih => exact ih (List.pairwise_cons.mp old).2

theorem Fewer.length {p q : List AccountEntry} (h : Fewer p q) : p.length ≤ q.length := by
  induction h with
  | nil => exact Nat.zero_le _
  | cons _ _ ih => exact Nat.succ_le_succ ih
  | cons_right _ ih => exact Nat.le_succ_of_le ih

theorem Fewer.of_set {q : List AccountEntry} {y : AccountEntry} (h : q[i]? = some e) (aged : Aged y e) :
    Fewer (q.set i y) q := by
  obtain ⟨a, b, rfl, rfl⟩ := split_at h
  rw [set_split]
  induction a with
  | nil => exact .cons aged (Fewer.of_sublist (.refl b))
  | cons x a ih => exact .cons (.refl x) (ih (by simp))

/-- The table's law in terms of its contents. -/
theorem tableLaw_iff : TableLaw s ↔
    (contents s).length ≤ 4096 ∧ Ordered (contents s) ∧ ∀ x ∈ contents s, entryFits x := by
  constructor
  · rintro ⟨size, order, fits⟩
    refine ⟨by rwa [contents_length], List.pairwise_map.mpr order, fun x hx => ?_⟩
    obtain ⟨w, hw, rfl⟩ := List.mem_map.mp hx
    exact fits w hw
  · rintro ⟨size, order, fits⟩
    exact ⟨by rwa [contents_length] at size, (List.pairwise_map (f := Stored.content)).mp order, fun w hw => fits _ (List.mem_map_of_mem hw)⟩

/-! ### What commands leave of the table and of the pending tags -/

/-- No entry added and no pending tag. -/
structure TagsKept (s t : State) : Prop where
  table : Fewer (contents t) (contents s)
  pending : ∀ m x, t.tags.pendingTags.get m = some x → s.tags.pendingTags.get m = some x

theorem TagsKept.of_tags (h : t.tags = s.tags) : TagsKept s t :=
  ⟨.of_sublist (by rw [contents, h]; exact .refl _), fun m x hx => by rw [← h]; exact hx⟩

theorem TagsKept.refl (s : State) : TagsKept s s := .of_tags rfl

theorem TagsKept.trans (h : TagsKept s t) (k : TagsKept t u) : TagsKept s u :=
  ⟨k.table.trans h.table, fun m x hx => h.pending m x (k.pending m x hx)⟩

theorem Only.tagsKept (h : Only c s t) (free : Field.tags ∉ c) : TagsKept s t := .of_tags (h.same .tags free)

theorem Operates.tags (h : Operates s t) : t.tags = s.tags := by
  induction h with
  | refl => rfl
  | flow _ _ ih | lifter _ _ _ _ ih | packer _ _ _ _ ih | fill _ _ _ ih | scan _ _ _ ih | weigh _ _ _ ih
  | latch _ _ ih => exact ih

theorem Operates.tagsKept (h : Operates s t) : TagsKept s t := .of_tags h.tags

theorem TableLaw.of_kept (old : TableLaw s) (kept : TagsKept s t) : TableLaw t := by
  obtain ⟨size, order, fits⟩ := tableLaw_iff.mp old
  refine tableLaw_iff.mpr ⟨kept.table.length.trans size, kept.table.ordered order, fun y hy => ?_⟩
  obtain ⟨x, hx, aged⟩ := kept.table.mem hy
  exact aged.fits (fits x hx)

theorem Reads.kept (h : Reads s t) : TagsKept s t :=
  ⟨.of_sublist h.contents, fun m x hx => by rw [h.tags] at hx; exact hx⟩

theorem readIndexFrom_reads (n i : Nat) (s : State) : Reads s (readIndexFrom n i s).2 := by
  induction n generalizing s with
  | zero => exact .refl
  | succ n ih =>
    simp only [readIndexFrom]
    have read : Reads s (readEntry i s).2 := Reads.refl.readEntry i
    obtain ⟨-, same⟩ | ⟨e, -, same⟩ | ⟨e, found, same⟩ | ⟨e, found, same⟩ := readEntry_cases i s <;> rw [same] at read ⊢
    · exact read
    · exact read
    · exact read
    · exact (Reads.refl.remove i e found).trans (ih _)

/-! ### Starts and ends of lifts -/

theorem tagPermission_reads (l : Lifter) (s : State) : Reads s (tagPermission l s).2 := by
  unfold tagPermission
  split
  · exact .refl
  · next x _ =>
    have found := lookupTag_reads x.tag s
    generalize lookupTag x.tag s = y at found ⊢
    obtain ⟨r, u⟩ := y
    cases r <;> exact found

/-- Permission for a tag is given for the lifter's usable pending tag (R154). -/
theorem tagPermission_granted {entry : Option AccountEntry} (h : (tagPermission l s).1 = .granted (some tag) entry) :
    ∃ x, s.tags.pendingTags.get l = some x ∧ x.tag = tag := by
  unfold tagPermission at h
  split at h
  · dsimp only at h
    split at h <;> cases h
  · next x usable =>
    have pending : s.tags.pendingTags.get l = some x := (Option.filter_eq_some_iff.mp usable).1
    generalize lookupTag x.tag s = y at h
    obtain ⟨r, u⟩ := y
    cases r with
    | absent i =>
      dsimp only at h
      split at h
      · cases h; exact ⟨x, pending, rfl⟩
      · cases h
    | found i e =>
      unfold entryPermission at h
      dsimp only at h
      split at h
      · cases h
      · split at h
        · cases h
        · cases h; exact ⟨x, pending, rfl⟩

theorem admitted_tags (l : Lifter) (arg : Option Stream) (tag : Option Nat) (entry : Option AccountEntry) (s : State) :
    (admitted l arg tag entry s).tags =
      if tag.isSome then { s.tags with pendingTags := s.tags.pendingTags.set l none } else s.tags := by
  have made : (makeReservation l (evaluateInhibit (s.withContext l (some (newContext l arg tag entry s))))).tags = s.tags :=
    ((makeReservation_only l _).same .tags (by decide) : _).trans ((evaluateInhibit_only _).same .tags (by decide))
  unfold admitted
  dsimp only
  split
  · rw [emptyPending, withTags_tags, made]
  · exact made

theorem emptied_pending {q : PerLifter (Option PendingTag)} {l m : Lifter} {x : PendingTag}
    (h : (q.set l none).get m = some x) : m ≠ l ∧ q.get m = some x := by
  by_cases same : m = l
  · subst same; rw [PerLifter.get_set_self] at h; cases h
  · rw [PerLifter.get_set_of_ne _ _ _ _ same] at h; exact ⟨same, h⟩

theorem admitted_kept (l : Lifter) (arg : Option Stream) (tag : Option Nat) (entry : Option AccountEntry) (s : State) :
    TagsKept s (admitted l arg tag entry s) := by
  have tags := admitted_tags l arg tag entry s
  refine ⟨.of_sublist ?_, fun m x hx => ?_⟩
  · rw [contents, tags]; split <;> exact .refl _
  · rw [tags] at hx
    split at hx
    · exact (emptied_pending hx).2
    · exact hx

theorem startLifter_kept (l : Lifter) (arg : Option Stream) (x : StartSource) (s : State) :
    TagsKept s (startLifter l arg x s).2 := by
  have looked := (tagPermission_reads l s).kept
  exact startLifter_keeps (I := TagsKept s) (fun moved kept => kept.trans moved.tagsKept) l arg x looked
    (fun tag entry _ _ => looked.trans (admitted_kept l arg tag entry _)) (.refl s)

theorem completionLookup_reads (x : LiftContext) (s : State) : Reads s (completionLookup x s).2 := by
  unfold completionLookup
  split
  · next t _ _ =>
    have found := lookupTag_reads t s
    generalize lookupTag t s = y at found ⊢
    obtain ⟨r, u⟩ := y
    cases r <;> exact found
  · exact .refl

theorem completionLookup_found {x : LiftContext} (h : (completionLookup x s).1 = some (i, e)) :
    (completionLookup x s).2.tags.table[i]? = some ⟨e, .clean⟩ := by
  unfold completionLookup at h ⊢
  split at h
  · next t _ _ =>
    obtain ⟨⟨r, u⟩, ended⟩ : ∃ y, lookupTag t s = y := ⟨_, rfl⟩
    rw [ended] at h ⊢
    cases r with
    | absent j => cases h
    | found j x => cases h; exact (lookupTag_found ended).1
  · cases h

theorem aged_after_lift (dumped : Bool) (used : Nat) (e : AccountEntry) :
    Aged { e with lifts := if dumped then saturatingSucc top8 e.lifts else e.lifts, allowance := e.allowance - used } e := by
  refine ⟨rfl, rfl, Nat.sub_le _ _, ?_, ?_⟩
  · simp only [saturatingSucc]
    split
    · split <;> omega
    · exact Nat.le_refl _
  · rintro ⟨h1, h2, h3, h4, h5, h6, lifts, allowance⟩
    refine ⟨h1, h2, h3, h4, h5, h6, ?_, (Nat.sub_le _ _).trans allowance⟩
    dsimp only
    split
    · exact saturatingSucc_le lifts
    · exact lifts

theorem endLift_tags (how : Ending) {x : LiftContext} (hc : s.context l = some x) : (endLift how l s).tags =
    (writeBack x.dumped (usedOf (endRecord how l x s)) (completionLookup x s).1 (completionLookup x s).2).tags := by
  rw [endLift_some how hc]
  refine ((endContext_only l _).same .tags (by decide) : _).trans ?_
  refine ((raisePayload_only _ _ _).same .tags (by decide) : _).trans ?_
  unfold writeBack
  split <;> rfl

theorem endLift_kept (how : Ending) (l : Lifter) (s : State) : TagsKept s (endLift how l s) := by
  obtain hc | ⟨x, hc⟩ := Option.eq_none_or_eq_some (s.context l)
  · rw [endLift_none how hc]; exact .refl s
  · have looked := (completionLookup_reads x s).kept
    have tags := endLift_tags how hc
    unfold writeBack at tags
    split at tags
    · exact looked.trans (.of_tags tags)
    · next i e found =>
      have here := contents_getElem? (completionLookup_found found)
      refine looked.trans ⟨?_, fun m y hy => by rw [tags] at hy; exact hy⟩
      rw [contents, tags]
      change Fewer (((completionLookup x s).2.tags.table.set i _).map Stored.content) _
      rw [List.map_set]
      exact .of_set here (aged_after_lift _ _ e)

theorem Ends.tagsKept (h : Ends s t) : TagsKept s t := by
  induction h with
  | refl => exact .refl s
  | operates _ k ih => exact ih.trans k.tagsKept
  | ended _ how l ih => exact ih.trans (endLift_kept how l _)

theorem bodyResetState_kept (s : State) : TagsKept s (bodyResetState s) := by
  have ended := (resetLift_ends (resetLift_ends .refl .left) .right : Ends s _).tagsKept
  have tags : (bodyResetState s).tags =
      { (resetLift .right (resetLift .left s)).tags with pendingTags := ⟨none, none⟩ } :=
    (evaluateInhibit_only _).same .tags (by decide)
  refine ended.trans ⟨.of_sublist (by rw [contents, tags]; exact .refl _), fun m x hx => ?_⟩
  rw [tags] at hx
  cases m <;> cases hx

/-! ### Requests and the load -/

theorem serve_tagsKept {k : Kind} {n : Byte} {owner : State → Decision} (decides : ∀ x, TagsKept x (owner x).1) :
    TagsKept s (serve k p n d owner s) :=
  serve_keeps (I := TagsKept s) (fun only kept => kept.trans (Only.tagsKept only (by decide)))
    (fun x kept => kept.trans (decides x)) (.refl s)

theorem decideReadAccount_kept (d : List Byte) (s : State) : TagsKept s (decideReadAccount d s).1 := by
  have byTag (tag : Nat) : TagsKept s (readByTag tag s).1 := by
    have found := (lookupTag_reads tag s).kept
    unfold readByTag
    generalize lookupTag tag s = y at found ⊢
    obtain ⟨r, u⟩ := y
    cases r <;> exact found
  have byIndex (i : Nat) : TagsKept s (readByIndex i s).1 := by
    have found := (readIndexFrom_reads (s.tags.table.length + 1) i s).kept
    unfold readByIndex readIndex
    generalize readIndexFrom (s.tags.table.length + 1) i s = y at found ⊢
    obtain ⟨r, u⟩ := y
    cases r <;> exact found
  unfold decideReadAccount
  split
  · split
    · exact byTag _
    · exact .refl s
  · split
    · exact byIndex _
    · exact .refl s
  · exact .refl s

theorem decideDeleteAccount_kept (d : List Byte) (s : State) : TagsKept s (decideDeleteAccount d s).1 := by
  unfold decideDeleteAccount
  split
  · next tag _ =>
    have found := (lookupTag_reads tag s).kept
    unfold deleteEntry
    generalize lookupTag tag s = y at found ⊢
    obtain ⟨r, u⟩ := y
    cases r with
    | absent i => exact found
    | found i e => exact found.trans ⟨.of_sublist ((List.eraseIdx_sublist _ i).map _), fun m x hx => hx⟩
  · exact .refl s

theorem readPart_kept (ok : Bool) (s : State) : TagsKept s (readPart ok s) := by
  have load (v : LoadState) {x : State} (kept : TagsKept s x) : TagsKept s (x.withLoad v) :=
    kept.trans (Only.tagsKept (withLoader_only _ _) (by decide))
  have latch (e : Event) {x : State} (kept : TagsKept s x) : TagsKept s (latchAll e x) :=
    kept.trans (Only.tagsKept (latchAll_only e x) (by decide))
  have calib (v : CalStore) : TagsKept s (s.withCalib v) := Only.tagsKept (withCalib_only s v) (by decide)
  have applied (x : Settings) : TagsKept s (applySettings x s) := by
    have tags : (applySettings x s).tags = { s.tags with
        threshold := x.threshold, untaggedAllow := x.untaggedAllow, unknownAllow := x.unknownAllow } :=
      (evaluateLimits_only _).same .tags (by decide)
    exact ⟨.of_sublist (by rw [contents, tags]; exact .refl _), fun m y hy => by rw [tags] at hy; exact hy⟩
  have settings (good : Bool) : TagsKept s (loadSettings good s) := by
    cases good
    · exact latch _ (applied _)
    · exact applied _
  have calibration (m : Lifter) (good : Bool) : TagsKept s (loadCalibration m good s) := by
    cases good
    · exact latch _ (calib _)
    · exact calib _
  unfold readPart
  split
  · exact load _ (settings _)
  · exact load _ (calibration _ _)
  · exact load _ (calibration _ _)
  · exact load _ (calib _)
  · exact (calib _).trans (Only.tagsKept (leaveStarting_only _) (by decide))
  · exact .refl s

/-- The commands that add an entry or a pending tag. -/
def addsTag : Instr → Bool
  | .putAccount .. | .tagRead .. => true
  | _ => false

/-- Every other command adds no entry, raises no allowance and makes no tag pending. -/
theorem exec_tagsKept {i : Instr} (other : addsTag i = false) (h : exec i s = .next t) : TagsKept s t := by
  by_cases reset : isPowerReset i = true
  · obtain rfl | ⟨_, _, _, _, rfl⟩ := powerReset_cases reset h
    · exact .refl _
    · exact ⟨.nil, fun m x hx => by cases m <;> cases hx⟩
  by_cases free : Field.tags ∉ parts i
  · exact Only.tagsKept (exec_only h) free
  cases i
  case startLift =>
    cases h
    exact serve_tagsKept fun x => decideStartLift_keeps (I := TagsKept x)
      (fun l arg y _ _ => startLifter_kept l arg y x) _ _ (.refl x)
  case rearStartPress =>
    exact rearStartPress_keeps (I := TagsKept s) (fun moved kept => kept.trans moved.tagsKept)
      (fun l arg y _ kept => kept.trans (startLifter_kept l arg y _)) h (.refl s)
  case bodyReset => cases h; exact serve_tagsKept bodyResetState_kept
  case readAccount => cases h; exact serve_tagsKept (decideReadAccount_kept _)
  case deleteAccount => cases h; exact serve_tagsKept (decideDeleteAccount_kept _)
  case clearAccounts =>
    cases h
    refine serve_tagsKept fun x => ?_
    unfold decideClearAccounts
    split
    · exact .refl x
    · exact ⟨.nil, fun m y hy => hy⟩
  case setTagThreshold =>
    cases h
    refine serve_tagsKept fun x => ?_
    unfold decideSetTagThreshold
    split
    · split
      · exact .refl x
      · exact ⟨.of_sublist (.refl _), fun m y hy => hy⟩
    · exact .refl x
  case setRoutePolicy =>
    cases h
    refine serve_tagsKept fun x => ?_
    unfold decideSetRoutePolicy
    split
    · split
      · exact .refl x
      · exact ⟨.of_sublist (.refl _), fun m y hy => hy⟩
    · exact .refl x
  case putTariff =>
    cases h
    refine serve_tagsKept fun x => ?_
    unfold decidePutTariff
    split
    · exact ⟨.of_sublist (.refl _), fun m y hy => hy⟩
    · exact .refl x
  case clearCounters => cases h; exact serve_tagsKept fun x => ⟨.of_sublist (.refl _), fun m y hy => hy⟩
  case returnTimeLimit => exact (returnTimeLimit_ends h).tagsKept
  case ringConversionComplete => exact (ringConversionComplete_ends h).tagsKept
  case loadPartRead ok =>
    cases h
    split
    · exact .refl s
    · exact readPart_kept ok s
  case putAccount | tagRead => simp [addsTag] at other
  case powerOnReset | resetLineAssert | resetLineRelease => simp [isPowerReset] at reset
  all_goals exact absurd (by simp [parts]) free

/-! ### The table (R148) -/

/-- A table parted at the place of a tag. -/
theorem Gap.parts {q : List AccountEntry} (h : Gap tag q i) :
    ∃ a b, q = a ++ b ∧ a.length = i ∧ (∀ x ∈ a, x.tag < tag) ∧ ∀ x ∈ b, tag < x.tag := by
  obtain ⟨inside, below, above⟩ := h
  refine ⟨q.take i, q.drop i, (List.take_append_drop i q).symm, List.length_take_of_le inside, fun x hx => ?_,
    fun x hx => ?_⟩
  · obtain ⟨j, hj⟩ := List.mem_iff_getElem?.mp hx
    have lt : j < i := by
      have := (List.getElem?_eq_some_iff.mp hj).1
      rw [List.length_take] at this
      omega
    rw [List.getElem?_take_of_lt lt] at hj
    exact below j x lt hj
  · obtain ⟨j, hj⟩ := List.mem_iff_getElem?.mp hx
    rw [List.getElem?_drop] at hj
    exact above (i + j) x (Nat.le_add_right i j) hj

theorem insertIdx_split {α : Type} (a b : List α) (v : α) : (a ++ b).insertIdx a.length v = a ++ v :: b := by
  induction a with
  | nil => simp
  | cons x a ih => simp [ih]

/-- An entry put in its place keeps the order (R148). -/
theorem Gap.insert_ordered {q : List AccountEntry} (h : Gap e.tag q i) (ordered : Ordered q) :
    Ordered (q.insertIdx i e) := by
  obtain ⟨a, b, rfl, rfl, below, above⟩ := h.parts
  rw [insertIdx_split]
  obtain ⟨first, second, across⟩ := List.pairwise_append.mp ordered
  refine List.pairwise_append.mpr ⟨first, List.pairwise_cons.mpr ⟨above, second⟩, fun x hx y hy => ?_⟩
  obtain rfl | rest := List.mem_cons.mp hy
  · exact below x hx
  · exact across x hx y rest

/-- An entry written over the one of its tag keeps the order (R149). -/
theorem Ordered.set {q : List AccountEntry} (h : Ordered q) {x : AccountEntry} (here : q[i]? = some x)
    (same : x.tag = e.tag) : Ordered (q.set i e) := by
  obtain ⟨a, b, rfl, rfl⟩ := split_at here
  rw [set_split]
  obtain ⟨first, second, across⟩ := List.pairwise_append.mp h
  obtain ⟨after, rest⟩ := List.pairwise_cons.mp second
  refine List.pairwise_append.mpr ⟨first, List.pairwise_cons.mpr ⟨fun y hy => same ▸ after y hy, rest⟩,
    fun y hy z hz => ?_⟩
  obtain rfl | more := List.mem_cons.mp hz
  · exact same ▸ across y hy x (List.mem_cons_self ..)
  · exact across y hy z (List.mem_cons_of_mem _ more)

theorem beAt_lt (d : List Byte) (i n : Nat) : beAt d i n < 256 ^ n :=
  (beNat_lt _).trans_le (Nat.pow_le_pow_right (by decide) (List.length_take_le ..))

/-- The entry that a Put Account carries is within its ranges (R147, R149). -/
theorem entryArg_fits (h : entryArg d = some e) : entryFits e := by
  obtain ⟨⟨-, ranges⟩, same⟩ := Option.ite_none_right_eq_some.mp h
  simp only [Option.some.injEq] at same
  subst same
  simp only [entryInRange, Bool.and_eq_true, decide_eq_true_eq] at ranges
  obtain ⟨⟨⟨⟨tag, account⟩, account'⟩, cls⟩, quota⟩ := ranges
  have lifts : byteAt d 12 < 2 ^ 8 := BitVec.isLt _
  exact ⟨tag, beAt_lt d 0 5, account, account', cls, quota, Nat.le_of_lt_succ lifts,
    Nat.le_of_lt_succ (beAt_lt d 13 2)⟩

theorem putEntry_law (fits : entryFits e) (old : TableLaw s) : TableLaw (putEntry e s).1 := by
  obtain ⟨size, order, entries⟩ := tableLaw_iff.mp (old.of_kept (lookupTag_reads e.tag s).kept)
  unfold putEntry
  obtain ⟨⟨r, u⟩, ended⟩ : ∃ y, lookupTag e.tag s = y := ⟨_, rfl⟩
  rw [ended] at size order entries ⊢
  cases r with
  | found i x =>
    obtain ⟨here, same⟩ := lookupTag_found ended
    have written : contents (writeEntry i e u) = (contents u).set i e := List.map_set ..
    refine tableLaw_iff.mpr ⟨?_, ?_, fun y hy => ?_⟩ <;> dsimp only at * <;> rw [written] at *
    · rwa [List.length_set]
    · exact order.set (contents_getElem? here) same
    · obtain old | rfl := List.mem_or_eq_of_mem_set hy
      · exact entries y old
      · exact fits
  | absent i =>
    have gap := lookupTag_absent old.ordered ended
    dsimp only
    split
    · next room =>
      have inserted : contents (insertEntry i e u) = (contents u).insertIdx i e := List.map_insertIdx ..
      rw [← contents_length, tableCapacity] at room
      refine tableLaw_iff.mpr ⟨?_, ?_, fun y hy => ?_⟩ <;> dsimp only at * <;> rw [inserted] at *
      · rw [List.length_insertIdx_of_le_length gap.inside]
        exact room
      · exact gap.insert_ordered order
      · obtain rfl | old := List.eq_or_mem_of_mem_insertIdx hy
        · exact fits
        · exact entries y old
    · exact tableLaw_iff.mpr ⟨size, order, entries⟩

theorem tableLaw_blind {x y : State} (h : Only [.ports] x y) (old : TableLaw x) : TableLaw y :=
  old.of_kept (Only.tagsKept h (by decide))

theorem takeRead_table (l : Lifter) (ok : Bool) (tag q : Nat) (s : State) :
    (takeRead l ok tag q s).tags.table = s.tags.table := by
  simp only [takeRead, withTags_tags]
  split <;> rfl

/-- No command but Put Account adds an entry. -/
theorem exec_fewer {i : Instr} (other : isPutAccount i = false) (h : exec i s = .next t) :
    Fewer (contents t) (contents s) := by
  by_cases adds : addsTag i = false
  · exact (exec_tagsKept adds h).table
  cases i
  case putAccount => simp [isPutAccount] at other
  case tagRead l ok tag q =>
    cases h
    refine .of_sublist ?_
    split
    · exact .refl _
    · rw [contents, takeRead_table]; exact .refl _
  all_goals simp [addsTag] at adds

theorem exec_table {i : Instr} (h : exec i s = .next t) (old : TableLaw s) : TableLaw t := by
  by_cases other : addsTag i = false
  · exact old.of_kept (exec_tagsKept other h)
  cases i
  case putAccount =>
    cases h
    refine serve_keeps tableLaw_blind (fun x kept => ?_) old
    unfold decidePutAccount
    split
    · next found => exact putEntry_law (entryArg_fits found) kept
    · exact kept
  case tagRead l ok tag q =>
    cases h
    have same := takeRead_table l ok tag.toNat q.toNat s
    split
    · exact old
    · obtain ⟨size, order, fits⟩ := old
      exact ⟨by rwa [same], by rwa [same], by rwa [same]⟩
  all_goals simp [addsTag] at other

/-! ### Bound and pending tags (R144, R155) -/

/-- Each lifter's bound tag is as it was, or gone. -/
def BoundsKept (s t : State) : Prop := ∀ l, bound t l = none ∨ bound t l = bound s l

theorem BoundsKept.trans (h : BoundsKept s t) (k : BoundsKept t u) : BoundsKept s u := fun l => by
  obtain gone | same := k l
  · exact .inl gone
  · rw [same]; exact h l

theorem SameTags.boundsKept (h : SameTags s t) : BoundsKept s t := fun l => .inr (h.bound l)

theorem Ends.boundsKept (h : Ends s t) : BoundsKept s t := by
  induction h with
  | refl => exact (SameTags.refl s).boundsKept
  | operates _ k ih => exact ih.trans k.sameTags.boundsKept
  | ended _ how l ih =>
    refine ih.trans fun m => ?_
    rw [bound, endLift_context]
    split
    · exact .inl rfl
    · exact .inr rfl

theorem TagLaw.of_kept (old : TagLaw s) (bounds : BoundsKept s t) (kept : TagsKept s t) : TagLaw t := by
  obtain ⟨boundOnce, notPending, pendingOnce⟩ := old
  have before {l : Lifter} {x : Nat} (h : bound t l = some x) : bound s l = some x := by
    obtain gone | same := bounds l
    · rw [gone] at h; cases h
    · rwa [same] at h
  exact ⟨fun x ⟨left, right⟩ => boundOnce x ⟨before left, before right⟩,
    fun l m x hx hb => notPending l m x (kept.pending m x hx) (before hb),
    fun x y hx hy => pendingOnce x y (kept.pending .left x hx) (kept.pending .right y hy)⟩

theorem tagLaw_blind {x y : State} (h : Only [.ports] x y) (old : TagLaw x) : TagLaw y :=
  old.of_kept (Only.sameTags h (by decide)).boundsKept (Only.tagsKept h (by decide))

theorem Operates.tagLaw (h : Operates s t) (old : TagLaw s) : TagLaw t := old.of_kept h.sameTags.boundsKept h.tagsKept

theorem Ends.tagLaw (h : Ends s t) (old : TagLaw s) : TagLaw t := old.of_kept h.boundsKept h.tagsKept

/-- Pending tags of two lifters differ. -/
theorem TagLaw.pending_ne (old : TagLaw s) {l m : Lifter} (other : m ≠ l) {x y : PendingTag}
    (hx : s.tags.pendingTags.get l = some x) (hy : s.tags.pendingTags.get m = some y) : y.tag ≠ x.tag := by
  cases l <;> cases m
  · exact absurd rfl other
  · exact (old.pendingOnce x y hx hy).symm
  · exact old.pendingOnce y x hy hx
  · exact absurd rfl other

/-- An admission binds the lifter's pending tag, which leaves its slot (R7, R144). -/
theorem admitted_tagLaw (l : Lifter) (arg : Option Stream) (tag : Option Nat) (entry : Option AccountEntry)
    (pending : ∀ n, tag = some n → ∃ x, s.tags.pendingTags.get l = some x ∧ x.tag = n) (old : TagLaw s) :
    TagLaw (admitted l arg tag entry s) := by
  have kept := admitted_kept l arg tag entry s
  have bounds (m : Lifter) : bound (admitted l arg tag entry s) m = if m = l then tag else bound s m := by
    rw [bound, admitted_context]
    split <;> rfl
  have notBound {n : Nat} (taken : tag = some n) (m : Lifter) : bound s m ≠ some n := by
    obtain ⟨x, hx, rfl⟩ := pending n taken
    exact old.notPending m l x hx
  refine ⟨fun n => ?_, fun m q x hx => ?_, fun x y hx hy =>
    old.pendingOnce x y (kept.pending .left x hx) (kept.pending .right y hy)⟩
  · rw [bounds, bounds]
    cases l with
    | left => exact fun ⟨new, right⟩ => notBound new .right right
    | right => exact fun ⟨left, new⟩ => notBound new .left left
  · rw [bounds]
    have before := kept.pending q x hx
    split
    · rintro rfl
      obtain ⟨y, hy, same⟩ := pending x.tag rfl
      rw [admitted_tags] at hx
      obtain ⟨other, -⟩ := emptied_pending hx
      exact old.pending_ne other hy before same.symm
    · exact old.notPending m q x before

theorem startLifter_tagLaw (l : Lifter) (arg : Option Stream) (x : StartSource) (old : TagLaw s) :
    TagLaw (startLifter l arg x s).2 := by
  have reads := tagPermission_reads l s
  have looked : TagLaw (tagPermission l s).2 :=
    old.of_kept (Only.sameTags reads.only (by decide)).boundsKept reads.kept
  refine startLifter_keeps Operates.tagLaw l arg x looked (fun tag entry granted _ => ?_) old
  refine admitted_tagLaw l arg tag entry (fun n taken => ?_) looked
  subst taken
  obtain ⟨y, hy, same⟩ := tagPermission_granted granted
  exact ⟨y, by rw [reads.tags]; exact hy, same⟩

theorem isPending_iff {x : TagUnit} {m : Lifter} :
    isPending x tag m = true ↔ ∃ y, x.pendingTags.get m = some y ∧ y.tag = tag := by
  unfold isPending
  split
  · next y hy => simp [hy]
  · next none => simp [none]

/-- After an accepted read its tag is pending on the lifter of the read, and on no other (R143). -/
theorem acceptTag_pending {x : TagUnit} {q now : Nat} {m : Lifter} {y : PendingTag}
    (h : (acceptTag l tag q now x).pendingTags.get m = some y) :
    (m = l ∧ y.tag = tag) ∨ (m ≠ l ∧ x.pendingTags.get m = some y ∧ y.tag ≠ tag) := by
  by_cases same : m = l
  · subst same
    simp only [acceptTag, PerLifter.get_set_self] at h
    cases h
    exact .inl ⟨rfl, rfl⟩
  · simp only [acceptTag, PerLifter.get_set_of_ne _ _ _ _ same] at h
    have other : m = otherLifter l := by cases m <;> cases l <;> first | rfl | exact absurd rfl same
    subst other
    refine .inr ⟨same, ?_⟩
    split at h
    · rw [PerLifter.get_set_self] at h; cases h
    · next free => exact ⟨h, fun hy => free (isPending_iff.mpr ⟨y, h, hy⟩)⟩

theorem dispositionOf_accepted {ok : Bool} {q : Nat} (h : dispositionOf s ok tag q = .accepted) (m : Lifter) :
    bound s m ≠ some tag := by
  unfold dispositionOf at h
  split at h
  · cases h
  · split at h
    · cases h
    · split at h
      · cases h
      · split at h
        · cases h
        · next free =>
          simp only [Bool.or_eq_true, not_or, bindsTag, beq_iff_eq] at free
          cases m
          · exact free.1
          · exact free.2

theorem takeRead_tagLaw (l : Lifter) (ok : Bool) (tag q : Nat) (old : TagLaw s) : TagLaw (takeRead l ok tag q s) := by
  unfold takeRead
  dsimp only
  split
  · next accepted =>
    have free := dispositionOf_accepted accepted
    refine ⟨old.boundOnce, fun m n y hy => ?_, fun x y hx hy => ?_⟩
    · obtain ⟨-, rfl⟩ | ⟨-, before, -⟩ := acceptTag_pending hy
      · exact free m
      · exact old.notPending m n y before
    · obtain ⟨rfl, same⟩ | ⟨-, before, other⟩ := acceptTag_pending (m := .left) hx
      · obtain ⟨here, -⟩ | ⟨-, -, other⟩ := acceptTag_pending (m := .right) hy
        · cases here
        · rw [same]; exact other.symm
      · obtain ⟨-, same⟩ | ⟨-, before', -⟩ := acceptTag_pending (m := .right) hy
        · rw [same]; exact other
        · exact old.pendingOnce x y before before'
  · exact ⟨old.boundOnce, old.notPending, old.pendingOnce⟩

theorem decidePutAccount_pending (d : List Byte) (s : State) :
    (decidePutAccount d s).1.tags.pendingTags = s.tags.pendingTags := by
  unfold decidePutAccount
  split
  · next e _ =>
    have found := (lookupTag_reads e.tag s).tags
    unfold putEntry
    generalize lookupTag e.tag s = y at found ⊢
    obtain ⟨r, u⟩ := y
    have same : u.tags.pendingTags = s.tags.pendingTags := by rw [found]
    cases r with
    | found i x => exact same
    | absent i => dsimp only; split <;> exact same
  · rfl

theorem TagLaw.of_pending (old : TagLaw s) (bounds : SameTags s t) (same : t.tags.pendingTags = s.tags.pendingTags) :
    TagLaw t := by
  obtain ⟨boundOnce, notPending, pendingOnce⟩ := old
  refine ⟨fun x => ?_, fun l m x hx => ?_, fun x y hx hy => ?_⟩
  · rw [bounds.bound, bounds.bound]; exact boundOnce x
  · rw [bounds.bound]; rw [same] at hx; exact notPending l m x hx
  · rw [same] at hx hy; exact pendingOnce x y hx hy

theorem bodyResetState_bounds (s : State) : BoundsKept s (bodyResetState s) :=
  (resetLift_ends (resetLift_ends .refl .left) .right).boundsKept.trans
    (SameTags.boundsKept fun l => by rw [bodyResetState_context])

theorem exec_tagLaw {i : Instr} (h : exec i s = .next t) (old : TagLaw s) : TagLaw t := by
  by_cases reset : isPowerReset i = true
  · obtain rfl | ⟨_, _, _, _, rfl⟩ := powerReset_cases reset h
    · exact old
    · exact TagLaw.of_kept resetIsLawful.tags (fun l => .inl (by rw [bound, poweredOn_context]; rfl))
        (TagsKept.of_tags (s := State.reset) rfl)
  cases i
  case powerOnReset | resetLineAssert | resetLineRelease => simp [isPowerReset] at reset
  case startLift =>
    cases h
    exact serve_keeps tagLaw_blind
      (fun _ => decideStartLift_keeps (fun l arg x _ => startLifter_tagLaw l arg x) _ _) old
  case rearStartPress => exact rearStartPress_keeps Operates.tagLaw (fun l arg x _ => startLifter_tagLaw l arg x) h old
  case bodyReset =>
    cases h
    exact serve_keeps tagLaw_blind (fun x kept => kept.of_kept (bodyResetState_bounds x) (bodyResetState_kept x)) old
  case returnTimeLimit => exact (returnTimeLimit_ends h).tagLaw old
  case ringConversionComplete => exact (ringConversionComplete_ends h).tagLaw old
  case tagRead l ok tag q =>
    cases h
    split
    · exact old
    · exact takeRead_tagLaw l ok _ _ old
  case putAccount =>
    cases h
    refine serve_keeps tagLaw_blind (fun x kept => ?_) old
    exact kept.of_pending (Only.sameTags (decidePutAccount_only _ x) (by decide)) (decidePutAccount_pending _ x)
  all_goals exact old.of_kept (exec_sameTags rfl h).boundsKept (exec_tagsKept rfl h)

/-- Settles O58: searches end in order and inserts stand in their place; tags are bound from their slots and made
pending only while they are free; only Put Account adds. -/
theorem tableAndTagLawsKept : Obligations.TableAndTagLawsKept := by
  intro s t
  refine ⟨fun law h => ?_, fun law h => ?_, fun i other h w hw => ?_⟩
  · exact step_keeps (I := TableLaw) (fun only kept => kept.of_kept (Only.tagsKept only (by decide))) exec_table
      (fun _ kept => kept.of_kept (.of_tags rfl)) h law
  · exact step_keeps (I := TagLaw)
      (fun only kept => kept.of_kept (Only.sameTags only (by decide)).boundsKept (Only.tagsKept only (by decide)))
      exec_tagLaw (fun _ kept => kept.of_kept (SameTags.refl s).boundsKept (.of_tags rfl)) h law
  · obtain ⟨y, hy, aged⟩ := (exec_fewer other h).mem (List.mem_map_of_mem hw)
    obtain ⟨x, hx, rfl⟩ := List.mem_map.mp hy
    exact ⟨x, hx, aged.tag, aged.account, aged.allowance, aged.lifts⟩

end Sys2Proof.Safety
end

section
/-! PROOFS. Account reads, Put and Delete Account, the permission of check 6 and the tag reads (O13, O34, O35, O54). -/

namespace Sys2Proof.Safety

open Sys2Proof.Machine

variable {s t : State} {p : Port} {d : List Byte} {tag i : Nat} {e : AccountEntry} {x : List (Stored AccountEntry)}

/-! ### Read Account by tag -/

theorem tagArg_pos (h : 0 < tag) : tagArg tag = some tag := by
  unfold tagArg
  rw [if_neg (Nat.ne_of_gt h)]

theorem tagArg_zero (h : tag = 0) : tagArg tag = none := by subst h; rfl

theorem decideReadAccount_byTag (selector : byteAt d 0 = 0) (pos : 0 < beAt d 1 5) :
    decideReadAccount d s = readByTag (beAt d 1 5) s := by
  simp [decideReadAccount, selector, tagArg_pos pos]

theorem decideReadAccount_byIndex (selector : byteAt d 0 = 1) (fits : beAt d 4 2 ≤ 4095) :
    decideReadAccount d s = readByIndex (beAt d 4 2) s := by
  simp [decideReadAccount, selector, within, fits]

theorem decideReadAccount_bad (h : 1 < byteAt d 0 ∨ byteAt d 0 = 0 ∧ beAt d 1 5 = 0 ∨ byteAt d 0 = 1 ∧ 4095 < beAt d 4 2) :
    decideReadAccount d s = declined .badArgument s := by
  unfold decideReadAccount
  obtain other | ⟨selector, zero⟩ | ⟨selector, above⟩ := h
  · split
    · omega
    · omega
    · rfl
  · simp [selector, tagArg_zero zero]
  · simp [selector, within, Nat.not_le_of_lt above]

theorem readByTag_present (law : TableLaw s) (clean : CleanTable s) (here : s.tags.table[i]? = some ⟨e, .clean⟩) :
    readByTag e.tag s = entryReply i e s := by rw [readByTag, lookupTag_present law clean here]

theorem readByTag_missing (law : TableLaw s) (clean : CleanTable s) (none : ∀ w ∈ s.tags.table, w.content.tag ≠ tag) :
    readByTag tag s = missingReply s := by
  obtain ⟨i, ended, -⟩ := lookupTag_missing law clean none
  rw [readByTag, ended]

/-! ### Read Account by index -/

theorem readIndexFrom_clean (n : Nat) (here : s.tags.table[i]? = some ⟨e, .clean⟩) :
    readIndexFrom (n + 1) i s = (some e, s) := by simp only [readIndexFrom, readEntry, here]

theorem readIndexFrom_missing (n : Nat) (past : s.tags.table.length ≤ i) : readIndexFrom (n + 1) i s = (none, s) := by
  simp only [readIndexFrom, readEntry, List.getElem?_eq_none past]

theorem latchAll_latchAll (v : Event) (s : State) : latchAll v (latchAll v s) = latchAll v s := by
  have twice (q : PortState) : (q.latch v).latch v = q.latch v := by
    change q.setLatched (q.latched ||| eventSet v ||| eventSet v) = q.setLatched (q.latched ||| eventSet v)
    rw [BitVec.or_assoc, BitVec.or_self]
  simp [latchAll, twice]

/-- The damaged entries that stand at an index leave the table one after the other (R187). -/
theorem readIndexFrom_damaged (n : Nat) {before damaged after : List (Stored AccountEntry)}
    (table : s.tags.table = before ++ damaged ++ after) (some : damaged ≠ [])
    (bad : ∀ w ∈ damaged, w.health = .double) :
    readIndexFrom (n + damaged.length) before.length s =
      readIndexFrom n before.length (latchAll .accountDamaged (s.withTable (before ++ after))) := by
  induction damaged generalizing s with
  | nil => exact absurd rfl some
  | cons w rest ih =>
    obtain ⟨e, health⟩ := w
    obtain rfl : health = .double := bad _ (List.mem_cons_self ..)
    have first : s.tags.table[before.length]? = Option.some ⟨e, .double⟩ := by rw [table]; simp
    have removed : removeDamaged before.length s = latchAll .accountDamaged (s.withTable (before ++ rest ++ after)) := by
      rw [removeDamaged, table, List.append_assoc, List.cons_append, eraseIdx_split, List.append_assoc]
    have step : readIndexFrom (n + (rest.length + 1)) before.length s =
        readIndexFrom (n + rest.length) before.length (removeDamaged before.length s) := by
      rw [← Nat.add_assoc]
      simp only [readIndexFrom, readEntry, first]
    rw [List.length_cons, step, removed]
    cases rest with
    | nil => simp
    | cons w rest =>
      rw [ih rfl (List.cons_ne_nil _ _) (fun v hv => bad v (List.mem_cons_of_mem _ hv))]
      exact congrArg _ (latchAll_latchAll .accountDamaged (s.withTable (before ++ after)))

theorem readByIndex_clean (here : s.tags.table[i]? = some ⟨e, .clean⟩) : readByIndex i s = entryReply i e s := by
  rw [readByIndex, readIndex, readIndexFrom_clean _ here]

theorem readByIndex_missing (past : s.tags.table.length ≤ i) : readByIndex i s = missingReply s := by
  rw [readByIndex, readIndex, readIndexFrom_missing _ past]

section
variable {before damaged after : List (Stored AccountEntry)} (some : damaged ≠ [])
  (bad : ∀ w ∈ damaged, w.health = .double)
include some bad

theorem readIndex_damaged (table : s.tags.table = before ++ damaged ++ after) :
    ∃ n, readIndex before.length s =
      readIndexFrom (n + 1) before.length (latchAll .accountDamaged (s.withTable (before ++ after))) := by
  refine ⟨before.length + after.length, ?_⟩
  have fuel : s.tags.table.length + 1 = (before.length + after.length + 1) + damaged.length := by
    rw [table]; simp only [List.length_append]; omega
  rw [readIndex, fuel, readIndexFrom_damaged _ table some bad]

theorem readByIndex_damaged_entry (table : s.tags.table = before ++ damaged ++ ⟨e, .clean⟩ :: after) :
    readByIndex before.length s =
      entryReply before.length e (latchAll .accountDamaged (s.withTable (before ++ ⟨e, .clean⟩ :: after))) := by
  obtain ⟨n, read⟩ := readIndex_damaged some bad table
  have here : (latchAll .accountDamaged (s.withTable (before ++ ⟨e, .clean⟩ :: after))).tags.table[before.length]? =
      Option.some ⟨e, .clean⟩ := by
    change (before ++ ⟨e, .clean⟩ :: after)[before.length]? = _
    simp
  rw [readByIndex, read, readIndexFrom_clean _ here]

theorem readByIndex_damaged_end (table : s.tags.table = before ++ damaged) :
    readByIndex before.length s = missingReply (latchAll .accountDamaged (s.withTable before)) := by
  obtain ⟨n, read⟩ := readIndex_damaged (after := []) some bad (by rw [table, List.append_nil])
  rw [List.append_nil] at read
  have past : (latchAll .accountDamaged (s.withTable before)).tags.table.length ≤ before.length := Nat.le_refl _
  rw [readByIndex, read, readIndexFrom_missing _ past]

end

/-- The index of an entry fits the table. -/
theorem TableLaw.index (law : TableLaw s) (h : i < s.tags.table.length) : i ≤ 4095 :=
  Nat.le_of_lt_succ (h.trans_le law.size)

theorem TableLaw.takeRequest (law : TableLaw s) (p : Port) (n kb : Byte) : TableLaw (takeRequest p n kb s) :=
  ⟨law.size, law.order, law.fits⟩

/-- Settles O34, from what the lookups by tag and the reads by index return. -/
theorem readAccountFinds : Obligations.ReadAccountFinds := by
  intro p n d i e before damaged after s accepts law
  refine ⟨fun clean selector here tag => ?_, fun clean selector pos none => ?_, fun selector here index => ?_,
    fun selector past fits => ?_, fun bad => ?_, fun selector index table start some bad => ?_,
    fun selector index table start some bad => ?_⟩
  · have pos : 0 < beAt d 1 5 := tag ▸ (law.fits _ (List.mem_of_getElem? here)).1
    refine exec_decided accepts rfl ((decideReadAccount_byTag selector pos).trans ?_)
    rw [← tag, readByTag_present (law.takeRequest ..) clean here]
    rfl
  · refine exec_decided accepts rfl ((decideReadAccount_byTag selector pos).trans ?_)
    rw [readByTag_missing (law.takeRequest ..) clean none]
    rfl
  · have inside := law.index (List.getElem?_eq_some_iff.mp here).1
    subst index
    refine exec_decided accepts rfl ((decideReadAccount_byIndex selector inside).trans ?_)
    exact readByIndex_clean (s := takeRequest p n Kind.readAccount.code s) here
  · refine exec_decided accepts rfl ((decideReadAccount_byIndex selector fits).trans ?_)
    exact readByIndex_missing (s := takeRequest p n Kind.readAccount.code s) past
  · exact exec_decided accepts rfl (decideReadAccount_bad bad)
  · have inside := law.index (i := i) (by rw [table, ← start]; simp)
    subst index
    refine exec_decided accepts rfl ((decideReadAccount_byIndex selector inside).trans ?_)
    rw [← start]
    refine (readByIndex_damaged_entry (s := takeRequest p n Kind.readAccount.code s) some bad table).trans ?_
    change entryReply _ e (latchAll .accountDamaged (takeRequest p n Kind.readAccount.code (s.withTable _))) = _
    rw [latchAll_takeRequest, entryReply]
    refine congrArg _ (congrArg _ (congrArg _ ?_))
    change _ ++ beBytes 2 (before ++ _ :: after).length = _
    simp only [List.length_append, List.length_cons]
    rw [Nat.add_assoc, Nat.add_comm 1]
  · have inside := law.index (i := i) (by
      have := List.length_pos_iff.mpr some
      rw [table, ← start, List.length_append]
      omega)
    subst index
    refine exec_decided accepts rfl ((decideReadAccount_byIndex selector inside).trans ?_)
    rw [← start]
    refine (readByIndex_damaged_end (s := takeRequest p n Kind.readAccount.code s) some bad table).trans ?_
    change missingReply (latchAll .accountDamaged (takeRequest p n Kind.readAccount.code (s.withTable _))) = _
    rw [latchAll_takeRequest]
    rfl

/-! ### Put Account and Delete Account -/

/-- An ordered table parted at the entry of a tag. -/
theorem Ordered.parts (h : Ordered (contents s)) {w : Stored AccountEntry} (here : s.tags.table[i]? = some w) :
    ∃ a b, s.tags.table = a ++ w :: b ∧ a.length = i ∧ (∀ v ∈ a, v.content.tag < w.content.tag)
      ∧ ∀ v ∈ b, w.content.tag < v.content.tag := by
  obtain ⟨a, b, table, rfl⟩ := split_at here
  have order := (List.pairwise_map (f := Stored.content)).mp h
  rw [table] at order
  obtain ⟨-, second, across⟩ := List.pairwise_append.mp order
  exact ⟨a, b, table, rfl, fun v hv => across v hv w (List.mem_cons_self ..), (List.pairwise_cons.mp second).1⟩

theorem map_of_tag_ne {a : List (Stored AccountEntry)} (h : ∀ v ∈ a, v.content.tag ≠ e.tag) :
    a.map (fun v => if v.content.tag = e.tag then ⟨e, .clean⟩ else v) = a := by
  refine (List.map_congr_left fun v hv => if_neg (h v hv)).trans (List.map_id a)

theorem filter_all {a : List (Stored AccountEntry)} {f : Stored AccountEntry → Prop} [DecidablePred f]
    (h : ∀ v ∈ a, f v) : a.filter (fun v => decide (f v)) = a :=
  List.filter_eq_self.mpr fun v hv => decide_eq_true (h v hv)

theorem filter_none {a : List (Stored AccountEntry)} {f : Stored AccountEntry → Prop} [DecidablePred f]
    (h : ∀ v ∈ a, ¬ f v) : a.filter (fun v => decide (f v)) = [] :=
  List.filter_eq_nil_iff.mpr fun v hv => by simpa using h v hv

/-- Writing over the entry of a tag is replacing it wherever it stands. -/
theorem set_eq_map (h : Ordered (contents s)) {w : Stored AccountEntry} (here : s.tags.table[i]? = some w)
    (same : w.content.tag = e.tag) : s.tags.table.set i ⟨e, .clean⟩ =
      s.tags.table.map fun v => if v.content.tag = e.tag then ⟨e, .clean⟩ else v := by
  obtain ⟨a, b, table, rfl, below, above⟩ := h.parts here
  rw [table, set_split, List.map_append, List.map_cons, if_pos same,
    map_of_tag_ne fun v hv => Nat.ne_of_lt (same ▸ below v hv),
    map_of_tag_ne fun v hv => Nat.ne_of_gt (same ▸ above v hv)]

/-- Erasing the entry of a tag is keeping the others. -/
theorem eraseIdx_eq_filter (h : Ordered (contents s)) {w : Stored AccountEntry} (here : s.tags.table[i]? = some w)
    (same : w.content.tag = tag) :
    s.tags.table.eraseIdx i = s.tags.table.filter fun v => decide (v.content.tag ≠ tag) := by
  obtain ⟨a, b, table, rfl, below, above⟩ := h.parts here
  subst same
  rw [table, eraseIdx_split, List.filter_append, List.filter_cons,
    filter_all fun v hv => Nat.ne_of_lt (below v hv), filter_all fun v hv => Nat.ne_of_gt (above v hv)]
  simp

/-- Inserting an entry in its place is putting it between the smaller and the greater tags. -/
theorem insertIdx_eq_filter (gap : Gap e.tag (contents s) i) : s.tags.table.insertIdx i ⟨e, .clean⟩ =
    s.tags.table.filter (fun v => decide (v.content.tag < e.tag)) ++ [⟨e, .clean⟩]
      ++ s.tags.table.filter (fun v => decide (e.tag < v.content.tag)) := by
  obtain ⟨a, b, table, rfl, below, above⟩ := gap.parts
  obtain ⟨x, y, split, rfl, rfl⟩ := List.map_eq_append_iff.mp table
  have small : ∀ v ∈ x, v.content.tag < e.tag := fun v hv => below _ (List.mem_map_of_mem hv)
  have great : ∀ v ∈ y, e.tag < v.content.tag := fun v hv => above _ (List.mem_map_of_mem hv)
  rw [split, List.length_map, insertIdx_split, List.filter_append, List.filter_append, filter_all small, filter_all great,
    filter_none fun v hv => Nat.not_lt_of_lt (great v hv), filter_none fun v hv => Nat.not_lt_of_lt (small v hv)]
  simp

theorem decidePutAccount_some (h : entryArg d = some e) : decidePutAccount d s = putEntry e s := by
  simp [decidePutAccount, h]

theorem decidePutAccount_none (h : entryArg d = none) : decidePutAccount d s = declined .badArgument s := by
  simp [decidePutAccount, h]

theorem decideDeleteAccount_some (h : 0 < beAt d 0 5) : decideDeleteAccount d s = deleteEntry (beAt d 0 5) s := by
  simp [decideDeleteAccount, tagArg_pos h]

theorem decideDeleteAccount_none (h : beAt d 0 5 = 0) : decideDeleteAccount d s = declined .badArgument s := by
  simp [decideDeleteAccount, tagArg_zero h]

/-- The entry of a tag in a table without error, with its index. -/
theorem exists_entry (clean : CleanTable s) (h : ∃ w ∈ s.tags.table, w.content.tag = tag) :
    ∃ (i : Nat) (x : AccountEntry), s.tags.table[i]? = some ⟨x, .clean⟩ ∧ x.tag = tag := by
  obtain ⟨⟨x, health⟩, hw, same⟩ := h
  obtain rfl : health = .clean := clean _ hw
  obtain ⟨i, hi⟩ := List.mem_iff_getElem?.mp hw
  exact ⟨i, x, hi, same⟩

section
variable (law : TableLaw s) (clean : CleanTable s)
include law clean

theorem putEntry_replaces (h : ∃ w ∈ s.tags.table, w.content.tag = e.tag) : putEntry e s =
    (s.withTable (s.tags.table.map fun w => if w.content.tag = e.tag then ⟨e, .clean⟩ else w),
      some (.ok (0 :: beBytes 2 s.tags.table.length))) := by
  obtain ⟨i, x, here, same⟩ := exists_entry clean h
  have table := set_eq_map law.ordered here same
  have ended : lookupTag e.tag s = (.found i x, s) := same ▸ lookupTag_present law clean here
  have written : writeEntry i e s = s.withTable _ := congrArg s.withTable table
  have count : countBytes (writeEntry i e s) = beBytes 2 s.tags.table.length := congrArg (beBytes 2) List.length_set
  rw [putEntry, ended]
  dsimp only
  rw [count, written]

theorem putEntry_inserts (none : ∀ w ∈ s.tags.table, w.content.tag ≠ e.tag) (room : s.tags.table.length < 4096) :
    putEntry e s =
      (s.withTable (s.tags.table.filter (fun w => decide (w.content.tag < e.tag)) ++ [⟨e, .clean⟩]
        ++ s.tags.table.filter (fun w => decide (e.tag < w.content.tag))),
        some (.ok (1 :: beBytes 2 (s.tags.table.length + 1)))) := by
  obtain ⟨i, ended, gap⟩ := lookupTag_missing law clean none
  have length := List.length_insertIdx_of_le_length (contents_length s ▸ gap.inside) (⟨e, .clean⟩ : Stored AccountEntry)
  have inserted : insertEntry i e s = s.withTable (s.tags.table.filter (fun w => decide (w.content.tag < e.tag))
      ++ [⟨e, .clean⟩] ++ s.tags.table.filter (fun w => decide (e.tag < w.content.tag))) := by
    rw [insertEntry, insertIdx_eq_filter gap]
  have count : countBytes (insertEntry i e s) = beBytes 2 (s.tags.table.length + 1) := congrArg _ length
  rw [putEntry, ended]
  dsimp only
  rw [if_pos (by exact room), count, inserted]

theorem putEntry_full (none : ∀ w ∈ s.tags.table, w.content.tag ≠ e.tag) (full : s.tags.table.length = 4096) :
    putEntry e s = (s, some (.full (beBytes 2 4096))) := by
  obtain ⟨i, ended, -⟩ := lookupTag_missing law clean none
  rw [putEntry, ended]
  dsimp only
  rw [if_neg (by rw [full]; decide), countBytes, full]

theorem deleteEntry_removes (h : ∃ w ∈ s.tags.table, w.content.tag = tag) : deleteEntry tag s =
    (s.withTable (s.tags.table.filter fun w => decide (w.content.tag ≠ tag)),
      some (.ok (beBytes 2 (s.tags.table.length - 1)))) := by
  obtain ⟨i, x, here, rfl⟩ := exists_entry clean h
  have table := eraseIdx_eq_filter law.ordered here rfl
  have length := List.length_eraseIdx_of_lt (List.getElem?_eq_some_iff.mp here).1
  rw [deleteEntry, lookupTag_present law clean here]
  dsimp only at table ⊢
  rw [← table]
  exact congrArg _ (congrArg _ (congrArg _ (congrArg (beBytes 2) length)))

theorem deleteEntry_missing (none : ∀ w ∈ s.tags.table, w.content.tag ≠ tag) : deleteEntry tag s = missingReply s := by
  obtain ⟨i, ended, -⟩ := lookupTag_missing law clean none
  rw [deleteEntry, ended]

end

/-- Settles O35, from the lookup in a table without error and from what the list operations are in an ordered one. -/
theorem putAndDeleteAccount : Obligations.PutAndDeleteAccount := by
  intro p n d e tag s law clean
  have law' (kb : Byte) : TableLaw (takeRequest p n kb s) := law.takeRequest p n kb
  refine ⟨fun h bad => ?_, fun h arg found => ?_, fun h arg none room => ?_, fun h arg none full => ?_,
    fun h named pos found => ?_, fun h named pos none => ?_, fun h zero => ?_⟩
  · exact exec_decided h rfl (decidePutAccount_none bad)
  · exact exec_decided h rfl ((decidePutAccount_some arg).trans (putEntry_replaces (law' _) clean found))
  · exact exec_decided h rfl ((decidePutAccount_some arg).trans (putEntry_inserts (law' _) clean none room))
  · exact exec_decided h rfl ((decidePutAccount_some arg).trans (putEntry_full (law' _) clean none full))
  · subst named
    exact exec_decided h rfl ((decideDeleteAccount_some pos).trans (deleteEntry_removes (law' _) clean found))
  · subst named
    exact exec_decided h rfl ((decideDeleteAccount_some pos).trans (deleteEntry_missing (law' _) clean none))
  · exact exec_decided h rfl (decideDeleteAccount_none zero)

/-! ### The permission of check 6 -/

theorem find?_eq_some_of_ordered (law : TableLaw s) (here : s.tags.table[i]? = some ⟨e, .clean⟩) :
    (s.tags.table.map Stored.content).find? (fun v => decide (v.tag = e.tag)) = some e := by
  obtain ⟨a, b, table, -, below, -⟩ := law.ordered.parts here
  rw [table, List.map_append, List.find?_append, List.map_cons, List.find?_cons_of_pos (by simp),
    List.find?_eq_none.mpr fun v hv => ?_]
  · rfl
  · obtain ⟨w, hw, rfl⟩ := List.mem_map.mp hv
    simpa using Nat.ne_of_lt (below w hw)

theorem find?_eq_none_of_missing (none : ∀ w ∈ s.tags.table, w.content.tag ≠ tag) :
    (s.tags.table.map Stored.content).find? (fun v => decide (v.tag = tag)) = Option.none :=
  List.find?_eq_none.mpr fun v hv => by
    obtain ⟨w, hw, rfl⟩ := List.mem_map.mp hv
    simpa using none w hw

theorem usableTag_eq (l : Lifter) (s : State) : usableTag l s =
    match s.tags.pendingTags.get l with
    | none => none
    | some x => if s.bodyTimer - x.stamp ≤ 4000 then some x else none := by
  unfold usableTag
  cases s.tags.pendingTags.get l with
  | none => rfl
  | some x => simp [Option.filter, elapsed, pendingTagMs]

/-- Settles O13, from what the lookup of a tag returns in an ordered table without error. -/
theorem tagPermissionDecided : Obligations.TagPermissionDecided := by
  intro l s law clean
  have decided (tag : Nat) : (match lookupTag tag s with
      | (.absent _, s1) => (if s1.tags.unknownAllow then .granted (some tag) none else .refused .unknownTagRefused, s1)
      | (.found _ e, s1) => (entryPermission tag e, s1)) = (tagPermissionFor tag s, s) := by
    by_cases found : ∃ w ∈ s.tags.table, w.content.tag = tag
    · obtain ⟨i, x, here, rfl⟩ := exists_entry clean found
      rw [lookupTag_present law clean here, tagPermissionFor, find?_eq_some_of_ordered law here]
      rfl
    · have none : ∀ w ∈ s.tags.table, w.content.tag ≠ tag := fun w hw same => found ⟨w, hw, same⟩
      obtain ⟨i, ended, -⟩ := lookupTag_missing law clean none
      rw [ended, tagPermissionFor, find?_eq_none_of_missing none]
  rw [tagPermission, usableTag_eq, permissionFor]
  cases s.tags.pendingTags.get l with
  | none => rfl
  | some x =>
    by_cases fresh : s.bodyTimer - x.stamp ≤ 4000
    · simp only [if_pos fresh]
      exact decided x.tag
    · simp only [if_neg fresh]
      rfl

/-! ### Tag reads -/

theorem dispositionOf_eq (ok : Bool) (tag q : Nat) (s : State) : dispositionOf s ok tag q =
    if ok = false ∨ tag = 0 then .invalid
    else if s.body.state = .starting then .starting
    else if q < s.tags.threshold then .lowQuality
    else if bound s .left = some tag ∨ bound s .right = some tag then .bound
    else .accepted :=
  if_congr (by simp) rfl (if_congr Iff.rfl rfl (if_congr Iff.rfl rfl
    (if_congr (by simp only [bindsTag, bound, Bool.or_eq_true, beq_iff_eq]) rfl rfl)))

theorem isPending_eq (x : TagUnit) (tag : Nat) (m : Lifter) :
    isPending x tag m = true ↔ (x.pendingTags.get m).map PendingTag.tag = some tag := by
  rw [isPending_iff, Option.map_eq_some_iff]

section
variable {l : Lifter} {q now : Nat} {x : TagUnit}

theorem acceptTag_free (free : isPending x tag (otherLifter l) = false) : acceptTag l tag q now x =
    { x with pendingTags := x.pendingTags.set l (some ⟨tag, q, now⟩) } := by simp [acceptTag, free]

theorem acceptTag_crossed (crossed : isPending x tag (otherLifter l) = true) : acceptTag l tag q now x =
    { x with
      pendingTags := (x.pendingTags.set (otherLifter l) none).set l (some ⟨tag, q, now⟩)
      crossReads := saturatingSucc top16 x.crossReads } := by simp [acceptTag, crossed]

end

/-- Settles O54: the disposition is the first that applies, and an accepted read leaves the other lifter's slot. -/
theorem tagReadsSorted : Obligations.TagReadsSorted := by
  intro l ok tag q dis s awake first
  have disposition : dispositionOf s ok tag.toNat q.toNat = dis := (dispositionOf_eq ..).trans first.symm
  have taken : exec (.tagRead l ok tag q) s = .next (takeRead l ok tag.toNat q.toNat s) := by
    change Host.Outcome.next _ = _
    rw [awake]
    rfl
  have valid (accepted : dis = .accepted) : ok = true := by
    by_contra bad
    rw [first, if_pos (.inl (Bool.eq_false_iff.mpr bad))] at accepted
    cases accepted
  refine ⟨fun other => ?_, fun accepted free => ?_, fun accepted crossed => ?_⟩
  · rw [taken, takeRead, disposition]
    dsimp only
    rw [if_neg other]
    rfl
  · obtain rfl := valid accepted
    have free' := Bool.eq_false_iff.mpr fun h => free ((isPending_eq s.tags tag.toNat (otherLifter l)).mp h)
    rw [taken, takeRead, disposition]
    dsimp only
    rw [if_pos accepted, accepted]
    exact congrArg (fun v => Host.Outcome.next (s.withTags v)) (acceptTag_free (by exact free'))
  · obtain rfl := valid accepted
    have crossed' := (isPending_eq s.tags tag.toNat (otherLifter l)).mpr crossed
    rw [taken, takeRead, disposition]
    dsimp only
    rw [if_pos accepted, accepted]
    exact congrArg (fun v => Host.Outcome.next (s.withTags v)) (acceptTag_crossed (by exact crossed'))

end Sys2Proof.Safety
end

section
/-! PROOFS. The EEPROM writes: handed over, begun, ended and failed, and the requests and readings that ask for one
(O29, O40, O41, O42, O43). -/

namespace Sys2Proof.Safety

open Sys2Proof.Machine

variable {s t : State} {p q : Port} {n m k : Byte} {d : List Byte} {j : WriteJob} {rest : List WriteJob}

/-! ### A write that begins (R211) -/

/-- The head of a queue of writes begins (R211). -/
theorem beginHead_eq (q : List WriteJob) (s : State) : beginHead (s.withWrites q) = begun q s := by
  cases q with
  | nil => rfl
  | cons j rest => cases j <;> rfl

theorem nextWrite_eq (h : s.loader.writes = j :: rest) : nextWrite s = begun rest s := by
  rw [nextWrite, beginHead_eq, h]
  rfl

theorem handWrite_eq (j : WriteJob) (s : State) : handWrite j s = handed j s := by
  unfold handWrite handed
  cases s.loader.writes with
  | nil => exact beginHead_eq [j] s
  | cons => rfl

section
variable (q : List WriteJob) (s : State)

theorem begun_only : Only [.calib, .loader] s (begun q s) := by
  rw [← beginHead_eq]
  exact (withLoader_only s _).both (beginHead_only _) (by decide) (by decide)

theorem begun_eeprom : (begun q s).loader.eeprom = s.loader.eeprom ∧ (begun q s).loader.load = s.loader.load := by
  cases q with
  | nil => exact ⟨rfl, rfl⟩
  | cons j rest => cases j <;> exact ⟨rfl, rfl⟩

theorem begun_writeStart : (begun q s).loader.writeStart = if q = [] then none else some s.bodyTimer := by
  cases q with
  | nil => rfl
  | cons j rest => cases j <;> rfl

theorem begun_length : (begun q s).loader.writes.length = q.length := by
  cases q with
  | nil => rfl
  | cons j rest => cases j <;> rfl

/-- A write that begins leaves the calibration but for the marks of writes taken before a commit. -/
theorem begun_calib : { (begun q s).calib with cal := s.calib.cal } = s.calib := by
  cases q with
  | nil => rfl
  | cons j rest => cases j <;> rfl

theorem begun_cal (l : Lifter) : ((begun q s).calib.cal.get l).items = (s.calib.cal.get l).items
    ∧ ((begun q s).calib.cal.get l).committed = (s.calib.cal.get l).committed
    ∧ ((begun q s).calib.cal.get l).valid = (s.calib.cal.get l).valid := by
  cases q with
  | nil => exact ⟨rfl, rfl, rfl⟩
  | cons j rest => cases j <;> cases l <;> exact ⟨rfl, rfl, rfl⟩

/-- The writes that have begun overwrite those handed over before. -/
theorem begun_withWrites (v : List WriteJob) : begun q (s.withWrites v) = begun q s := by
  cases q with
  | nil => rfl
  | cons j rest => cases j <;> rfl

end

theorem handed_takeRequest (j : WriteJob) (p : Port) (n kb : Byte) (s : State) :
    handed j (takeRequest p n kb s) = takeRequest p n kb (handed j s) := by
  unfold handed
  simp only [show (takeRequest p n kb s).loader = s.loader from rfl]
  split
  · cases j <;> rfl
  · rfl

/-- A request whose answer waits for the end of a write. -/
theorem exec_awaiting {kind : Kind} {i : Instr} {owner : State → Decision} (accepts : Accepts kind p d s)
    (serves : exec i s = .next (serve kind p n d owner s))
    (decides : owner (takeRequest p n kind.code s) = (handWrite j (takeRequest p n kind.code s), none)) :
    exec i s = .next (awaiting p n kind (handed j s)) := by
  refine serves.trans (congrArg _ ?_)
  rw [serve_of_accepts n owner accepts, decides, handWrite_eq, handed_takeRequest]
  rfl

/-! ### A write that ends -/

theorem endingWrite_head (h : s.loader.writes = j :: rest) (lasted : due s s.loader.writeStart 5 = true) :
    endingWrite s = some j :=
  endingWrite_eq_some.mpr ⟨(expired_eq_due ..).trans lasted, by rw [h]; rfl⟩

/-- Before its 5 ms, or while another write is in progress, no write of a kind ends (log 33). -/
theorem endingWrite_other {f : WriteJob → Bool}
    (h : due s s.loader.writeStart 5 = false ∨ s.loader.writes.head?.all (fun j => !f j) = true) (j : WriteJob)
    (ends : endingWrite s = some j) : f j = false := by
  obtain ⟨lasted, head⟩ := endingWrite_eq_some.mp ends
  obtain early | other := h
  · rw [expired_eq_due] at lasted
    rw [show due s s.loader.writeStart 5 = due s s.loader.writeStart writeMs from rfl, lasted] at early
    cases early
  · rw [head] at other
    simpa using other

/-- The outcome of a failed write: its part as it was, as written, or failing its check (log 7). -/
theorem brokenPart_cases {α : Type} (free : Nat) (old : Machine.Part α) (new : α) :
    brokenPart free old new = old ∨ brokenPart free old new = ⟨new, true⟩ ∨ (brokenPart free old new).good = false :=
  brokenPart_cut free old new

/-! ### Save Settings (R215) -/

theorem mayNotSave_iff : mayNotSave s = true ↔ s.context .left ≠ none ∨ s.context .right ≠ none
    ∨ s.packers.residual.state ≠ .idle ∨ s.packers.recycle.state ≠ .idle
    ∨ s.loader.writes.any isSettingsJob = true := by
  simp only [mayNotSave, Bool.or_eq_true, Bool.not_eq_true', lifterIdle_eq_false, decide_eq_true_eq, savingSettings]
  tauto

theorem currentSettings_takeRequest (p : Port) (n kb : Byte) (s : State) :
    currentSettings (takeRequest p n kb s) = currentSettings s := by cases p <;> rfl

theorem settingsWriteEnd_head {x : Settings} (ok : Bool) (h : s.loader.writes = .settings q x :: rest)
    (lasted : due s s.loader.writeStart 5 = true) : exec (.settingsWriteEnd ok) s = .next (nextWrite
      (endSettingsWrite ok q x (if ok then s else breakWrite (.settings q x) s))) := by
  change Host.Outcome.next (match endingWrite s with
    | some (.settings p x) =>
      nextWrite (endSettingsWrite ok p x (if ok then s else breakWrite (.settings p x) s))
    | _ => s) = _
  rw [endingWrite_head h lasted]

/-- Settles O29. -/
theorem settingsAreSaved : Obligations.SettingsAreSaved := by
  intro p q n m k d x rest s
  refine ⟨fun h busy => ?_, fun h left right residual recycle free => ?_, fun head lasted waits => ?_,
    fun head lasted waits => ?_, fun other ok => ?_, fun early ok => ?_⟩
  · exact exec_decided h rfl (if_pos (mayNotSave_iff.mpr busy))
  · have may : ¬ mayNotSave s = true := by simp [mayNotSave_iff, left, right, residual, recycle, free]
    refine exec_awaiting h rfl ((if_neg may).trans ?_)
    rw [currentSettings_takeRequest]
  · rw [settingsWriteEnd_head true head lasted, if_pos rfl, endSettingsWrite, if_pos rfl,
      answerPort_of_waiting _ (by exact waits)]
    exact congrArg _ (nextWrite_eq (by exact head))
  · refine ⟨_, brokenPart_cases (Config.freeNat (s.freeIndex + 0)) s.loader.eeprom.settings x, ?_⟩
    rw [settingsWriteEnd_head false head lasted, if_neg Bool.false_ne_true, endSettingsWrite, if_neg Bool.false_ne_true,
      answerPort_of_waiting _ (by exact waits)]
    exact congrArg _ (nextWrite_eq (by exact head))
  · change Host.Outcome.next (match endingWrite s with | some (.settings p x) => _ | _ => s) = _
    split
    · next q x ends =>
      obtain ⟨-, head⟩ := endingWrite_eq_some.mp ends
      obtain ⟨rest, head⟩ := List.head?_eq_some_iff.mp head
      exact absurd head (other q x rest)
    · rfl
  · change Host.Outcome.next (match endingWrite s with | some (.settings p x) => _ | _ => s) = _
    rw [endingWrite_early ((expired_eq_due ..).trans early)]

/-! ### Write Calibration (R131 to R133) -/

section
variable {l : Lifter} {item : CalItem}

theorem decideWriteCalibration_sealed (h : s.calib.sealSwitch.reading = false) :
    decideWriteCalibration p d s = refuseSealed s := by simp [decideWriteCalibration, h]

theorem decideWriteCalibration_none (unsealed : s.calib.sealSwitch.reading = true)
    (h : lifterArg (byteAt d 0) = none ∨ itemArg (byteAt d 1) = none) :
    decideWriteCalibration p d s = declined .badArgument s := by
  simp only [decideWriteCalibration, unsealed]
  split
  · cases ‹(!true) = true›
  · split <;> simp_all

theorem decideWriteCalibration_some (unsealed : s.calib.sealSwitch.reading = true)
    (first : lifterArg (byteAt d 0) = some l) (second : itemArg (byteAt d 1) = some item) :
    decideWriteCalibration p d s = writeItem p l item (signedAt d 2 3) s := by
  simp [decideWriteCalibration, unsealed, first, second]

theorem writeItem_range {v : Int} (h : itemInRange item v = false) :
    writeItem p l item v s = declined .badArgument s := by simp [writeItem, h]

theorem writeItem_division {v : Int} (h : divisionFits (s.calib.cal.get l).items item v = false) :
    writeItem p l item v s = declined .badArgument s := by simp [writeItem, h]

theorem writeItem_fits {v : Int} (range : itemInRange item v = true)
    (division : divisionFits (s.calib.cal.get l).items item v = true) : writeItem p l item v s =
      if s.loader.writes.any isCounterJob then declined .busy s
      else (handWrite (.counter p l item v (saturatingSucc top16 s.calib.counter)) s, none) := by
  simp [writeItem, range, division]

end

/-- Settles O40: the checks in the order of `decideWriteCalibration` and `writeItem`. -/
theorem writeCalibrationChecked : Obligations.WriteCalibrationChecked := by
  intro p n d l item s h
  have checks (unsealed : s.calib.sealSwitch.reading = true) (first : lifterArg (byteAt d 0) = some l) {v : CalItem}
      (second : itemArg (byteAt d 1) = some v) :=
    decideWriteCalibration_some (s := takeRequest p n Kind.writeCalibration.code s) (p := p) unsealed first second
  refine ⟨fun shut => ?_, fun unsealed bad => ?_, fun unsealed first second range => ?_,
    fun b unsealed first second small => ?_, fun b unsealed first second small => ?_,
    fun unsealed first second range division => ?_⟩
  · refine exec_decided h rfl ((decideWriteCalibration_sealed (by exact shut)).trans ?_)
    rw [refuseSealed, latchAll_takeRequest]
  · exact exec_decided h rfl (decideWriteCalibration_none (by exact unsealed) bad)
  · exact exec_decided h rfl ((checks unsealed first second).trans (writeItem_range range))
  · refine exec_decided h rfl ((checks unsealed first second).trans (writeItem_division ?_))
    exact decide_eq_false (Int.not_le.mpr small)
  · refine exec_decided h rfl ((checks unsealed first second).trans (writeItem_division ?_))
    exact decide_eq_false (Int.not_le.mpr small)
  · have decides := (checks unsealed first second).trans (writeItem_fits range division)
    split
    · next busy => exact exec_decided h rfl (decides.trans (if_pos busy))
    · next free => exact exec_awaiting h rfl (decides.trans (if_neg free))

theorem counterWriteEnd_head {l : Lifter} {item : CalItem} {v : Int} {c : Nat} (ok : Bool)
    (h : s.loader.writes = .counter p l item v c :: rest) (lasted : due s s.loader.writeStart 5 = true) :
    exec (.counterWriteEnd ok) s = .next (nextWrite
      (endCounterWrite ok p l item v c (if ok then s else breakWrite (.counter p l item v c) s))) := by
  change Host.Outcome.next (match endingWrite s with
    | some (.counter p l item v n) =>
      nextWrite (endCounterWrite ok p l item v n (if ok then s else breakWrite (.counter p l item v n) s))
    | _ => s) = _
  rw [endingWrite_head h lasted]

/-- Settles O41. -/
theorem counterWriteEnds : Obligations.CounterWriteEnds := by
  intro p m k l item v c rest s
  refine ⟨fun head lasted waits unsealed => ?_, fun head lasted waits shut => ?_, fun head lasted waits => ?_,
    fun other ok => ?_⟩
  · rw [counterWriteEnd_head true head lasted, if_pos rfl, endCounterWrite, if_pos rfl, if_pos unsealed,
      answerPort_of_waiting _ (by exact waits)]
    exact congrArg _ (nextWrite_eq (by exact head))
  · rw [counterWriteEnd_head true head lasted, if_pos rfl, endCounterWrite, if_pos rfl,
      if_neg (by rw [shut]; exact Bool.false_ne_true), answerPort_of_waiting _ (by exact waits)]
    exact congrArg _ (nextWrite_eq (by exact head))
  · refine ⟨_, brokenPart_cases (Config.freeNat (s.freeIndex + 0)) s.loader.eeprom.counter c, ?_⟩
    rw [counterWriteEnd_head false head lasted, if_neg Bool.false_ne_true, endCounterWrite, if_neg Bool.false_ne_true,
      answerPort_of_waiting _ (by exact waits)]
    exact congrArg _ (nextWrite_eq (by exact head))
  · change Host.Outcome.next (match endingWrite s with | some (.counter p l item v n) => _ | _ => s) = _
    split
    · next ends => cases endingWrite_other other _ ends
    · rfl

/-! ### Write Identity (R137) -/

section
variable {x : Vector (Option Byte) 16}

theorem decideWriteIdentity_long (h : 16 < byteAt d 0 + (d.drop 1).length) :
    decideWriteIdentity p d s = declined .badArgument s := if_pos h

theorem decideWriteIdentity_char (h : ∃ c ∈ d.drop 1, c.toNat < 32 ∨ 126 < c.toNat) :
    decideWriteIdentity p d s = declined .badArgument s := by
  have bad : (d.drop 1).all identityChar = false := by
    obtain ⟨c, hc, out⟩ := h
    refine List.all_eq_false.mpr ⟨c, hc, ?_⟩
    simp only [identityChar, Bool.and_eq_true, decide_eq_true_eq]
    omega
  unfold decideWriteIdentity
  dsimp only
  split
  · rfl
  · rw [bad]; rfl

/-- Characters within their range in positions that exist (R137 checks 1 and 2). -/
theorem decideWriteIdentity_fits (short : byteAt d 0 + (d.drop 1).length ≤ 16)
    (chars : ∀ c ∈ d.drop 1, 32 ≤ c.toNat ∧ c.toNat ≤ 126) : decideWriteIdentity p d s =
      if alreadyWritten s.calib.identity (byteAt d 0) (d.drop 1).length then declined .locked s
      else if s.loader.writes.any isIdentityJob then declined .busy s
      else (handWrite (.identity p (addCharacters s.calib.identity (byteAt d 0) (d.drop 1))) s, none) := by
  have good : (d.drop 1).all identityChar = true := List.all_eq_true.mpr fun c hc => by
    have range := chars c hc
    simp only [identityChar, Bool.and_eq_true, decide_eq_true_eq]
    omega
  unfold decideWriteIdentity
  dsimp only
  rw [if_neg (by omega), if_neg (by rw [good]; decide)]

/-- A position among those named holds a written character. -/
theorem alreadyWritten_iff (first count : Nat) : alreadyWritten x first count = true ↔
    ∃ i : Fin 16, first ≤ i.val ∧ i.val < first + count ∧ (x.get i).isSome = true := by
  simp only [alreadyWritten, List.any_eq_true, List.mem_iff_getElem?]
  constructor
  · rintro ⟨c, ⟨i, hi⟩, written⟩
    have short : i < count := by
      have := (List.getElem?_eq_some_iff.mp hi).1
      rw [List.length_take] at this
      omega
    rw [List.getElem?_take_of_lt short, List.getElem?_drop] at hi
    obtain ⟨inside, same⟩ := List.getElem?_eq_some_iff.mp hi
    have inside' : first + i < 16 := by simpa using inside
    refine ⟨⟨first + i, inside'⟩, Nat.le_add_right .., by simp only; omega, ?_⟩
    rw [Vector.get_eq_getElem]
    simp only [Vector.getElem_toList] at same
    rw [same]
    exact written
  · rintro ⟨i, low, high, written⟩
    refine ⟨x.get i, ⟨i.val - first, ?_⟩, written⟩
    rw [List.getElem?_take_of_lt (by omega), List.getElem?_drop, Nat.add_sub_cancel' low,
      List.getElem?_eq_getElem (by simp)]
    simp [Vector.get_eq_getElem]

theorem addCharacters_eq {old : Vector (Option Byte) 16} (h : ∀ i : Fin 16, x.get i =
      if byteAt d 0 ≤ i.val ∧ i.val < byteAt d 0 + (d.drop 1).length then d[i.val - byteAt d 0 + 1]? else old.get i) :
    addCharacters old (byteAt d 0) (d.drop 1) = x := by
  refine Vector.ext fun i hi => ?_
  have here := h ⟨i, hi⟩
  simp only [Vector.get_eq_getElem] at here
  rw [here, addCharacters, Vector.getElem_ofFn]
  simp only [List.getElem?_drop, Vector.get_eq_getElem]
  rw [Nat.add_comm 1]

theorem identityWriteEnd_head (ok : Bool) (h : s.loader.writes = .identity q x :: rest)
    (lasted : due s s.loader.writeStart 5 = true) : exec (.identityWriteEnd ok) s = .next (nextWrite
      (endIdentityWrite ok q x (if ok then s else breakWrite (.identity q x) s))) := by
  change Host.Outcome.next (match endingWrite s with
    | some (.identity p x) =>
      nextWrite (endIdentityWrite ok p x (if ok then s else breakWrite (.identity p x) s))
    | _ => s) = _
  rw [endingWrite_head h lasted]

end

/-- Settles O43. -/
theorem identityWritten : Obligations.IdentityWritten := by
  intro p q n m k d x rest s
  refine ⟨fun h bad => ?_, fun h short chars written => ?_, fun h short chars free content => ?_,
    fun head lasted waits => ?_, fun head lasted waits => ?_, fun other ok => ?_⟩
  · obtain long | char := bad
    · exact exec_decided h rfl (decideWriteIdentity_long long)
    · exact exec_decided h rfl (decideWriteIdentity_char char)
  · exact exec_decided h rfl ((decideWriteIdentity_fits short chars).trans
      (if_pos ((alreadyWritten_iff _ _).mpr written)))
  · have unwritten : ¬ alreadyWritten s.calib.identity (byteAt d 0) (d.drop 1).length = true := fun written => by
      obtain ⟨i, low, high, some⟩ := (alreadyWritten_iff _ _).mp written
      rw [free i low high] at some
      cases some
    have decides := (decideWriteIdentity_fits (s := takeRequest p n Kind.writeIdentity.code s) (p := p) short
      chars).trans (if_neg unwritten)
    split
    · next busy => exact exec_decided h rfl (decides.trans (if_pos busy))
    · next free =>
      refine exec_awaiting h rfl ((decides.trans (if_neg free)).trans ?_)
      rw [← addCharacters_eq content]
      rfl
  · rw [identityWriteEnd_head true head lasted, if_pos rfl, endIdentityWrite, if_pos rfl,
      answerPort_of_waiting _ (by exact waits)]
    exact congrArg _ (nextWrite_eq (by exact head))
  · refine ⟨_, brokenPart_cases (Config.freeNat (s.freeIndex + 0)) s.loader.eeprom.identity x, ?_⟩
    rw [identityWriteEnd_head false head lasted, if_neg Bool.false_ne_true, endIdentityWrite,
      if_neg Bool.false_ne_true, answerPort_of_waiting _ (by exact waits)]
    exact congrArg _ (nextWrite_eq (by exact head))
  · change Host.Outcome.next (match endingWrite s with | some (.identity p x) => _ | _ => s) = _
    split
    · next ends => cases endingWrite_other other _ ends
    · rfl

end Sys2Proof.Safety
end

section
/-! PROOFS. The seal's readings and the end of a commit (O42). -/

namespace Sys2Proof.Safety

open Sys2Proof.Machine

variable {s t : State} {j : WriteJob} {rest : List WriteJob} {copies : PerLifter (Option CalItems)}

/-! ### The seal's readings (R130) -/

/-- While the reset line is released a reading changes exactly when its line has settled (R33, log 4). -/
theorem readingChanges_awake (awake : s.resetHeld = false) (level : Bool) (x : Debounced) :
    readingChanges level s x = settledTo level s x := by
  simp [readingChanges, awake, readingDue_eq_settledTo]

theorem sealReadingClosed_due (awake : s.resetHeld = false) (h : settledTo false s s.calib.sealSwitch = true) :
    exec .sealReadingClosed s = .next (sealCloses (s.withCalib { s.calib with sealSwitch := settled false })) :=
  congrArg _ (if_pos ((readingChanges_awake awake ..).trans h))

theorem sealCloses_committed (left : s.calib.cal.left.committed = true) (right : s.calib.cal.right.committed = true) :
    sealCloses s = s := by simp [sealCloses, someUncommitted, left, right]

theorem someUncommitted_iff : someUncommitted s = true ↔
    s.calib.cal.left.committed = false ∨ s.calib.cal.right.committed = false := by simp [someUncommitted]

theorem sealCloses_uncommitted (h : someUncommitted s = true) : sealCloses s =
    if s.loader.writes.any isCommitJob then s.withCalib { s.calib with commitOwed := true }
    else handed (.commit ⟨none, none⟩) s := by rw [sealCloses, if_pos h, handWrite_eq]

/-! ### The end of a commit (R134) -/

/-- A commit that has ended, before what is owed and what waits behind it. -/
def commitDone (ok : Bool) (copies : PerLifter (Option CalItems)) (s : State) : State :=
  if ok then commitSucceeds copies s else commitFails (breakWrite (.commit copies) s)

/-- The writes that follow a commit's end: a commit owed while a lifter is UNCOMMITTED stands behind the others. -/
def afterCommit (rest : List WriteJob) (x : State) : List WriteJob :=
  if x.calib.commitOwed && someUncommitted x then rest ++ [.commit ⟨none, none⟩] else rest

theorem nextWrite_settleOwed (h : s.loader.writes = j :: rest) : nextWrite (settleOwed s) =
    begun (afterCommit rest s) (s.withCalib { s.calib with commitOwed := false }) := by
  unfold settleOwed afterCommit
  cases owed : s.calib.commitOwed with
  | false =>
    have same : s.withCalib { s.calib with commitOwed := false } = s := by rw [← owed]; rfl
    rw [same]
    exact nextWrite_eq h
  | true =>
    dsimp only
    rw [if_pos rfl, show someUncommitted (s.withCalib { s.calib with commitOwed := false }) = someUncommitted s from rfl]
    cases someUncommitted s with
    | false => exact nextWrite_eq h
    | true =>
      rw [if_pos rfl, if_pos (by decide), handWrite_eq, handed, if_neg (by simp [h])]
      rw [nextWrite_eq (j := j) (rest := rest ++ [.commit ⟨none, none⟩]) (by simp [h])]
      exact begun_withWrites _ (s.withCalib _) _

theorem commitEnd_head (ok : Bool) (h : s.loader.writes = .commit copies :: rest)
    (lasted : due s s.loader.writeStart 5 = true) : exec (.commitEnd ok) s = .next
      (begun (afterCommit rest (commitDone ok copies s))
        ((commitDone ok copies s).withCalib { (commitDone ok copies s).calib with commitOwed := false })) := by
  have ended : exec (.commitEnd ok) s = .next (nextWrite (settleOwed (commitDone ok copies s))) := by
    change Host.Outcome.next (match endingWrite s with
      | some (.commit copies) =>
        nextWrite (endCommit ok copies (if ok then s else breakWrite (.commit copies) s))
      | _ => s) = _
    rw [endingWrite_head h lasted]
    cases ok <;> rfl
  have writes : (commitDone ok copies s).loader.writes = .commit copies :: rest := by
    cases ok <;> exact h
  rw [ended, nextWrite_settleOwed writes]

section
variable (ok : Bool) (copies : PerLifter (Option CalItems)) (s : State)

theorem commitDone_only : Only [.ports, .calib, .loader, .freeIndex] s (commitDone ok copies s) := by
  cases ok
  · exact (((withLoader_only s _).both (withFreeIndex_only _ _) (c := [.ports, .calib, .loader, .freeIndex]) (by decide)
      (by decide)).both (withCalib_only _ _) (fun _ h => h) (by decide)).both (latchAll_only _ _) (fun _ h => h) (by decide)
  · exact (withCalib_only s _).both (withLoader_only _ _) (by decide) (by decide)

theorem commitDone_calib : (commitDone ok copies s).calib.counter = s.calib.counter
    ∧ (commitDone ok copies s).calib.commitOwed = s.calib.commitOwed
    ∧ (commitDone ok copies s).calib.lastCommit = some ok := by
  cases ok <;> exact ⟨rfl, rfl, rfl⟩

theorem markCommitted_fields (copy : Option CalItems) (x : LifterCal) : (markCommitted copy x).items = x.items
    ∧ (markCommitted copy x).committed = (x.committed || (copy.isSome && !x.takenSinceCommit))
    ∧ (markCommitted copy x).valid = (x.valid || (copy.isSome && !x.takenSinceCommit)) := by
  unfold markCommitted
  split
  · next h => simp [h]
  · next h =>
    have none : (copy.isSome && !x.takenSinceCommit) = false := by simpa using h
    simp [none]

/-- The parts a commit marks (R134): those it copied, unless a write has been taken since it began. -/
theorem commitDone_cal (l : Lifter) :
    ((commitDone ok copies s).calib.cal.get l).items = (s.calib.cal.get l).items
    ∧ ((commitDone ok copies s).calib.cal.get l).committed =
      ((s.calib.cal.get l).committed || (ok && (copies.get l).isSome && !(s.calib.cal.get l).takenSinceCommit))
    ∧ ((commitDone ok copies s).calib.cal.get l).valid =
      ((s.calib.cal.get l).valid || (ok && (copies.get l).isSome && !(s.calib.cal.get l).takenSinceCommit)) := by
  cases ok with
  | false =>
    refine ⟨rfl, ?_, ?_⟩ <;> rw [Bool.false_and, Bool.false_and, Bool.or_false] <;> rfl
  | true =>
    rw [Bool.true_and]
    cases l <;> exact markCommitted_fields _ _

end

/-- What a commit's end leaves of the calibration, with the writes q in flight behind it. -/
structure CommitEnded (ok : Bool) (copies : PerLifter (Option CalItems)) (q : List WriteJob) (s t : State) : Prop where
  counter : t.calib.counter = s.calib.counter
  owed : t.calib.commitOwed = false
  result : t.calib.lastCommit = some ok
  cal : ∀ l, (t.calib.cal.get l).items = (s.calib.cal.get l).items
    ∧ (t.calib.cal.get l).committed =
      ((s.calib.cal.get l).committed || (ok && (copies.get l).isSome && !(s.calib.cal.get l).takenSinceCommit))
    ∧ (t.calib.cal.get l).valid =
      ((s.calib.cal.get l).valid || (ok && (copies.get l).isSome && !(s.calib.cal.get l).takenSinceCommit))
  eeprom : t.loader.eeprom = (commitDone ok copies s).loader.eeprom
  only : Only [.calib, .loader] (commitDone ok copies s) t
  length : t.loader.writes.length = q.length
  start : t.loader.writeStart = if q = [] then none else some s.bodyTimer

theorem commitEnded (ok : Bool) (copies : PerLifter (Option CalItems)) (s : State) (q : List WriteJob) :
    CommitEnded ok copies q s (begun q
      ((commitDone ok copies s).withCalib { (commitDone ok copies s).calib with commitOwed := false })) := by
  obtain ⟨counter, -, result⟩ := commitDone_calib ok copies s
  have calib := begun_calib q ((commitDone ok copies s).withCalib
    { (commitDone ok copies s).calib with commitOwed := false })
  refine ⟨(congrArg CalStore.counter calib).trans counter, congrArg CalStore.commitOwed calib,
    (congrArg CalStore.lastCommit calib).trans result, fun l => ?_, (begun_eeprom q _).1,
    (withCalib_only _ _).both (begun_only q _) (by decide) (by decide), begun_length q _,
    (begun_writeStart q _).trans (congrArg _ (congrArg some ((commitDone_only ok copies s).same .bodyTimer (by decide))))⟩
  obtain ⟨items, committed, valid⟩ := begun_cal q ((commitDone ok copies s).withCalib
    { (commitDone ok copies s).calib with commitOwed := false }) l
  obtain ⟨items', committed', valid'⟩ := commitDone_cal ok copies s l
  exact ⟨items.trans items', committed.trans committed', valid.trans valid'⟩

theorem uncommitted_of_ended {ok : Bool} {q : List WriteJob} (h : CommitEnded ok copies q s t) :
    someUncommitted (commitDone ok copies s) = true ↔
      t.calib.cal.left.committed = false ∨ t.calib.cal.right.committed = false := by
  have same (l : Lifter) : ((commitDone ok copies s).calib.cal.get l).committed = (t.calib.cal.get l).committed :=
    (commitDone_cal ok copies s l).2.1.trans (h.cal l).2.1.symm
  rw [someUncommitted_iff, ← show (t.calib.cal.get .left) = t.calib.cal.left from rfl,
    ← show (t.calib.cal.get .right) = t.calib.cal.right from rfl, ← same, ← same]
  rfl

/-- A commit's end without a commit owed. -/
theorem commitEnd_plain (ok : Bool) (head : s.loader.writes = .commit copies :: rest)
    (lasted : due s s.loader.writeStart 5 = true) (owed : s.calib.commitOwed = false) :
    ∃ t, exec (.commitEnd ok) s = .next t ∧ CommitEnded ok copies rest s t := by
  have none : afterCommit rest (commitDone ok copies s) = rest :=
    if_neg (by rw [(commitDone_calib ok copies s).2.1, owed]; exact Bool.false_ne_true)
  have ended := commitEnd_head ok head lasted
  rw [none] at ended
  exact ⟨_, ended, commitEnded ok copies s rest⟩

/-- A commit's end with one owed (R134): it follows the other writes while a lifter is UNCOMMITTED. -/
theorem commitEnd_owed (ok : Bool) (head : s.loader.writes = .commit copies :: rest)
    (lasted : due s s.loader.writeStart 5 = true) (owed : s.calib.commitOwed = true) :
    exec (.commitEnd ok) s = .next (begun
      (if someUncommitted (commitDone ok copies s) then rest ++ [.commit ⟨none, none⟩] else rest)
      ((commitDone ok copies s).withCalib { (commitDone ok copies s).calib with commitOwed := false })) := by
  rw [commitEnd_head ok head lasted, afterCommit, (commitDone_calib ok copies s).2.1, owed, Bool.true_and]

theorem begun_last (q : List WriteJob) (c : PerLifter (Option CalItems)) (s : State) :
    (begun (q ++ [.commit c]) s).loader.writes.getLast?.any isCommitJob = true := by
  cases q with
  | nil => rfl
  | cons j rest =>
    have last (j : WriteJob) : (j :: (rest ++ [.commit c])).getLast?.any isCommitJob = true := by
      rw [← List.cons_append, List.getLast?_concat]; rfl
    cases j <;> exact last _

/-- A commit that begins alone (R134): its copies are those of the UNCOMMITTED parts. -/
theorem begun_commit (c : PerLifter (Option CalItems)) (s : State) :
    (begun [.commit c] s).loader.writes = [.commit
      { left := if (begun [.commit c] s).calib.cal.left.committed then none
          else some (begun [.commit c] s).calib.cal.left.items
        right := if (begun [.commit c] s).calib.cal.right.committed then none
          else some (begun [.commit c] s).calib.cal.right.items }]
      ∧ ∀ l, ((begun [.commit c] s).calib.cal.get l).takenSinceCommit = false :=
  ⟨rfl, fun l => by cases l <;> rfl⟩

/-- Settles O42: the readings by what a closing seal asks for, the ends of commits by `commitEnd_head`. -/
theorem sealAndCommit : Obligations.SealAndCommit := by
  intro copies rest s awake
  refine ⟨fun due => ?_, fun due left right => ?_, fun due some busy => ?_, fun due some free => ?_,
    fun head lasted owed => ?_, fun head lasted owed => ?_, fun ok head lasted owed => ?_, fun other ok => ?_,
    fun early => ?_, fun early => ?_⟩
  · exact congrArg _ (if_pos ((readingChanges_awake awake ..).trans due))
  · rw [sealReadingClosed_due awake due]
    exact congrArg _ (sealCloses_committed left right)
  · rw [sealReadingClosed_due awake due]
    refine congrArg _ ((sealCloses_uncommitted ?_).trans (if_pos ?_))
    · exact someUncommitted_iff.mpr some
    · exact busy
  · rw [sealReadingClosed_due awake due]
    refine congrArg _ ((sealCloses_uncommitted ?_).trans (if_neg ?_))
    · exact someUncommitted_iff.mpr some
    · exact Bool.eq_false_iff.mp free
  · obtain ⟨t, done, ended⟩ := commitEnd_plain true head lasted owed
    refine ⟨t, done, ended.only.same .ports (by decide), ended.result, ended.counter, fun l => ?_, ended.length,
      ended.start, ended.only.same .flow (by decide), ended.only.same .lifters (by decide)⟩
    obtain ⟨items, committed, valid⟩ := ended.cal l
    refine ⟨items, committed, valid, ?_⟩
    rw [ended.eeprom]
    cases l
    · cases copies.left <;> rfl
    · cases copies.right <;> rfl
  · obtain ⟨t, done, ended⟩ := commitEnd_plain false head lasted owed
    have ports : t.ports = (commitDone false copies s).ports := ended.only.same .ports (by decide)
    refine ⟨t, done, fun p => ?_, ended.result, ended.counter, fun l => ?_, ?_, ?_, ?_, ended.length, ended.start,
      ended.only.same .flow (by decide), ended.only.same .lifters (by decide)⟩
    · rw [State.port, ports]
      exact latchAll_latchedAll .calibrationInvalid _ p
    · simpa only [Bool.false_and, Bool.or_false] using ended.cal l
    · rw [ended.eeprom]; rfl
    · rw [ended.eeprom]; rfl
    · rw [ended.eeprom]; rfl
  · have done := commitEnd_owed ok head lasted owed
    refine ⟨_, done, ?_⟩
    have ended := commitEnded ok copies s
      (if someUncommitted (commitDone ok copies s) then rest ++ [.commit ⟨none, none⟩] else rest)
    have left := uncommitted_of_ended ended
    refine ⟨ended.owed, ended.result, fun l => ⟨(ended.cal l).1, (ended.cal l).2.1⟩, fun first second => ?_,
      fun some => ?_, fun some alone => ?_⟩
    · rw [ended.length, if_neg]
      rw [left, first, second]
      simp
    · rw [ended.length, if_pos (left.mpr some)]
      exact ⟨by simp, begun_last rest _ _⟩
    · subst alone
      rw [if_pos (left.mpr some)] at ended ⊢
      exact ⟨(begun_commit _ _).1, ended.start, (begun_commit _ _).2⟩
  · change Host.Outcome.next (match endingWrite s with | some (.commit copies) => _ | _ => s) = _
    split
    · next ends => cases endingWrite_other other _ ends
    · rfl
  · exact congrArg _ (if_neg (by rw [readingChanges_awake awake, early]; exact Bool.false_ne_true))
  · exact congrArg _ (if_neg (by rw [readingChanges_awake awake, early]; exact Bool.false_ne_true))

end Sys2Proof.Safety
end

section
/-! PROOFS. Which commands move the body's state, and the writes in flight with the calibration they change (O44, O59). -/

namespace Sys2Proof.Safety

open Sys2Proof.Machine

variable {s t u : State} {p : Port} {n : Byte} {d : List Byte} {j : WriteJob} {q rest : List WriteJob} {c : List Field}

/-! ### The body's state -/

/-- The commands that may move the body to another state. -/
def movesBody : Instr → Bool
  | .resumeBody .. | .estopReadingActive | .bodyReset .. | .loadPartRead _ | .bodyResetPassEnd
  | .powerOnReset | .resetLineAssert | .resetLineRelease => true
  | _ => false

theorem evaluateInhibit_state (s : State) : (evaluateInhibit s).body.state = s.body.state := rfl

theorem state_of_body {v : Body} (h : s.body = v) : s.body.state = v.state := congrArg Body.state h

theorem endLift_state (how : Ending) (l : Lifter) (s : State) : (endLift how l s).body.state = s.body.state := by
  obtain hc | ⟨x, hc⟩ := Option.eq_none_or_eq_some (s.context l)
  · rw [endLift_none how hc]
  · rw [endLift_some how hc]
    have raised := (raisePayload_only x.stream (endRecord how l x s).dumpedMass
      (writeBack x.dumped (usedOf (endRecord how l x s)) (completionLookup x s).1
        (writeRecord (endRecord how l x s) (completionLookup x s).2))).same .body (by decide)
    have back := (writeBack_only x.dumped (usedOf (endRecord how l x s)) (completionLookup x s).1
      (writeRecord (endRecord how l x s) (completionLookup x s).2)).same .body (by decide)
    have found := (completionLookup_only x s).same .body (by decide)
    exact (state_of_body ((raised.trans back).trans found) : _).trans rfl

theorem Ends.state (h : Ends s t) : t.body.state = s.body.state := by
  induction h with
  | refl => rfl
  | operates _ k ih => rw [k.body, ih]
  | ended _ how l ih => exact (endLift_state how l _).trans ih

theorem admitted_state (l : Lifter) (arg : Option Stream) (tag : Option Nat) (entry : Option AccountEntry) (s : State) :
    (admitted l arg tag entry s).body.state = s.body.state := by
  have made : (makeReservation l (evaluateInhibit (s.withContext l (some (newContext l arg tag entry s))))).body.state =
      s.body.state := (state_of_body ((makeReservation_only l _).same .body (by decide)) : _).trans rfl
  unfold admitted
  dsimp only
  split
  · exact made
  · exact made

theorem startLifter_state (l : Lifter) (arg : Option Stream) (x : StartSource) (s : State) :
    (startLifter l arg x s).2.body.state = s.body.state := by
  have looked : (tagPermission l s).2.body.state = s.body.state :=
    congrArg Body.state ((tagPermission_only l s).same .body (by decide))
  exact startLifter_keeps (I := fun y => y.body.state = s.body.state) (fun k h => by rw [k.body]; exact h) l arg x
    looked (fun tag entry _ _ => (admitted_state l arg tag entry _).trans looked) rfl

theorem exec_bodyState {i : Instr} (other : movesBody i = false) (h : exec i s = .next t) :
    t.body.state = s.body.state := by
  by_cases free : Field.body ∉ parts i
  · exact state_of_body ((exec_only h).same .body free)
  have request {k : Kind} {p : Port} {n : Byte} {d : List Byte} {owner : State → Decision}
      (decides : ∀ x, (owner x).1.body.state = x.body.state) : (serve k p n d owner s).body.state = s.body.state :=
    serve_keeps (I := fun y => y.body.state = s.body.state)
      (fun only h => (congrArg Body.state (only.same .body (by decide))).trans h) (fun x h => (decides x).trans h) rfl
  cases i
  case startLift =>
    cases h
    exact request fun x => decideStartLift_keeps (I := fun y => y.body.state = x.body.state)
      (fun l arg y _ _ => startLifter_state l arg y x) _ _ rfl
  case rearStartPress =>
    exact rearStartPress_keeps (I := fun y => y.body.state = s.body.state) (fun k h => by rw [k.body]; exact h)
      (fun l arg y _ h => (startLifter_state l arg y _).trans h) h rfl
  case unloadComplete =>
    cases h
    refine request fun x => ?_
    unfold decideUnloadComplete
    split
    · split
      · rfl
      · exact (state_of_body ((evaluateLimits_only _).same .body (by decide)) : _).trans rfl
    · rfl
  case vehicleData =>
    cases h
    refine request fun x => ?_
    unfold decideVehicleData
    split
    · next v _ =>
      have handed := (Operates.refl (s := x.withBody
        { x.body with
          vehicle := some v, lastAccepted := some x.bodyTimer, fresh := true, clockSeconds := v.clock,
          clockMillis := 0 })).handEngineChange (effectiveEngine x.body)
      have done := Operates.ite (p := holdSpeed < v.speed) (fun _ => handed.holdBoth .speed) (fun _ => handed)
      exact (state_of_body done.body : _).trans rfl
    · rfl
  case vehicleFreshnessExpiry =>
    cases h
    split
    · exact (state_of_body (((Operates.refl (s := s.withBody { s.body with fresh := false })).latch _).holdBoth
        _ |>.handEngineChange _).body : _).trans rfl
    · rfl
  case tailgateReadingNotClosed =>
    cases h
    split
    · exact (state_of_body (((Operates.refl (s := s.withBody { s.body with tailgate := settled false })).holdBoth
        _).holdPacker _ _ |>.holdPacker _ _).body : _).trans rfl
    · rfl
  case tailgateReadingClosed =>
    cases h
    split
    · exact (state_of_body (packersInTurn_body _ (fun st _ => Operates.refl.tryStart st) _) : _).trans rfl
    · rfl
  case stepReadingOccupied l =>
    cases h
    split
    · exact (state_of_body ((Operates.refl (s := s.withBody
        { s.body with steps := s.body.steps.set l (settled true) })).holdLifter l _).body : _).trans rfl
    · rfl
  case inputLineChange change => cases change <;> cases h <;> rfl
  case estopReadingReleased | stepReadingFree | routeClockSecond => cases h; split <;> rfl
  case returnTimeLimit => exact (returnTimeLimit_ends h).state
  case ringConversionComplete => exact (ringConversionComplete_ends h).state
  case resumeBody | estopReadingActive | bodyReset | loadPartRead | bodyResetPassEnd | powerOnReset | resetLineAssert
      | resetLineRelease => simp [movesBody] at other
  all_goals exact absurd (by simp [parts]) free

/-! ### Writes in flight -/

/-- A write without the copies a commit takes when it begins. -/
def plain : WriteJob → WriteJob
  | .commit _ => .commit ⟨none, none⟩
  | j => j

theorem begun_plain (q : List WriteJob) (s : State) : (begun q s).loader.writes.map plain = q.map plain := by
  cases q with
  | nil => rfl
  | cons j rest => cases j <;> rfl

/-- The writes in flight beside the calibration they were asked for (R131, R137, R211). -/
structure WritesFit (counter : Nat) (identity : Vector (Option Byte) 16) (q : List WriteJob) : Prop where
  counters : q.countP isCounterJob ≤ 1
  commits : q.countP isCommitJob ≤ 1
  identities : q.countP isIdentityJob ≤ 1
  settings : q.countP isSettingsJob ≤ 1
  counterNext : ∀ p l item v n, WriteJob.counter p l item v n ∈ q → n = min 65535 (counter + 1)
  identityNext : ∀ p x, WriteJob.identity p x ∈ q → extendsIdentity identity x

theorem WritesFit.plain_iff {counter : Nat} {identity : Vector (Option Byte) 16} {q r : List WriteJob}
    (h : q.map plain = r.map plain) (fits : WritesFit counter identity r) : WritesFit counter identity q := by
  have count {f : WriteJob → Bool} (kind : ∀ j, f (plain j) = f j) : q.countP f = r.countP f := by
    have both := congrArg (List.countP f) h
    simpa only [List.countP_map, Function.comp_def, kind] using both
  have here {j : WriteJob} (own : ∀ k, plain k = j → k = j) (hj : j ∈ q.map plain) : j ∈ r := by
    rw [h] at hj
    obtain ⟨k, hk, same⟩ := List.mem_map.mp hj
    exact own k same ▸ hk
  obtain ⟨counters, commits, identities, settings, counterNext, identityNext⟩ := fits
  refine ⟨?_, ?_, ?_, ?_, fun p l item v n hj => counterNext p l item v n (here ?_ (List.mem_map_of_mem (f := plain) hj)),
    fun p x hj => identityNext p x (here ?_ (List.mem_map_of_mem (f := plain) hj))⟩
  · rwa [count fun j => by cases j <;> rfl]
  · rwa [count fun j => by cases j <;> rfl]
  · rwa [count fun j => by cases j <;> rfl]
  · rwa [count fun j => by cases j <;> rfl]
  · intro k same; cases k <;> first | exact same | cases same
  · intro k same; cases k <;> first | exact same | cases same

theorem WritesFit.sublist {counter : Nat} {identity : Vector (Option Byte) 16} {q r : List WriteJob}
    (fits : WritesFit counter identity r) (h : q.Sublist r) : WritesFit counter identity q :=
  ⟨(h.countP_le).trans fits.counters, (h.countP_le).trans fits.commits, (h.countP_le).trans fits.identities,
    (h.countP_le).trans fits.settings, fun p l item v n hj => fits.counterNext p l item v n (h.subset hj),
    fun p x hj => fits.identityNext p x (h.subset hj)⟩

/-- A write is handed over only while none of its kind is in flight. -/
theorem WritesFit.append {counter : Nat} {identity : Vector (Option Byte) 16} (fits : WritesFit counter identity q)
    (alone : WritesFit counter identity [j])
    (new : (isCounterJob j → q.countP isCounterJob = 0) ∧ (isCommitJob j → q.countP isCommitJob = 0)
      ∧ (isIdentityJob j → q.countP isIdentityJob = 0) ∧ (isSettingsJob j → q.countP isSettingsJob = 0)) :
    WritesFit counter identity (q ++ [j]) := by
  obtain ⟨counter', commit, identity', settings⟩ := new
  have count {f : WriteJob → Bool} (old : q.countP f ≤ 1) (fresh : f j → q.countP f = 0) :
      (q ++ [j]).countP f ≤ 1 := by
    rw [List.countP_append, List.countP_singleton]
    split
    · next own => rw [fresh own]
    · exact old
  refine ⟨count fits.counters counter', count fits.commits commit, count fits.identities identity',
    count fits.settings settings, fun p l item v n hj => ?_, fun p x hj => ?_⟩
  · obtain old | new := List.mem_append.mp hj
    · exact fits.counterNext p l item v n old
    · exact alone.counterNext p l item v n new
  · obtain old | new := List.mem_append.mp hj
    · exact fits.identityNext p x old
    · exact alone.identityNext p x new

theorem StoreLaw.writesFit (h : StoreLaw s) : WritesFit s.calib.counter s.calib.identity s.loader.writes :=
  ⟨by rw [List.countP_eq_length_filter]; exact h.counters, by rw [List.countP_eq_length_filter]; exact h.commits,
    by rw [List.countP_eq_length_filter]; exact h.identities, by rw [List.countP_eq_length_filter]; exact h.settings,
    h.counterNext, h.identityNext⟩

theorem StoreLaw.mk' (fits : WritesFit s.calib.counter s.calib.identity s.loader.writes)
    (started : s.loader.writeStart.isSome = true ↔ s.loader.writes ≠ []) (counter : s.calib.counter ≤ 65535)
    (stored : s.loader.eeprom.counter.content ≤ 65535)
    (load : reading s.loader.load = true →
      s.body.state = .starting ∧ s.loader.writes = [] ∧ s.calib.cal.left.committed = true
        ∧ s.calib.cal.right.committed = true) : StoreLaw s :=
  ⟨by rw [← List.countP_eq_length_filter]; exact fits.counters, by rw [← List.countP_eq_length_filter]; exact fits.commits,
    by rw [← List.countP_eq_length_filter]; exact fits.identities,
    by rw [← List.countP_eq_length_filter]; exact fits.settings, started, fits.counterNext, fits.identityNext, counter,
    stored, load⟩

theorem begun_stored (q : List WriteJob) (s : State) :
    (begun q s).calib.counter = s.calib.counter ∧ (begun q s).calib.identity = s.calib.identity := by
  cases q with
  | nil => exact ⟨rfl, rfl⟩
  | cons j rest => cases j <;> exact ⟨rfl, rfl⟩

/-- Writes that begin while the load does not read. -/
theorem begun_store (fits : WritesFit s.calib.counter s.calib.identity q) (counter : s.calib.counter ≤ 65535)
    (stored : s.loader.eeprom.counter.content ≤ 65535) (idle : reading s.loader.load = false) :
    StoreLaw (begun q s) := by
  obtain ⟨counter', identity'⟩ := begun_stored q s
  obtain ⟨eeprom, load⟩ := begun_eeprom q s
  refine StoreLaw.mk' ?_ ?_ (counter'.trans_le counter) (by rw [eeprom]; exact stored) fun busy => ?_
  · rw [counter', identity']
    exact fits.plain_iff (begun_plain q s)
  · rw [begun_writeStart, ← List.length_pos_iff, begun_length, List.length_pos_iff]
    split
    · next none => simp [none]
    · next some => simp [some]
  · rw [load, idle] at busy; cases busy

/-- The same writes, calibration store and load. -/
theorem StoreLaw.of_same (old : StoreLaw s) (calib : t.calib = s.calib) (loader : t.loader = s.loader)
    (starting : s.body.state = .starting → t.body.state = .starting) : StoreLaw t := by
  have load := old.load
  refine StoreLaw.mk' ?_ ?_ ?_ ?_ fun busy => ?_
  · rw [calib, loader]; exact old.writesFit
  · rw [loader]; exact old.started
  · rw [calib]; exact old.counterRange
  · rw [loader]; exact old.counterStored
  · rw [loader] at busy ⊢
    rw [calib]
    obtain ⟨state, rest⟩ := load busy
    exact ⟨starting state, rest⟩

theorem StoreLaw.of_only (old : StoreLaw s) (h : Only c s t) (calib : Field.calib ∉ c) (loader : Field.loader ∉ c)
    (body : Field.body ∉ c) : StoreLaw t :=
  old.of_same (h.same .calib calib) (h.same .loader loader) fun starting => by
    rw [show t.body = s.body from h.same .body body]; exact starting

theorem store_blind {x y : State} (h : Only [.ports] x y) (old : StoreLaw x) : StoreLaw y :=
  old.of_only h (by decide) (by decide) (by decide)

/-- A write handed over: it was asked for with what is stored, none of its kind is in flight, the load is over. -/
theorem handed_store (old : StoreLaw s) (idle : reading s.loader.load = false)
    (alone : WritesFit s.calib.counter s.calib.identity [j])
    (new : (isCounterJob j → s.loader.writes.countP isCounterJob = 0) ∧ (isCommitJob j → s.loader.writes.countP isCommitJob = 0)
      ∧ (isIdentityJob j → s.loader.writes.countP isIdentityJob = 0)
      ∧ (isSettingsJob j → s.loader.writes.countP isSettingsJob = 0)) : StoreLaw (handWrite j s) := by
  rw [handWrite_eq, handed]
  split
  · exact begun_store alone old.counterRange old.counterStored idle
  · next some =>
    refine StoreLaw.mk' (old.writesFit.append alone new) ⟨fun _ => ?_, fun _ => ?_⟩ old.counterRange old.counterStored
      fun busy => ?_
    · simp
    · exact old.started.mpr some
    · exact absurd (old.load busy).2.1 some

theorem countP_zero_of_not_any {f : WriteJob → Bool} (h : ¬ q.any f = true) : q.countP f = 0 := by
  rw [List.countP_eq_zero]
  intro j hj own
  exact h (List.any_eq_true.mpr ⟨j, hj, own⟩)

/-! ### Requests -/

/-- A request that is not taken while the body is STARTING reaches its owner only then (R196 check 3). -/
theorem serve_keeps_unstarted {I : State → Prop} (blind : ∀ {x y}, Only [.ports] x y → I x → I y) {k : Kind}
    {owner : State → Decision} (closed : takenWhileStarting k = false)
    (decides : ∀ x, x.body.state ≠ .starting → I x → I (owner x).1) (old : I s) : I (serve k p n d owner s) := by
  unfold serve
  split
  · exact old
  · split
    · exact blind (overrunPort_only p s) old
    · have taken := blind (takeRequest_only p n k.code s) old
      split
      · exact blind (refuseAtPort_only p _ _) taken
      · next passed =>
        have awake : s.body.state ≠ .starting := fun starting => by
          unfold portChecks at passed
          split at passed
          · cases passed
          · rw [if_pos ⟨starting, by rw [closed]; decide⟩] at passed
            cases passed
        exact blind (finishRequest_only p _) (decides _ awake taken)

/-- While the load reads, the body is STARTING. -/
theorem StoreLaw.idle (old : StoreLaw s) (awake : s.body.state ≠ .starting) : reading s.loader.load = false :=
  Bool.eq_false_iff.mpr fun busy => awake (old.load busy).1

theorem decideSaveSettings_store (p : Port) (awake : s.body.state ≠ .starting) (old : StoreLaw s) :
    StoreLaw (decideSaveSettings p s).1 := by
  unfold decideSaveSettings
  split
  · exact old
  · next may =>
    have free : ¬ s.loader.writes.any isSettingsJob = true := fun busy =>
      may (mayNotSave_iff.mpr (.inr (.inr (.inr (.inr busy)))))
    refine handed_store old (old.idle awake) ⟨by simp [isCounterJob], by simp [isCommitJob], by simp [isIdentityJob],
      by simp [isSettingsJob], fun _ _ _ _ _ hj => by simp at hj, fun _ _ hj => by simp at hj⟩
      ⟨fun h => (by cases h), fun h => (by cases h), fun h => (by cases h), fun _ => countP_zero_of_not_any free⟩

theorem saturatingSucc_counter {n : Nat} (h : n ≤ 65535) : saturatingSucc top16 n = min 65535 (n + 1) := by
  obtain below | full := Nat.lt_or_ge n 65535
  · rw [saturatingSucc, if_pos (by exact below)]
    omega
  · rw [saturatingSucc, if_neg (by exact Nat.not_lt.mpr full)]
    omega

theorem decideWriteCalibration_store (p : Port) (d : List Byte) (awake : s.body.state ≠ .starting) (old : StoreLaw s) :
    StoreLaw (decideWriteCalibration p d s).1 := by
  have item (l : Lifter) (item : CalItem) (v : Int) : StoreLaw (writeItem p l item v s).1 := by
    unfold writeItem
    split
    · exact old
    · split
      · exact old
      · split
        · exact old
        · next free =>
          refine handed_store old (old.idle awake) ⟨by simp [isCounterJob], by simp [isCommitJob],
            by simp [isIdentityJob], by simp [isSettingsJob], fun _ _ _ _ n hj => ?_, fun _ _ hj => by simp at hj⟩
            ⟨fun _ => countP_zero_of_not_any free, fun h => (by cases h), fun h => (by cases h), fun h => (by cases h)⟩
          obtain ⟨-, -, -, -, rfl⟩ := WriteJob.counter.inj (List.mem_singleton.mp hj)
          exact saturatingSucc_counter old.counterRange
  unfold decideWriteCalibration
  split
  · exact store_blind (latchAll_only _ s) old
  · split
    · exact item _ _ _
    · exact old

theorem extends_addCharacters {x : Vector (Option Byte) 16} {first : Nat} {chars : List Byte}
    (free : ¬ alreadyWritten x first chars.length = true) : extendsIdentity x (addCharacters x first chars) := by
  intro i c hc
  have outside : ¬ (first ≤ i.val ∧ i.val < first + chars.length) := fun ⟨low, high⟩ =>
    free ((alreadyWritten_iff _ _).mpr ⟨i, low, high, by rw [hc]; rfl⟩)
  rw [addCharacters, Vector.get_ofFn, if_neg outside]
  exact hc

theorem decideWriteIdentity_store (p : Port) (d : List Byte) (awake : s.body.state ≠ .starting) (old : StoreLaw s) :
    StoreLaw (decideWriteIdentity p d s).1 := by
  unfold decideWriteIdentity
  dsimp only
  split
  · exact old
  · split
    · exact old
    · split
      · exact old
      · next unwritten =>
        split
        · exact old
        · next free =>
          refine handed_store old (old.idle awake) ⟨by simp [isCounterJob], by simp [isCommitJob],
            by simp [isIdentityJob], by simp [isSettingsJob], fun _ _ _ _ _ hj => by simp at hj, fun _ x hj => ?_⟩
            ⟨fun h => (by cases h), fun h => (by cases h), fun _ => countP_zero_of_not_any free, fun h => (by cases h)⟩
          obtain ⟨-, rfl⟩ := WriteJob.identity.inj (List.mem_singleton.mp hj)
          exact extends_addCharacters unwritten

/-! ### Ends of writes and the seal's closing -/

theorem sealCloses_store (old : StoreLaw s) : StoreLaw (sealCloses s) := by
  by_cases some : someUncommitted s = true
  · have idle : reading s.loader.load = false := Bool.eq_false_iff.mpr fun busy => by
      obtain ⟨-, -, left, right⟩ := old.load busy
      simp [someUncommitted, left, right] at some
    rw [sealCloses, if_pos some]
    split
    · exact StoreLaw.mk' old.writesFit old.started old.counterRange old.counterStored old.load
    · next free =>
      exact handed_store old idle ⟨by simp [isCounterJob], by simp [isCommitJob], by simp [isIdentityJob],
        by simp [isSettingsJob], fun _ _ _ _ _ hj => by simp at hj, fun _ _ hj => by simp at hj⟩
        ⟨fun h => (by cases h), fun _ => countP_zero_of_not_any free, fun h => (by cases h), fun h => (by cases h)⟩
  · rw [sealCloses, if_neg some]
    exact old

/-- A write that ends is at the head, and nothing is being loaded. -/
theorem StoreLaw.ending (old : StoreLaw s) (ends : endingWrite s = some j) :
    ∃ rest, s.loader.writes = j :: rest ∧ WritesFit s.calib.counter s.calib.identity rest
      ∧ (∀ f : WriteJob → Bool, f j = true → (j :: rest).countP f ≤ 1 → rest.countP f = 0)
      ∧ reading s.loader.load = false := by
  obtain ⟨-, head⟩ := endingWrite_eq_some.mp ends
  obtain ⟨rest, writes⟩ := List.head?_eq_some_iff.mp head
  refine ⟨rest, writes, old.writesFit.sublist (by rw [writes]; exact List.sublist_cons_self ..), fun f own once => ?_,
    Bool.eq_false_iff.mpr fun busy => ?_⟩
  · rw [List.countP_cons_of_pos own] at once
    omega
  · rw [(old.load busy).2.1] at writes; cases writes

/-- After the last counter write has ended, the counter may be any. -/
theorem WritesFit.counter_any {a b : Nat} {x : Vector (Option Byte) 16} (fits : WritesFit a x q)
    (none : q.countP isCounterJob = 0) : WritesFit b x q :=
  ⟨fits.counters, fits.commits, fits.identities, fits.settings,
    fun _ _ _ _ _ hj => absurd rfl (List.countP_eq_zero.mp none _ hj), fits.identityNext⟩

/-- After the last identity write has ended, the identity may be any. -/
theorem WritesFit.identity_any {a : Nat} {x y : Vector (Option Byte) 16} (fits : WritesFit a x q)
    (none : q.countP isIdentityJob = 0) : WritesFit a y q :=
  ⟨fits.counters, fits.commits, fits.identities, fits.settings, fits.counterNext,
    fun _ _ hj => absurd rfl (List.countP_eq_zero.mp none _ hj)⟩

theorem answerPort_calib (p : Port) (r : Reply) (s : State) :
    (answerPort p r s).calib = s.calib ∧ (answerPort p r s).loader = s.loader :=
  ⟨(answerPort_only p r s).same .calib (by decide), (answerPort_only p r s).same .loader (by decide)⟩

theorem brokenPart_le {free a : Nat} {x : Machine.Part Nat} (old : x.content ≤ 65535) (new : a ≤ 65535) :
    (brokenPart free x a).content ≤ 65535 := by
  unfold brokenPart
  split
  · exact old
  · exact old
  · exact new

theorem breakWrite_store (j : WriteJob) (s : State) : (breakWrite j s).calib = s.calib
    ∧ (breakWrite j s).loader.writes = s.loader.writes ∧ (breakWrite j s).loader.load = s.loader.load := ⟨rfl, rfl, rfl⟩

theorem breakWrite_counter (old : StoreLaw s) (inFlight : j ∈ s.loader.writes) :
    (breakWrite j s).loader.eeprom.counter.content ≤ 65535 := by
  cases j with
  | counter p l item v n =>
    have next : n = min 65535 (s.calib.counter + 1) := old.counterNext p l item v n inFlight
    exact brokenPart_le old.counterStored (by omega)
  | commit | identity | settings => exact old.counterStored

/-- The next write begins after the one at the head, which left the load alone. -/
theorem nextWrite_store (writes : s.loader.writes = j :: rest) (fits : WritesFit s.calib.counter s.calib.identity rest)
    (counter : s.calib.counter ≤ 65535) (stored : s.loader.eeprom.counter.content ≤ 65535)
    (idle : reading s.loader.load = false) : StoreLaw (nextWrite s) := by
  rw [nextWrite_eq writes]
  exact begun_store fits counter stored idle

/-- The answer to a write's request does not matter to what is in flight. -/
theorem nextWrite_answer_store {r : Reply} (writes : s.loader.writes = j :: rest)
    (fits : WritesFit s.calib.counter s.calib.identity rest) (counter : s.calib.counter ≤ 65535)
    (stored : s.loader.eeprom.counter.content ≤ 65535) (idle : reading s.loader.load = false) :
    StoreLaw (nextWrite (answerPort p r s)) := by
  obtain ⟨calib, loader⟩ := answerPort_calib p r s
  exact nextWrite_store (by rw [loader]; exact writes) (by rw [calib]; exact fits) (by rw [calib]; exact counter)
    (by rw [loader]; exact stored) (by rw [loader]; exact idle)

theorem counterWriteEnd_store {ok : Bool} (h : exec (.counterWriteEnd ok) s = .next t) (old : StoreLaw s) :
    StoreLaw t := by
  cases h
  split
  · next p l item v n ends =>
    obtain ⟨rest, writes, fits, last, idle⟩ := old.ending ends
    have here : WriteJob.counter p l item v n ∈ s.loader.writes := by rw [writes]; exact List.mem_cons_self ..
    have none : rest.countP isCounterJob = 0 := last _ rfl (writes ▸ old.writesFit.counters)
    have range : n ≤ 65535 := by
      rw [old.counterNext p l item v n here]
      exact Nat.min_le_left ..
    unfold endCounterWrite
    cases ok with
    | false => exact nextWrite_answer_store writes fits old.counterRange (breakWrite_counter old here) idle
    | true =>
      rw [if_pos rfl, if_pos rfl]
      split
      · exact nextWrite_answer_store (by exact writes) (fits.counter_any none) range range idle
      · exact nextWrite_answer_store (by exact writes) (fits.counter_any none) range range idle
  · exact old

theorem identityWriteEnd_store {ok : Bool} (h : exec (.identityWriteEnd ok) s = .next t) (old : StoreLaw s) :
    StoreLaw t := by
  cases h
  split
  · next p x ends =>
    obtain ⟨rest, writes, fits, last, idle⟩ := old.ending ends
    have none : rest.countP isIdentityJob = 0 := last _ rfl (writes ▸ old.writesFit.identities)
    unfold endIdentityWrite
    cases ok with
    | false => exact nextWrite_answer_store writes fits old.counterRange old.counterStored idle
    | true =>
      exact nextWrite_answer_store (by exact writes) (fits.identity_any none) old.counterRange old.counterStored idle
  · exact old

theorem settingsWriteEnd_store {ok : Bool} (h : exec (.settingsWriteEnd ok) s = .next t) (old : StoreLaw s) :
    StoreLaw t := by
  cases h
  split
  · next p x ends =>
    obtain ⟨rest, writes, fits, -, idle⟩ := old.ending ends
    unfold endSettingsWrite
    cases ok with
    | false => exact nextWrite_answer_store writes fits old.counterRange old.counterStored idle
    | true => exact nextWrite_answer_store (by exact writes) fits old.counterRange old.counterStored idle
  · exact old

/-- The commit that follows a commit is the only one. -/
theorem commitEnd_store {ok : Bool} (h : exec (.commitEnd ok) s = .next t) (old : StoreLaw s) : StoreLaw t := by
  by_cases ends : ∃ copies, endingWrite s = some (.commit copies)
  · obtain ⟨copies, ends⟩ := ends
    obtain ⟨rest, writes, fits, last, idle⟩ := old.ending ends
    obtain ⟨lasted, -⟩ := endingWrite_eq_some.mp ends
    rw [commitEnd_head ok writes ((expired_eq_due ..).symm.trans lasted)] at h
    cases h
    have none : rest.countP isCommitJob = 0 := last _ rfl (writes ▸ old.writesFit.commits)
    have done := (commitDone_calib ok copies s).1
    have identity : (commitDone ok copies s).calib.identity = s.calib.identity := by cases ok <;> rfl
    have stored : (commitDone ok copies s).loader.eeprom.counter = s.loader.eeprom.counter := by cases ok <;> rfl
    have load : (commitDone ok copies s).loader.load = s.loader.load := by cases ok <;> rfl
    have owed : WritesFit s.calib.counter s.calib.identity (rest ++ [.commit ⟨.none, .none⟩]) :=
      fits.append ⟨by simp [isCounterJob], by simp [isCommitJob], by simp [isIdentityJob],
        by simp [isSettingsJob], fun _ _ _ _ _ hj => by simp at hj, fun _ _ hj => by simp at hj⟩
        ⟨fun h => (by cases h), fun _ => none, fun h => (by cases h), fun h => (by cases h)⟩
    have follows : WritesFit s.calib.counter s.calib.identity (afterCommit rest (commitDone ok copies s)) := by
      unfold afterCommit
      split
      · exact owed
      · exact fits
    refine begun_store (by rw [withCalib_calib, done, identity]; exact follows) ?_ ?_ ?_
    · exact done.trans_le old.counterRange
    · exact (congrArg Machine.Part.content stored).trans_le old.counterStored
    · exact (congrArg reading load).trans idle
  · have none : exec (.commitEnd ok) s = .next s := by
      change Host.Outcome.next (match endingWrite s with | some (.commit copies) => _ | _ => s) = _
      split
      · next copies found => exact absurd ⟨copies, found⟩ ends
      · rfl
    rw [none] at h
    cases h
    exact old

/-! ### The load -/

theorem latchAll_store (e : Event) (old : StoreLaw s) : StoreLaw (latchAll e s) := store_blind (latchAll_only e s) old

theorem applySettings_store (x : Settings) (s : State) :
    (applySettings x s).calib = s.calib ∧ (applySettings x s).loader = s.loader := by
  have calib (y : State) : (evaluateLimits y).calib = y.calib := (evaluateLimits_only y).same .calib (by decide)
  have loader (y : State) : (evaluateLimits y).loader = y.loader := (evaluateLimits_only y).same .loader (by decide)
  constructor
  · simp only [applySettings, calib, withAccess_calib, withPorts_calib, withScan_calib, withTags_calib,
      withBodyLimit_calib, withCompartments_calib, withPackers_calib, withBanks_calib, withLifters_calib]
  · simp only [applySettings, loader, withAccess_loader, withPorts_loader, withScan_loader, withTags_loader,
      withBodyLimit_loader, withCompartments_loader, withPackers_loader, withBanks_loader, withLifters_loader]

theorem leaveStarting_store (fits : WritesFit s.calib.counter s.calib.identity s.loader.writes)
    (started : s.loader.writeStart.isSome = true ↔ s.loader.writes ≠ []) (counter : s.calib.counter ≤ 65535)
    (stored : s.loader.eeprom.counter.content ≤ 65535) : StoreLaw (leaveStarting s) := by
  have gone : StoreLaw (s.withLoader { s.loader with load := .none }) :=
    StoreLaw.mk' fits started counter stored fun busy => by cases busy
  have calib : (leaveStarting s).calib = s.calib := (leaveStarting_only s).same .calib (by decide)
  have loader : (leaveStarting s).loader = { s.loader with load := .none } := by
    unfold leaveStarting
    dsimp only
    split
    · exact (enterHalted_only _).same .loader (by decide)
    · rfl
  refine StoreLaw.mk' ?_ ?_ ?_ ?_ fun busy => ?_
  · rw [calib, loader]; exact fits
  · rw [loader]; exact started
  · rw [calib]; exact counter
  · rw [loader]; exact stored
  · rw [loader] at busy; cases busy

/-- While the load reads the next part, nothing is in flight and both parts are COMMITTED. -/
theorem loading_store {x : LoadState} (old : StoreLaw s) (busy : reading s.loader.load = true)
    (calib : t.calib.counter ≤ 65535) (left : t.calib.cal.left.committed = true)
    (right : t.calib.cal.right.committed = true) (loader : t.loader = s.loader)
    (body : t.body.state = s.body.state) : StoreLaw (t.withLoad x) := by
  obtain ⟨starting, none, -, -⟩ := old.load busy
  have writes : (t.withLoad x).loader.writes = [] := (congrArg Loader.writes loader).trans none
  have start : (t.withLoad x).loader.writeStart.isSome = true ↔ (t.withLoad x).loader.writes ≠ [] := by
    rw [show (t.withLoad x).loader.writeStart = t.loader.writeStart from rfl,
      show (t.withLoad x).loader.writes = t.loader.writes from rfl, loader]
    exact old.started
  refine StoreLaw.mk' ?_ start calib ?_ fun _ => ⟨body.trans starting, writes, left, right⟩
  · rw [writes]
    exact ⟨by simp, by simp, by simp, by simp, fun _ _ _ _ _ hj => (by cases hj), fun _ _ hj => (by cases hj)⟩
  · rw [show (t.withLoad x).loader.eeprom = t.loader.eeprom from rfl, loader]
    exact old.counterStored

/-- The settings block read, or the defaults taken. -/
theorem loadSettings_store (ok : Bool) (s : State) : (loadSettings ok s).calib = s.calib
    ∧ (loadSettings ok s).loader = s.loader ∧ (loadSettings ok s).body = s.body := by
  cases ok with
  | true => exact ⟨(applySettings_store _ s).1, (applySettings_store _ s).2, applySettings_body _ s⟩
  | false =>
    obtain ⟨calib, loader⟩ := applySettings_store defaultSettings s
    have body := applySettings_body defaultSettings s
    unfold loadSettings
    generalize applySettings defaultSettings s = x at calib loader body ⊢
    exact ⟨calib, loader, body⟩

theorem loadCalibration_store (l : Lifter) (ok : Bool) (s : State) :
    (loadCalibration l ok s).calib.counter = s.calib.counter
      ∧ (∀ m, (s.calib.cal.get m).committed = true → ((loadCalibration l ok s).calib.cal.get m).committed = true)
      ∧ (loadCalibration l ok s).loader = s.loader ∧ (loadCalibration l ok s).body = s.body := by
  have marks {x : LifterCal} (h : x.committed = true) (m : Lifter) (old : (s.calib.cal.get m).committed = true) :
      ((s.calib.cal.set l x).get m).committed = true := by
    by_cases same : m = l
    · subst same; rw [PerLifter.get_set_self]; exact h
    · rw [PerLifter.get_set_of_ne _ _ _ _ same]; exact old
  cases ok <;> exact ⟨rfl, marks rfl, rfl, rfl⟩

theorem readPart_store (ok : Bool) (old : StoreLaw s) : StoreLaw (readPart ok s) := by
  have settings (good : Bool) (busy : reading s.loader.load = true) (x : LoadState) :
      StoreLaw ((loadSettings good s).withLoad x) := by
    obtain ⟨-, -, left, right⟩ := old.load busy
    obtain ⟨calib, loader, body⟩ := loadSettings_store good s
    exact loading_store old busy (by rw [calib]; exact old.counterRange) (by rw [calib]; exact left)
      (by rw [calib]; exact right) loader (state_of_body body)
  have calibration (l : Lifter) (good : Bool) (busy : reading s.loader.load = true) (x : LoadState) :
      StoreLaw ((loadCalibration l good s).withLoad x) := by
    obtain ⟨-, -, left, right⟩ := old.load busy
    obtain ⟨counter, marks, loader, body⟩ := loadCalibration_store l good s
    exact loading_store old busy (counter.trans_le old.counterRange) (marks .left left) (marks .right right) loader
      (state_of_body body)
  unfold readPart
  split
  · next load => exact settings _ (by rw [load]; rfl) _
  · next load => exact calibration _ _ (by rw [load]; rfl) _
  · next load => exact calibration _ _ (by rw [load]; rfl) _
  · next load =>
    have busy : reading s.loader.load = true := by rw [load]; rfl
    obtain ⟨-, -, left, right⟩ := old.load busy
    exact loading_store old busy old.counterRange left right rfl rfl
  · next load =>
    have busy : reading s.loader.load = true := by rw [load]; rfl
    obtain ⟨-, none, -, -⟩ := old.load busy
    refine leaveStarting_store ?_ old.started ?_ old.counterStored
    · rw [show (loadCounter _ s).loader.writes = s.loader.writes from rfl, none]
      exact ⟨by simp, by simp, by simp, by simp, fun _ _ _ _ _ hj => (by cases hj), fun _ _ hj => (by cases hj)⟩
    · simp only [loadCounter, withCalib_calib]
      split
      · exact old.counterStored
      · exact Nat.le_refl _
  · exact old

/-! ### Resets and the step -/

/-- What operations of lifters and packers reach. -/
theorem Operates.only (h : Operates s t) : Only (.compartments :: liftParts) s t := by
  have own : ∀ q ∈ Field.compartments :: liftParts, q ∈ Field.compartments :: liftParts := fun _ h => h
  induction h with
  | refl => exact Only.refl _ s
  | flow _ _ ih => exact ih.both (withFlow_only _ _) own (by decide)
  | lifter _ _ _ _ ih => exact ih.both (withLifter_only _ _ _) own (by decide)
  | packer _ _ _ _ ih => exact ih.both (withPacker_only _ _ _) own (by decide)
  | fill _ _ _ ih => exact ih.both (withCompartment_only _ _ _) own (by decide)
  | scan _ _ _ ih => exact ih.both (withScan_only _ _) own (by decide)
  | weigh _ _ _ ih => exact ih.both (withWeigh_only _ _) own (by decide)
  | latch _ _ ih => exact ih.both (latchAll_only _ _) own (by decide)

/-- What ends of lifts reach with them. -/
abbrev endsParts : List Field := [.flow, .lifters, .packers, .ports, .scan, .weigh, .body, .compartments, .tags, .journal,
  .integrity]

theorem Ends.only (h : Ends s t) : Only endsParts s t := by
  have own : ∀ q ∈ endsParts, q ∈ endsParts := fun _ h => h
  induction h with
  | refl => exact Only.refl _ s
  | operates _ k ih => exact ih.both k.only own (by decide)
  | ended _ how l ih => exact ih.both (endLift_only how l _) own (by decide)

theorem bodyResetState_store (old : StoreLaw s) : StoreLaw (bodyResetState s) := by
  have ended : Only endsParts s (resetLift .right (resetLift .left s)) :=
    (resetLift_ends (resetLift_ends .refl .left) .right).only
  have blocks := resetBlocks_parts (resetLift .right (resetLift .left s))
  have before : (resetBlocks (resetLift .right (resetLift .left s))).loader = s.loader :=
    (blocks.same .loader (by decide) : _).trans (ended.same .loader (by decide))
  have calib : (bodyResetState s).calib = s.calib :=
    ((bodyResetState_parts s).same .calib (by decide) : _).trans (ended.same .calib (by decide))
  have loader : ∃ since, (bodyResetState s).loader = { s.loader with load := .pass since } := by
    rw [← before]
    exact ⟨_, rfl⟩
  obtain ⟨since, loader⟩ := loader
  refine StoreLaw.mk' ?_ ?_ ?_ ?_ fun busy => ?_
  · rw [calib, loader]; exact old.writesFit
  · rw [loader]; exact old.started
  · rw [calib]; exact old.counterRange
  · rw [loader]; exact old.counterStored
  · rw [loader] at busy; cases busy

theorem cutWrites_counter (old : StoreLaw s) : (cutWrites s).loader.eeprom.counter.content ≤ 65535 := by
  unfold cutWrites
  split
  · exact old.counterStored
  · next writes => exact breakWrite_counter old (by rw [writes]; exact List.mem_cons_self ..)

theorem powerOnState_store (held : Bool) (load : LoadState) (old : StoreLaw s) :
    StoreLaw (powerOnState held load s) := by
  rw [powerOnState_eq]
  exact StoreLaw.mk' ⟨by simp [poweredOn], by simp [poweredOn], by simp [poweredOn], by simp [poweredOn],
      fun _ _ _ _ _ hj => (by cases hj), fun _ _ hj => (by cases hj)⟩
    ⟨fun some => (by cases some), fun some => absurd rfl some⟩ resetIsLawful.store.counterRange (cutWrites_counter old)
    fun _ => ⟨rfl, rfl, rfl, rfl⟩

theorem exec_store {i : Instr} (h : exec i s = .next t) (old : StoreLaw s) : StoreLaw t := by
  by_cases reset : isPowerReset i = true
  · cases i
    case powerOnReset => cases h; exact powerOnState_store _ _ old
    case resetLineAssert => cases h; exact powerOnState_store _ _ old
    case resetLineRelease =>
      cases h
      split
      · exact powerOnState_store _ _ old
      · exact old
    all_goals simp [isPowerReset] at reset
  cases i
  case saveSettings =>
    cases h
    exact serve_keeps_unstarted store_blind rfl (fun _ awake kept => decideSaveSettings_store _ awake kept) old
  case writeCalibration =>
    cases h
    exact serve_keeps_unstarted store_blind rfl (fun _ awake kept => decideWriteCalibration_store _ _ awake kept) old
  case writeIdentity =>
    cases h
    exact serve_keeps_unstarted store_blind rfl (fun _ awake kept => decideWriteIdentity_store _ _ awake kept) old
  case counterWriteEnd => exact counterWriteEnd_store h old
  case commitEnd => exact commitEnd_store h old
  case identityWriteEnd => exact identityWriteEnd_store h old
  case settingsWriteEnd => exact settingsWriteEnd_store h old
  case sealReadingClosed =>
    cases h
    split
    · exact sealCloses_store (StoreLaw.mk' old.writesFit old.started old.counterRange old.counterStored old.load)
    · exact old
  case sealReadingOpen =>
    cases h
    split
    · exact StoreLaw.mk' old.writesFit old.started old.counterRange old.counterStored old.load
    · exact old
  case inputLineChange change =>
    cases change <;> cases h
    · exact old.of_same rfl rfl id
    · exact old.of_same rfl rfl id
    · exact old.of_same rfl rfl id
    · exact StoreLaw.mk' old.writesFit old.started old.counterRange old.counterStored old.load
  case loadPartRead ok =>
    cases h
    split
    · exact old
    · exact readPart_store ok old
  case bodyResetPassEnd =>
    cases h
    split
    · exact leaveStarting_store old.writesFit old.started old.counterRange old.counterStored
    · exact old
  case bodyReset => cases h; exact serve_keeps store_blind (fun _ => bodyResetState_store) old
  case resumeBody =>
    cases h
    refine serve_keeps store_blind (fun x kept => ?_) old
    have only := decideResumeBody_only x
    refine kept.of_same (only.same .calib (by decide)) (only.same .loader (by decide)) fun starting => ?_
    unfold decideResumeBody
    rw [if_neg (by rw [starting]; decide)]
    exact starting
  case estopReadingActive =>
    have only := exec_only h
    refine old.of_same (only.same .calib (by decide)) (only.same .loader (by decide)) fun starting => ?_
    cases h
    split
    · dsimp only
      rw [if_neg (by rw [starting]; decide)]
      exact starting
    · exact starting
  case powerOnReset | resetLineAssert | resetLineRelease => simp [isPowerReset] at reset
  all_goals
    exact old.of_same ((exec_only h).same .calib (by simp [parts])) ((exec_only h).same .loader (by simp [parts]))
      fun starting => (exec_bodyState rfl h).trans starting

/-- Settles O59: `exec_store` with the ranges of `step_ranges`. -/
theorem storeAndRangeLawsKept : Obligations.StoreAndRangeLawsKept := by
  intro s t h
  refine ⟨step_keeps (I := StoreLaw) (fun only kept => kept.of_only only (by decide) (by decide) (by decide)) exec_store
    (fun _ kept => kept.of_same rfl rfl id) h, step_ranges h⟩

end Sys2Proof.Safety
end

section
/-! PROOFS. What may change a calibration item, the counter or the identity (O44). -/

namespace Sys2Proof.Safety

open Sys2Proof.Machine

variable {s t u : State} {p : Port} {d : List Byte} {j : WriteJob} {c : List Field} {v : CalStore}

/-- The same calibration items, the same counter and the same identity. -/
structure SameCalibration (s t : State) : Prop where
  items : ∀ l, (t.calib.cal.get l).items = (s.calib.cal.get l).items
  counter : t.calib.counter = s.calib.counter
  identity : t.calib.identity = s.calib.identity

theorem SameCalibration.refl (s : State) : SameCalibration s s := ⟨fun _ => rfl, rfl, rfl⟩
theorem SameCalibration.trans (h : SameCalibration s t) (k : SameCalibration t u) : SameCalibration s u :=
  ⟨fun l => (k.items l).trans (h.items l), k.counter.trans h.counter, k.identity.trans h.identity⟩

theorem SameCalibration.of_calib (h : t.calib = s.calib) : SameCalibration s t :=
  ⟨fun _ => by rw [h], by rw [h], by rw [h]⟩

/-- An update of the calibration store that keeps the items, the counter and the identity. -/
theorem SameCalibration.withCalib (h : SameCalibration (s.withCalib v) t) (items : ∀ l, (v.cal.get l).items =
      (s.calib.cal.get l).items := by exact fun _ => rfl) (counter : v.counter = s.calib.counter := by rfl)
    (identity : v.identity = s.calib.identity := by rfl) : SameCalibration s t :=
  ⟨fun l => (h.items l).trans (items l), h.counter.trans counter, h.identity.trans identity⟩

theorem begun_same (q : List WriteJob) (s : State) : SameCalibration s (begun q s) :=
  ⟨fun l => (begun_cal q s l).1, (begun_stored q s).1, (begun_stored q s).2⟩

theorem handWrite_same (j : WriteJob) (s : State) : SameCalibration s (handWrite j s) := by
  rw [handWrite_eq, handed]
  split
  · exact begun_same _ s
  · exact .of_calib rfl

theorem nextWrite_same (s : State) : SameCalibration s (nextWrite s) := by
  rw [nextWrite, beginHead_eq]
  exact begun_same _ s

theorem sealCloses_same (s : State) : SameCalibration s (sealCloses s) := by
  unfold sealCloses
  split
  · split
    · exact .withCalib (.refl _)
    · exact handWrite_same _ s
  · exact .refl s

/-- Requests whose decision hands a write over change no item, nor the counter, nor the identity. -/
theorem serve_same {k : Kind} {n : Byte} {owner : State → Decision} (decides : ∀ x, SameCalibration x (owner x).1) :
    SameCalibration s (serve k p n d owner s) :=
  serve_keeps (I := SameCalibration s) (fun only kept => kept.trans (.of_calib (only.same .calib (by decide))))
    (fun x kept => kept.trans (decides x)) (.refl s)

/-- The ends that write the counter or the identity. -/
def isStored : Instr → Bool
  | .counterWriteEnd _ | .identityWriteEnd _ => true
  | _ => false

theorem commitEnd_same {ok : Bool} (h : exec (.commitEnd ok) s = .next t) : SameCalibration s t := by
  cases h
  split
  · next copies _ =>
    refine SameCalibration.trans ?_ (nextWrite_same _)
    have owed (x : State) : SameCalibration x (settleOwed x) := by
      unfold settleOwed
      split
      · dsimp only
        split
        · exact .withCalib (handWrite_same _ _)
        · exact ⟨fun _ => rfl, rfl, rfl⟩
      · exact .refl x
    refine SameCalibration.trans ?_ (owed _)
    have done : SameCalibration s (commitDone ok copies s) :=
      ⟨fun l => (commitDone_cal ok copies s l).1, (commitDone_calib ok copies s).1, by cases ok <;> rfl⟩
    cases ok <;> exact done
  · exact .refl s

/-- Every other command but a load or a reset keeps the items, the counter and the identity. -/
theorem exec_same {i : Instr} (load : isLoad i = false) (other : isStored i = false) (h : exec i s = .next t) :
    SameCalibration s t := by
  by_cases free : Field.calib ∉ parts i
  · exact .of_calib ((exec_only h).same .calib free)
  cases i
  case saveSettings =>
    cases h
    refine serve_same fun x => ?_
    unfold decideSaveSettings
    split
    · exact .refl x
    · exact handWrite_same _ x
  case writeCalibration =>
    cases h
    refine serve_same fun x => ?_
    have item (l : Lifter) (item : CalItem) (v : Int) (q : Port) : SameCalibration x (writeItem q l item v x).1 := by
      unfold writeItem
      split
      · exact .refl x
      · split
        · exact .refl x
        · split
          · exact .refl x
          · exact handWrite_same _ x
    unfold decideWriteCalibration
    split
    · exact .of_calib rfl
    · split
      · exact item _ _ _ _
      · exact .refl x
  case writeIdentity =>
    cases h
    refine serve_same fun x => ?_
    unfold decideWriteIdentity
    dsimp only
    split
    · exact .refl x
    · split
      · exact .refl x
      · split
        · exact .refl x
        · split
          · exact .refl x
          · exact handWrite_same _ x
  case inputLineChange change => cases change <;> cases h <;> exact ⟨fun _ => rfl, rfl, rfl⟩
  case sealReadingOpen => cases h; split <;> exact ⟨fun _ => rfl, rfl, rfl⟩
  case sealReadingClosed =>
    cases h
    split
    · exact .withCalib (sealCloses_same _)
    · exact .refl s
  case commitEnd => exact commitEnd_same h
  case settingsWriteEnd ok =>
    cases h
    split
    · refine SameCalibration.trans ?_ (nextWrite_same _)
      unfold endSettingsWrite
      cases ok <;> exact .of_calib (answerPort_calib _ _ _).1
    · exact .refl s
  case counterWriteEnd | identityWriteEnd => simp [isStored] at other
  case powerOnReset | resetLineAssert | resetLineRelease | loadPartRead => simp [isLoad] at load
  all_goals exact absurd (by simp [parts]) free

/-- The end of a counter write moves the counter to the value written, or nothing; only a success with the seal OPEN
changes an item (R132). -/
theorem counterWriteEnd_cases {ok : Bool} (h : exec (.counterWriteEnd ok) s = .next t) :
    SameCalibration s t ∨ ∃ p l item v n rest, s.loader.writes = .counter p l item v n :: rest
      ∧ ok = true ∧ t.calib.counter = n ∧ t.calib.identity = s.calib.identity
      ∧ (s.calib.sealSwitch.reading = true ∨ ∀ m, (t.calib.cal.get m).items = (s.calib.cal.get m).items) := by
  cases h
  split
  · next p l item v n ends =>
    obtain ⟨-, head⟩ := endingWrite_eq_some.mp ends
    obtain ⟨rest, writes⟩ := List.head?_eq_some_iff.mp head
    have after {x : State} {r : Reply} : SameCalibration x (nextWrite (answerPort p r x)) :=
      (SameCalibration.of_calib (answerPort_calib p r x).1).trans (nextWrite_same _)
    unfold endCounterWrite
    cases ok with
    | false => exact .inl (SameCalibration.trans (.of_calib (breakWrite_store _ s).1) after)
    | true =>
      refine .inr ⟨p, l, item, v, n, rest, writes, rfl, ?_⟩
      rw [if_pos rfl, if_pos rfl]
      split
      · next unsealed => exact ⟨after.counter, after.identity, .inl unsealed⟩
      · exact ⟨after.counter, after.identity, .inr after.items⟩
  · exact .inl (.refl s)

theorem identityWriteEnd_cases {ok : Bool} (h : exec (.identityWriteEnd ok) s = .next t) :
    SameCalibration s t ∨ ∃ p x rest, s.loader.writes = .identity p x :: rest
      ∧ t.calib.identity = x ∧ t.calib.counter = s.calib.counter
      ∧ ∀ m, (t.calib.cal.get m).items = (s.calib.cal.get m).items := by
  cases h
  split
  · next p x ends =>
    obtain ⟨-, head⟩ := endingWrite_eq_some.mp ends
    obtain ⟨rest, writes⟩ := List.head?_eq_some_iff.mp head
    have after {y : State} {r : Reply} : SameCalibration y (nextWrite (answerPort p r y)) :=
      (SameCalibration.of_calib (answerPort_calib p r y).1).trans (nextWrite_same _)
    unfold endIdentityWrite
    cases ok with
    | false => exact .inl (SameCalibration.trans (.of_calib (breakWrite_store _ s).1) after)
    | true =>
      refine .inr ⟨p, x, rest, writes, ?_⟩
      rw [if_pos rfl, if_pos rfl]
      exact ⟨after.identity, after.counter, after.items⟩
  · exact .inl (.refl s)

theorem extendsIdentity_refl (x : Vector (Option Byte) 16) : extendsIdentity x x := fun _ _ h => h

/-- A command that changes an item is the end of a counter write taken under an open seal. -/
theorem items_changed {i : Instr} (load : isLoad i = false) (h : exec i s = .next t)
    (changed : ∃ l, (t.calib.cal.get l).items ≠ (s.calib.cal.get l).items) :
    i = .counterWriteEnd true ∧ s.calib.sealSwitch.reading = true
      ∧ ∃ p l item v rest, s.loader.writes = .counter p l item v t.calib.counter :: rest := by
  obtain ⟨l, differs⟩ := changed
  have kept (same : SameCalibration s t) : False := differs (same.items l)
  by_cases other : isStored i = false
  · exact (kept (exec_same load other h)).elim
  cases i
  case counterWriteEnd ok =>
    obtain same | ⟨p, m, item, v, n, rest, writes, rfl, counter, -, unsealed | same⟩ := counterWriteEnd_cases h
    · exact (kept same).elim
    · exact ⟨rfl, unsealed, p, m, item, v, rest, by rw [counter]; exact writes⟩
    · exact absurd (same l) differs
  case identityWriteEnd ok =>
    obtain same | ⟨-, -, -, -, -, -, same⟩ := identityWriteEnd_cases h
    · exact (kept same).elim
    · exact absurd (same l) differs
  all_goals simp [isStored] at other

/-- The counter stays or moves to its successor, and no written character is lost. -/
theorem stored_grows {i : Instr} (load : isLoad i = false) (h : exec i s = .next t) (law : StoreLaw s) :
    (t.calib.counter = s.calib.counter ∨ t.calib.counter = min 65535 (s.calib.counter + 1))
      ∧ extendsIdentity s.calib.identity t.calib.identity := by
  have kept (same : SameCalibration s t) :
      (t.calib.counter = s.calib.counter ∨ t.calib.counter = min 65535 (s.calib.counter + 1))
        ∧ extendsIdentity s.calib.identity t.calib.identity :=
    ⟨.inl same.counter, by rw [same.identity]; exact extendsIdentity_refl _⟩
  by_cases other : isStored i = false
  · exact kept (exec_same load other h)
  cases i
  case counterWriteEnd ok =>
    obtain same | ⟨p, m, item, v, n, rest, writes, -, counter, identity, -⟩ := counterWriteEnd_cases h
    · exact kept same
    · have next := law.counterNext p m item v n (by rw [writes]; exact List.mem_cons_self ..)
      exact ⟨.inr (counter.trans next), by rw [identity]; exact extendsIdentity_refl _⟩
  case identityWriteEnd ok =>
    obtain same | ⟨p, x, rest, writes, identity, counter, -⟩ := identityWriteEnd_cases h
    · exact kept same
    · exact ⟨.inl counter, by
        rw [identity]; exact law.identityNext p x (by rw [writes]; exact List.mem_cons_self ..)⟩
  all_goals simp [isStored] at other

/-- Settles O44, from what changes an item and from how the counter and the identity grow. -/
theorem calibrationIsSealed : Obligations.CalibrationIsSealed := by
  intro i s t h load
  refine ⟨fun changed => ?_, fun law => ?_, fun law changed => ?_, fun law => (stored_grows load h law).2⟩
  · obtain ⟨end_, unsealed, -⟩ := items_changed load h changed
    exact ⟨end_, unsealed⟩
  · have range := law.counterRange
    obtain same | next := (stored_grows load h law).1 <;> omega
  · obtain ⟨-, -, p, l, item, v, rest, writes⟩ := items_changed load h changed
    exact law.counterNext p l item v _ (by rw [writes]; exact List.mem_cons_self ..)

end Sys2Proof.Safety
end

section
/-! SUPPORT. A grant evaluation as a whole (R53, R54): which of the waiting consumers it grants (`grantLoop_handed`,
`evaluateGrants_granted`), and what placing a request and giving flow back are (O51). -/

namespace Sys2Proof.Safety

open Sys2Proof.Machine

variable {s t u : State} {f : Flow} {c : Consumer} {gs hs : List Consumer}

/-! ### The order of grants -/

theorem mem_grantOrder : c ∈ grantOrder f ↔ c ∈ f.waiting := by
  cases h : isLifter c <;> simp [grantOrder, h]

theorem grantOrder_nodup (once : f.waiting.Nodup) : (grantOrder f).Nodup := by
  refine List.Nodup.append (once.filter _) (once.filter _) fun d left right => ?_
  have yes := (List.mem_filter.mp left).2
  have no := (List.mem_filter.mp right).2
  rw [yes] at no
  cases no

/-- The head of a grant evaluation is the first in the order of grants. -/
theorem headRequest_eq (f : Flow) : headRequest f = (grantOrder f).head? := by
  unfold headRequest grantOrder
  rw [List.head?_append, List.head?_filter]
  cases found : f.waiting.find? isLifter with
  | some d => rfl
  | none =>
    have packers : f.waiting.filter (fun c => !isLifter c) = f.waiting :=
      List.filter_eq_self.mpr fun d hd => by simpa using List.find?_eq_none.mp found d hd
    rw [packers]
    rfl

theorem grantOrder_drop (f g : Flow) (p : Consumer → Bool) (h : g.waiting = f.waiting.filter p) :
    grantOrder g = (grantOrder f).filter p := by
  simp [grantOrder, h, List.filter_filter, Bool.and_comm]

/-! ### Units and demands -/

theorem grantedUnits_set (f : Flow) (c : Consumer) (r : FlowRecord) :
    grantedUnits { f with records := f.records.set c r } + recordUnits (f.records.get c) =
      grantedUnits f + recordUnits r := by
  cases c with
  | lifter l => cases l <;> simp only [grantedUnits, PerConsumer.set, PerConsumer.get] <;> omega
  | packer st => cases st <;> simp only [grantedUnits, PerConsumer.set, PerConsumer.get] <;> omega

theorem units_of_waiting {r : FlowRecord} (h : isWaiting r = true) : recordUnits r = 0 := by
  cases r <;> simp_all [isWaiting, recordUnits]

theorem grantedUnits_congr {g : Flow} (h : g.records = f.records) : grantedUnits g = grantedUnits f := by
  simp only [grantedUnits, h]

/-! ### One grant -/

theorem lifterAfter_false (now : Nat) (u : LifterUnit) : lifterAfter false now u = u := by
  unfold lifterAfter
  split <;> simp

theorem packerAfter_false (now : Nat) (k : Packer) : packerAfter false now k = k := rfl

theorem grantLifter_lifter (l : Lifter) (s : State) :
    (grantLifter l s).lifter l = lifterAfter true s.bodyTimer (s.lifter l) := by
  unfold grantLifter lifterAfter
  change (match (s.lifter l).context.map LiftContext.phase with
    | none => s
    | some ph => _).lifter l = _
  cases hc : (s.lifter l).context with
  | none => rfl
  | some c =>
    dsimp only [Option.map_some]
    cases hv : phaseValve c.phase with
    | none => simp
    | some v =>
      dsimp only
      simp only [State.mapContext, State.withContext, State.withValves, State.context, lifter_withLifter_self, hc,
        Option.map_some, contextAtGrant, Option.isSome_some, and_self, if_true, Option.some.injEq]

theorem packerAtGrant_eq (now : Nat) (k : Packer) : packerAtGrant now k = packerAfter true now k := by
  unfold packerAtGrant packerAfter
  cases k.state with
  | stroke ph => cases ph <;> rfl
  | _ => rfl

/-- What a sequence of grants does: the consumers in gs, which waited, are granted with their demands and handed their
grants; the line is not tested yet. -/
structure Handed (s t : State) (gs : List Consumer) : Prop where
  only : Only [.flow, .lifters, .packers] s t
  records : ∀ c, t.flow.records.get c = if c ∈ gs then .granted (demandOf s.flow c) else s.flow.records.get c
  waiting : t.flow.waiting = s.flow.waiting.filter fun c => decide (c ∉ gs)
  supply : t.flow.engine = s.flow.engine ∧ t.flow.supply = s.flow.supply ∧ t.flow.line = s.flow.line
  units : grantedUnits t.flow = grantedUnits s.flow + (gs.map (demandOf s.flow)).sum
  lifters : ∀ l, t.lifter l = lifterAfter (decide (Consumer.lifter l ∈ gs)) s.bodyTimer (s.lifter l)
  packers : ∀ st, t.packer st = packerAfter (decide (Consumer.packer st ∈ gs)) s.bodyTimer (s.packer st)

theorem Handed.refl (s : State) : Handed s s [] where
  only := .refl _ s
  records c := by simp
  waiting := by simp
  supply := ⟨rfl, rfl, rfl⟩
  units := by simp
  lifters l := by simp [lifterAfter_false]
  packers st := by simp [packerAfter_false]

theorem Handed.append (h : Handed s t gs) (k : Handed t u hs) (apart : ∀ c ∈ hs, c ∉ gs) :
    Handed s u (gs ++ hs) where
  only := h.only.step k.only
  records c := by
    rw [k.records]
    by_cases late : c ∈ hs
    · simp [late, demandOf, h.records, apart c late]
    · simp [late, h.records]
  waiting := by simp [k.waiting, h.waiting, List.filter_filter, Bool.and_comm]
  supply := ⟨k.supply.1.trans h.supply.1, k.supply.2.1.trans h.supply.2.1, k.supply.2.2.trans h.supply.2.2⟩
  units := by
    have same : hs.map (demandOf t.flow) = hs.map (demandOf s.flow) :=
      List.map_congr_left fun c hc => by simp [demandOf, h.records, apart c hc]
    rw [k.units, h.units, same, List.map_append, List.sum_append, Nat.add_assoc]
  lifters l := by
    have now : t.bodyTimer = s.bodyTimer := h.only.same .bodyTimer (by decide)
    rw [k.lifters, h.lifters, now]
    by_cases late : Consumer.lifter l ∈ hs
    · simp [late, apart _ late, lifterAfter_false]
    · simp [late, lifterAfter_false]
  packers st := by
    have now : t.bodyTimer = s.bodyTimer := h.only.same .bodyTimer (by decide)
    rw [k.packers, h.packers, now]
    by_cases late : Consumer.packer st ∈ hs
    · simp [late, apart _ late, packerAfter_false]
    · simp [late, packerAfter_false]

/-- The grant to one consumer: its entry and record, then its unit. -/
theorem grantOne_flow (c : Consumer) (s : State) : (grantOne c s).flow =
    { s.flow with
      records := s.flow.records.set c (.granted (demandOf s.flow c))
      waiting := s.flow.waiting.filter (fun d => d ≠ c) } :=
  (handGrant_flow_ports c _).1

theorem grantOne_parts (c : Consumer) (s : State) : Only [.flow, .lifters, .packers] s (grantOne c s) := by
  have handed (x : State) : Only [.lifters, .packers] x (handGrant c x) := by
    cases c with
    | lifter l => exact (grantLifter_only l x).mono (by decide)
    | packer st => exact (withPacker_only x st _).mono (by decide)
  exact (withFlow_only s _).both (handed _) (by decide) (by decide)

theorem grantOne_lifter (c : Consumer) (s : State) (l : Lifter) :
    (grantOne c s).lifter l = lifterAfter (decide (Consumer.lifter l ∈ [c])) s.bodyTimer (s.lifter l) := by
  by_cases hc : Consumer.lifter l = c
  · subst hc
    rw [decide_eq_true (List.mem_singleton.mpr rfl)]
    exact grantLifter_lifter l _
  · rw [decide_eq_false (fun h => hc (List.mem_singleton.mp h)), lifterAfter_false]
    exact (handGrant_lifter c _ l).2 hc

theorem grantOne_packer (c : Consumer) (s : State) (st : Stream) :
    (grantOne c s).packer st = packerAfter (decide (Consumer.packer st ∈ [c])) s.bodyTimer (s.packer st) := by
  cases c with
  | lifter l =>
    have same : (grantOne (.lifter l) s).packers = s.packers := (grantLifter_only l _).same .packers (by decide)
    simp [State.packer, same, packerAfter_false]
  | packer su =>
    by_cases hs : st = su
    · subst hs
      simp only [grantOne, handGrant, packerAtGrant_eq, packer_withPacker_self, List.mem_singleton, decide_true]
      rfl
    · simp only [grantOne, handGrant, packer_withPacker_of_ne _ _ _ _ hs, List.mem_singleton, Consumer.packer.injEq, hs,
        decide_false, packerAfter_false]
      rfl

theorem grantOne_handed (waits : isWaiting (s.flow.records.get c) = true) : Handed s (grantOne c s) [c] where
  only := grantOne_parts c s
  records d := by
    rw [grantOne_flow]
    by_cases hd : d = c
    · subst hd
      simp
    · simp [hd, PerConsumer.get_set_of_ne]
  waiting := by simp [grantOne_flow]
  supply := by simp [grantOne_flow]
  units := by
    have units := grantedUnits_set s.flow c (.granted (demandOf s.flow c))
    rw [units_of_waiting waits] at units
    simp only [grantOne_flow, List.map_cons, List.map_nil, List.sum_cons, List.sum_nil]
    exact units
  lifters := grantOne_lifter c s
  packers := grantOne_packer c s

/-! ### The grants of an evaluation -/

/-- The waiting list holds waiting consumers, each once. -/
structure ListFits (f : Flow) : Prop where
  once : f.waiting.Nodup
  waits : ∀ c ∈ f.waiting, isWaiting (f.records.get c) = true

theorem Handed.listFits (h : Handed s t gs) (fits : ListFits s.flow) : ListFits t.flow := by
  refine ⟨by rw [h.waiting]; exact fits.once.filter _, fun c hc => ?_⟩
  rw [h.waiting, List.mem_filter] at hc
  obtain ⟨listed, left⟩ := hc
  rw [h.records, if_neg (of_decide_eq_true left)]
  exact fits.waits c listed

/-- The first k in the order of grants are as many as the free supply allows. -/
structure FitsSupply (f : Flow) (k : Nat) : Prop where
  within : k ≤ (grantOrder f).length
  fits : k = 0 ∨ grantedUnits f + (((grantOrder f).take k).map (demandOf f)).sum ≤ f.supply
  most : k < (grantOrder f).length →
    f.supply < grantedUnits f + (((grantOrder f).take (k + 1)).map (demandOf f)).sum

/-- The order of grants after its head was granted. -/
theorem grantOrder_grantOne {rest : List Consumer} (fits : ListFits s.flow) (order : grantOrder s.flow = c :: rest) :
    grantOrder (grantOne c s).flow = rest ∧ c ∉ rest := by
  have listed : c ∈ s.flow.waiting := mem_grantOrder.mp (order ▸ List.mem_cons_self)
  have once := grantOrder_nodup fits.once
  rw [order, List.nodup_cons] at once
  refine ⟨?_, once.1⟩
  rw [grantOrder_drop s.flow _ _ (grantOne_handed (fits.waits c listed)).waiting, order]
  simpa using fun d hd => show ¬ d = c from fun same => once.1 (same ▸ hd)

theorem grantLoop_handed (n : Nat) (fits : ListFits s.flow) (enough : s.flow.waiting.length ≤ n) :
    ∃ k, FitsSupply s.flow k ∧ Handed s (grantLoop n s) ((grantOrder s.flow).take k) := by
  induction n generalizing s with
  | zero =>
    have none : s.flow.waiting = [] := List.length_eq_zero_iff.mp (Nat.le_zero.mp enough)
    exact ⟨0, ⟨Nat.zero_le _, .inl rfl, by simp [grantOrder, none]⟩, Handed.refl s⟩
  | succ n ih =>
    unfold grantLoop
    rw [headRequest_eq]
    cases order : grantOrder s.flow with
    | nil => exact ⟨0, ⟨Nat.zero_le _, .inl rfl, by simp [order]⟩, Handed.refl s⟩
    | cons c rest =>
      dsimp only [List.head?_cons]
      split
      · next room =>
        have listed : c ∈ s.flow.waiting := mem_grantOrder.mp (order ▸ List.mem_cons_self)
        have one := grantOne_handed (fits.waits c listed)
        obtain ⟨after, apart⟩ := grantOrder_grantOne fits order
        have shorter : (grantOne c s).flow.waiting.length ≤ n := by
          have := List.length_filter_lt_length_iff_exists (p := fun d => decide (d ∉ [c])).mpr ⟨c, listed, by simp⟩
          rw [one.waiting]
          omega
        obtain ⟨k, supply, handed⟩ := ih (one.listFits fits) shorter
        rw [after] at handed
        have demands (m : Nat) : (rest.take m).map (demandOf (grantOne c s).flow) = (rest.take m).map (demandOf s.flow) :=
          List.map_congr_left fun d hd => by
            have other : d ∉ [c] := fun same => apart ((List.mem_singleton.mp same) ▸ List.mem_of_mem_take hd)
            simp only [demandOf, one.records, if_neg other]
        obtain ⟨within, sum, most⟩ := supply
        rw [after] at within sum most
        have units : grantedUnits (grantOne c s).flow = grantedUnits s.flow + demandOf s.flow c := by
          rw [one.units]
          simp
        have same : (grantOne c s).flow.supply = s.flow.supply := one.supply.2.1
        rw [demands, units, same] at sum most
        refine ⟨k + 1, ⟨?_, .inr ?_, fun more => ?_⟩, one.append handed fun d hd hc => ?_⟩
        · rw [order]
          exact Nat.succ_le_succ within
        · rw [order]
          simp only [List.take_succ_cons, List.map_cons, List.sum_cons]
          rcases sum with rfl | sum
          · simpa using room
          · omega
        · rw [order] at more ⊢
          have := most (Nat.lt_of_succ_lt_succ more)
          simp only [List.take_succ_cons, List.map_cons, List.sum_cons] at this ⊢
          omega
        · exact apart ((List.mem_singleton.mp hc) ▸ List.mem_of_mem_take hd)
      · next tight =>
        refine ⟨0, ⟨Nat.zero_le _, .inl rfl, fun _ => ?_⟩, Handed.refl s⟩
        rw [order]
        simpa using tight

/-! ### The test of the line -/

theorem testLine_flow (s : State) : (testLine s).flow = { s.flow with line := lineWanted s.flow } := by
  unfold testLine
  split
  · next same => rw [same]
  · rfl

theorem testLine_ports (same : lineWanted s.flow = s.flow.line) : (testLine s).ports = s.ports := by
  unfold testLine
  rw [if_pos same]

theorem testLine_latched (changed : lineWanted s.flow ≠ s.flow.line) : LatchedAll .highIdleChange (testLine s) := by
  unfold testLine
  rw [if_neg changed]
  exact latchAll_latchedAll _ _

theorem lineWanted_congr {g : Flow} (records : g.records = f.records) (waiting : g.waiting = f.waiting) :
    lineWanted g = lineWanted f := by
  simp only [lineWanted, grantedUnits, demandOf, records, waiting]
  rfl

/-- Only the flow, the lifters, the packers and the ports have changed: the rest of the state as one equation. -/
theorem Only.flow_rest (h : Only flowParts s t) :
    (((t.withFlow s.flow).withLifters s.lifters).withPackers s.packers).withPorts s.ports = s := by
  have pending : t.pending = s.pending := h.same .pending (by decide)
  have freeIndex : t.freeIndex = s.freeIndex := h.same .freeIndex (by decide)
  have resetHeld : t.resetHeld = s.resetHeld := h.same .resetHeld (by decide)
  have bodyTimer : t.bodyTimer = s.bodyTimer := h.same .bodyTimer (by decide)
  have banks : t.banks = s.banks := h.same .banks (by decide)
  have body : t.body = s.body := h.same .body (by decide)
  have compartments : t.compartments = s.compartments := h.same .compartments (by decide)
  have bodyLimit : t.bodyLimit = s.bodyLimit := h.same .bodyLimit (by decide)
  have scan : t.scan = s.scan := h.same .scan (by decide)
  have weigh : t.weigh = s.weigh := h.same .weigh (by decide)
  have calib : t.calib = s.calib := h.same .calib (by decide)
  have tags : t.tags = s.tags := h.same .tags (by decide)
  have journal : t.journal = s.journal := h.same .journal (by decide)
  have integrity : t.integrity = s.integrity := h.same .integrity (by decide)
  have access : t.access = s.access := h.same .access (by decide)
  have loader : t.loader = s.loader := h.same .loader (by decide)
  cases s
  cases t
  simp_all [State.withFlow, State.withLifters, State.withPackers, State.withPorts]

theorem Handed.granted (h : Handed s t gs) : Granted s (testLine t) gs := by
  have flow := testLine_flow t
  have kept := testLine_only t
  have line : t.flow.line = s.flow.line := h.supply.2.2
  have wanted : (testLine t).flow.line = lineWanted t.flow := by rw [flow]
  refine
    { records := fun c => by rw [flow]; exact h.records c
      waiting := by rw [flow]; exact h.waiting
      supply := by rw [flow]; exact ⟨h.supply.1, h.supply.2.1⟩
      line := by rw [wanted]; exact (lineWanted_congr (by rw [flow]) (by rw [flow])).symm
      event := fun changed => testLine_latched (fun same => changed (by rw [wanted, same, line]))
      quiet := fun same => (testLine_ports (by rw [← wanted, same, line])).trans (h.only.same .ports (by decide))
      lifters := fun l => ?_
      packers := fun st => ?_
      rest := Only.flow_rest (h.only.both kept (by decide) (by decide)) }
  · rw [State.lifter, show (testLine t).lifters = t.lifters from kept.same .lifters (by decide)]
    exact h.lifters l
  · rw [State.packer, show (testLine t).packers = t.packers from kept.same .packers (by decide)]
    exact h.packers st

/-- A grant evaluation of a body that is not RUNNING grants nothing. -/
theorem evaluateGrants_still (still : s.body.state ≠ .running) : evaluateGrants s = testLine s := by
  unfold evaluateGrants
  rw [if_neg still]

/-- A grant evaluation grants the longest beginning of the order of grants that fits the free supply (R53, R54). -/
theorem evaluateGrants_granted (fits : ListFits s.flow) (running : s.body.state = .running) :
    ∃ k, FitsSupply s.flow k ∧ Granted s (evaluateGrants s) ((grantOrder s.flow).take k) := by
  obtain ⟨k, supply, handed⟩ := grantLoop_handed s.flow.waiting.length fits (Nat.le_refl _)
  refine ⟨k, supply, ?_⟩
  unfold evaluateGrants
  rw [if_pos running]
  exact handed.granted

end Sys2Proof.Safety
end

section
/-! PROOFS. Flow requests are placed, granted, given back and timed out (O51). -/

namespace Sys2Proof.Safety

open Sys2Proof.Machine

variable {s t u : State} {l : Lifter} {st : Stream} {c : LiftContext} {x : Consumer}

/-! ### A consumer that does not wait is not touched -/

theorem grantLoop_unasked_packer (n : Nat) (h : Consumer.packer st ∉ s.flow.waiting) :
    (grantLoop n s).packer st = s.packer st := by
  induction n generalizing s with
  | zero => rfl
  | succ n ih =>
    unfold grantLoop
    split
    · rfl
    · next c hc =>
      have other : Consumer.packer st ≠ c := fun same => h (same ▸ headRequest_mem hc)
      have listed : Consumer.packer st ∉ (grantOne c s).flow.waiting := fun hd =>
        h ((grantOne_grantsOnly (headRequest_mem hc)).list _ hd)
      split
      · rw [ih listed, grantOne_packer, decide_eq_false (fun same => other (List.mem_singleton.mp same)),
          packerAfter_false]
      · rfl

theorem evaluateGrants_unasked_packer (h : Consumer.packer st ∉ s.flow.waiting) :
    (evaluateGrants s).packer st = s.packer st := by
  have tested (y : State) : (testLine y).packer st = y.packer st := by
    rw [State.packer, show (testLine y).packers = y.packers from (testLine_only y).same .packers (by decide)]
    rfl
  unfold evaluateGrants
  rw [tested]
  split
  · exact grantLoop_unasked_packer _ h
  · rfl

theorem giveBackFlow_packer_self (st : Stream) (s : State) :
    (giveBackFlow (.packer st) s).packer st = s.packer st := by
  obtain ⟨-, same⟩ | dropped := giveBackFlow_cases (.packer st) s
  · rw [same]
  · rw [dropped]
    exact evaluateGrants_unasked_packer (dropRecord_not_waiting _ s)

/-- Nothing is given back by a consumer without a record. -/
theorem giveBackFlow_none (h : s.flow.records.get x = .none) : giveBackFlow x s = s := by
  simp [giveBackFlow, releaseGrant, withdrawRequest, h, isGranted, isWaiting]

theorem giveBackFlow_some (h : s.flow.records.get x ≠ .none) :
    giveBackFlow x s = evaluateGrants (dropRecord x s) := by
  obtain ⟨none, -⟩ | dropped := giveBackFlow_cases x s
  · exact absurd none h
  · exact dropped

theorem placeRequest_none (h : s.flow.records.get x = .none) (d : Nat) :
    placeRequest x d s = evaluateGrants (s.withFlow
      { s.flow with
        records := s.flow.records.set x (.waiting d s.bodyTimer), waiting := s.flow.waiting ++ [x] }) := by
  simp only [placeRequest, h]

/-! ### A hold with a grant evaluation after it -/

theorem Begun.congr {q : List Lifter} (h : Begun s t q) (same : u.weigh.computation = t.weigh.computation) :
    Begun s u q := by
  cases q <;> simpa only [Begun, same] using h

theorem HeldAfter.thenGrants {r : HoldReasons} (h : HeldAfter s t l c r)
    (unlisted : Consumer.lifter l ∉ t.flow.waiting) : HeldAfter s (evaluateGrants t) l c r := by
  have grants := evaluateGrants_grantsOnly t
  have only := evaluateGrants_only t
  have unit : (evaluateGrants t).lifter l = t.lifter l := grants.unasked l unlisted
  have scan : (evaluateGrants t).scan = t.scan := only.same .scan (by decide)
  have weigh : (evaluateGrants t).weigh = t.weigh := only.same .weigh (by decide)
  have books := sameBooks_of_only (only.mono (d := liftParts) (by decide))
  exact {
    context := by rw [State.context, unit]; exact h.context
    raiseOff := by rw [unit]; exact h.raiseOff
    lowerOff := by rw [unit]; exact h.lowerOff
    flow := (grants.records _ unlisted).trans h.flow
    window := fun w => by
      have gone := h.window w
      exact ⟨by rw [scan]; exact gone.buffer, fun a => by rw [weigh]; exact gone.unqueued a,
        fun a b => by rw [weigh]; exact gone.waiting a b,
        fun a b d => ⟨by rw [weigh]; exact (gone.computing a b d).1, (gone.computing a b d).2.congr (by rw [weigh])⟩,
        by rw [weigh]; exact gone.results⟩
    buffer := fun w => by rw [scan, weigh]; exact h.buffer w
    event := LatchedAll.of_quiet h.event grants.ports
    unit := by rw [unit]; exact h.unit
    fault := by rw [unit]; exact h.fault
    others :=
      { lifter := (grants.lifters _).trans h.others.lifter
        packers := fun st => (grants.packers st).trans (h.others.packers st)
        scan := by rw [scan]; exact h.others.scan
        drift := by rw [weigh]; exact h.others.drift
        last := by rw [weigh]; exact h.others.last }
    books :=
      { pending := books.pending.trans h.books.pending
        resetHeld := books.resetHeld.trans h.books.resetHeld
        bodyTimer := books.bodyTimer.trans h.books.bodyTimer
        freeIndex := books.freeIndex.trans h.books.freeIndex
        banks := books.banks.trans h.books.banks
        bodyLimit := books.bodyLimit.trans h.books.bodyLimit
        calib := books.calib.trans h.books.calib
        access := books.access.trans h.books.access
        loader := books.loader.trans h.books.loader
        body := books.body.trans h.books.body
        compartments := books.compartments.trans h.books.compartments
        tags := books.tags.trans h.books.tags
        journal := books.journal.trans h.books.journal
        integrity := books.integrity.trans h.books.integrity } }

/-- A hold does not look at flow and ports besides what its lifter gives back. -/
theorem HeldAfter.before {r : HoldReasons} {f : Machine.Flow} {P : PerPort PortState}
    (h : HeldAfter ((s.withFlow f).withPorts P) t l c r) : HeldAfter s t l c r where
  context := h.context
  raiseOff := h.raiseOff
  lowerOff := h.lowerOff
  flow := h.flow
  window w :=
    have gone := h.window w
    ⟨gone.buffer, gone.unqueued, gone.waiting, gone.computing, gone.results⟩
  buffer := h.buffer
  event := h.event
  unit := h.unit
  fault := h.fault
  others := ⟨h.others.lifter, h.others.packers, h.others.scan, h.others.drift, h.others.last⟩
  books := ⟨⟨h.books.pending, h.books.resetHeld, h.books.bodyTimer, h.books.freeIndex, h.books.banks,
    h.books.bodyLimit, h.books.calib, h.books.access, h.books.loader⟩, h.books.body, h.books.compartments,
    h.books.tags, h.books.journal, h.books.integrity⟩

/-! ### Timeouts -/

theorem waitTimer_eq (f : Machine.Flow) (x : Consumer) : waitTimer f x = waitOf (f.records.get x) := by
  unfold waitTimer waitOf
  cases f.records.get x <;> rfl

theorem flowWait_expired {d since : Nat} (waits : s.flow.records.get x = .waiting d since)
    (long : since + 3000 ≤ s.bodyTimer) : expired s (waitTimer s.flow x) flowWaitMs = true := by
  rw [waitTimer_eq, waits, expired_eq_due]
  exact decide_eq_true long

/-- A request withdrawn for its wait, before its consumer is held (R57). -/
def timedOut (x : Consumer) (s : State) : State := latchAll .flowTimeout (dropRecord x s)

theorem flowWaitTimeout_expired (h : expired s (waitTimer s.flow x) flowWaitMs = true) :
    exec (.flowWaitTimeout x) s = .next (evaluateGrants (holdConsumer x (timedOut x s))) := by
  change Host.Outcome.next (if _ then _ else _) = _
  rw [if_pos h]
  rfl

theorem timedOut_flow (x : Consumer) (s : State) :
    (timedOut x s).flow.records.get x = .none ∧ x ∉ (timedOut x s).flow.waiting :=
  ⟨dropRecord_record x s, dropRecord_not_waiting x s⟩

theorem holdMoving_flow {r : HoldReason} (none : s.flow.records.get (.lifter l) = .none) :
    (holdMoving l r c s).flow = s.flow := by
  have given : holdGivesBack l r c s = s.withLifter l (heldUnit (s.lifter l) r c) := giveBackFlow_none none
  have same : (holdWithdraws l r c s).flow = (holdGivesBack l r c s).flow :=
    (holdWithdraws_only l r c s).same .flow (by decide)
  rw [holdMoving_eq]
  exact same.trans (by rw [given]; rfl)

theorem timedOut_quiet (x : Consumer) (s : State) :
    PortsQuiet s (timedOut x s) ∧ LatchedAll .flowTimeout (timedOut x s) :=
  ⟨(latchAll_quiet .flowTimeout (dropRecord x s)).after rfl, latchAll_latchedAll _ _⟩

theorem flowWaitTimeout_lifter (long : expired s (waitTimer s.flow (.lifter l)) flowWaitMs = true)
    (context : s.context l = some c) (holdable : isHoldable c.phase = true) :
    ∃ t, exec (.flowWaitTimeout (.lifter l)) s = .next t ∧ PortsQuiet s t ∧ LatchedAll .flowTimeout t
      ∧ HeldAfter s t l c { flow := true } := by
  obtain ⟨none, unlisted⟩ := timedOut_flow (.lifter l) s
  obtain ⟨quiet, event⟩ := timedOut_quiet (.lifter l) s
  have held : holdConsumer (.lifter l) (timedOut (.lifter l) s) = holdMoving l .flow c (timedOut (.lifter l) s) :=
    holdLifter_moving .flow (s := timedOut (.lifter l) s) context holdable
  have quietHold := holdMoving_quiet l .flow c (timedOut (.lifter l) s)
  have quietGrants := (evaluateGrants_grantsOnly (holdMoving l .flow c (timedOut (.lifter l) s))).ports
  refine ⟨_, flowWaitTimeout_expired long, ?_, ?_, ?_⟩ <;> rw [held]
  · exact (quiet.trans quietHold).trans quietGrants
  · exact LatchedAll.of_quiet event (quietHold.trans quietGrants)
  · have after := holdMoving_heldAfter l .flow c (timedOut (.lifter l) s)
    refine HeldAfter.thenGrants (HeldAfter.before after) ?_
    rw [holdMoving_flow none]
    exact unlisted

/-- A packer held from its stroke for flow, its record gone already (R57, R78). -/
theorem holdPacker_vacant {ph : StrokePhase} {flow : Bool} (none : s.flow.records.get (.packer st) = .none)
    (stroke : (s.packer st).state = .stroke ph) : holdPacker st flow s = s.withPacker st
      { stopPacker (s.packer st) with state := .held ph (addPackReason ⟨false, false⟩ flow) } := by
  simp only [holdPacker, stroke]
  exact giveBackFlow_none none

theorem flowWaitTimeout_packer {ph : StrokePhase}
    (long : expired s (waitTimer s.flow (.packer st)) flowWaitMs = true)
    (stroke : (s.packer st).state = .stroke ph) :
    ∃ t, exec (.flowWaitTimeout (.packer st)) s = .next t ∧ PortsQuiet s t ∧ LatchedAll .flowTimeout t
      ∧ t.packer st = { stopPacker (s.packer st) with state := .held ph ⟨false, true⟩ }
      ∧ t.flow.records.get (.packer st) = .none ∧ PackOthersKept s t st ∧ SameBooks s t := by
  obtain ⟨none, unlisted⟩ := timedOut_flow (.packer st) s
  obtain ⟨quiet, event⟩ := timedOut_quiet (.packer st) s
  have held : holdConsumer (.packer st) (timedOut (.packer st) s) = (timedOut (.packer st) s).withPacker st
      { stopPacker (s.packer st) with state := .held ph ⟨false, true⟩ } := holdPacker_vacant none stroke
  generalize hv : (timedOut (.packer st) s).withPacker st
    { stopPacker (s.packer st) with state := .held ph ⟨false, true⟩ } = v at held
  have own : v.packer st = { stopPacker (s.packer st) with state := .held ph ⟨false, true⟩ } := by
    rw [← hv, packer_withPacker_self]
  have other (su : Stream) (h : su ≠ st) : v.packer su = s.packer su := by
    rw [← hv, packer_withPacker_of_ne _ _ _ _ h]
    rfl
  have still : Consumer.packer st ∉ v.flow.waiting := by rw [← hv]; exact unlisted
  have parts : Only liftParts s v := by
    rw [← hv]
    exact (((withFlow_only s _).both (latchAll_only _ _) (c := liftParts) (by decide) (by decide)).both
      (withPacker_only _ st _) (by decide) (by decide))
  have grants := evaluateGrants_grantsOnly v
  have quietHold : PortsQuiet s v := by rw [← hv]; exact quiet.trans (.of_ports_eq rfl)
  have latched : LatchedAll .flowTimeout v := by rw [← hv]; exact event
  have only : Only liftParts s (evaluateGrants v) :=
    parts.both (evaluateGrants_only v) (fun _ h => h) (by decide)
  refine ⟨_, flowWaitTimeout_expired long, ?_, ?_, ?_, ?_, ?_, ?_⟩ <;> rw [held]
  · exact quietHold.trans grants.ports
  · exact LatchedAll.of_quiet latched grants.ports
  · exact (evaluateGrants_unasked_packer still).trans own
  · refine (grants.records _ still).trans ?_
    rw [← hv]
    exact none
  · have lifters : v.lifters = s.lifters := by rw [← hv]; rfl
    have scan : v.scan = s.scan := by rw [← hv]; rfl
    have weigh : v.weigh = s.weigh := by rw [← hv]; rfl
    refine ⟨fun l => ?_, fun su h => ?_, ((evaluateGrants_only v).same .scan (by decide)).trans scan,
      ((evaluateGrants_only v).same .weigh (by decide)).trans weigh⟩
    · have up := grants.lifters l
      rwa [show v.lifter l = s.lifter l by rw [State.lifter, lifters]; rfl] at up
    · have up := grants.packers su
      rwa [other su h] at up
  · exact sameBooks_of_only only

theorem testLine_rest (s : State) : (testLine s).withFlow s.flow = s.withPorts (testLine s).ports := by
  unfold testLine
  split <;> rfl

/-- Settles O51: a timeout is a request withdrawn, a hold and one grant evaluation; the grants of an evaluation are
those of `evaluateGrants_granted`. -/
theorem flowWaitTimesOut : Obligations.FlowWaitTimesOut := by
  intro l c x st ph d since s
  refine ⟨fun waits long context holdable => flowWaitTimeout_lifter (flowWait_expired waits long) context holdable,
    fun waits long stroke => flowWaitTimeout_packer (flowWait_expired waits long) stroke, fun early => ?_,
    fun none => placeRequest_none none d, fun some => ?_, fun still => ?_, fun running once waits => ?_⟩
  · have early' : expired s (waitTimer s.flow x) flowWaitMs = false := by
      rw [waitTimer_eq, expired_eq_due]
      exact early
    change Host.Outcome.next (if _ then _ else _) = _
    rw [early']
    rfl
  · exact giveBackFlow_some some
  · rw [evaluateGrants_still still]
    exact ⟨testLine_flow s, testLine_rest s⟩
  · obtain ⟨k, supply, granted⟩ := evaluateGrants_granted ⟨once, waits⟩ running
    exact ⟨k, supply.within, granted, supply.fits, supply.most⟩

end Sys2Proof.Safety
end

section
/-! PROOFS. Flow, requests and valves are not kept in order by every step (O56 fails): the end of a body-reset pass makes
a HALTED body RUNNING without a grant evaluation. -/

namespace Sys2Proof.Safety

open Sys2Proof.Machine

/-- A HALTED body with a body-reset pass that has lasted its 20 ms, and LEFT in RAISE_WEIGH waiting for 6 of 16 free
units. No rule leads here, but the laws of flow, requests, valves and grants allow it: they say nothing of the load. -/
def stranded : State :=
  { State.reset with
    pending := [.bodyResetPassEnd]
    bodyTimer := 20
    lifters := State.reset.lifters.set .left
      { State.reset.lifters.left with context := some (newContext .left none none none State.reset) }
    body := { State.reset.body with state := .halted, vehicle := some ⟨0, .high, false, false, 0, 0⟩, fresh := true }
    flow := ⟨.high, 16, ⟨.waiting 6 0, .none, .none, .none⟩, [.lifter .left], false⟩
    loader := { State.reset.loader with load := .pass 0 } }

theorem flowLaw_stranded : FlowLaw stranded := by
  refine ⟨?_, by decide, ?_, rfl, rfl, by decide, ?_, by decide⟩
  · rintro ((_ | _) | (_ | _)) <;> decide
  · rintro ((_ | _) | (_ | _)) d since h <;> cases h
    decide
  · rintro - ((_ | _) | (_ | _)) <;> rfl

theorem requestLaw_stranded : RequestLaw stranded := by
  refine ⟨?_, ?_, ?_, ?_, ?_, ?_, ?_, ?_⟩
  · rintro (_ | _)
    · exact ⟨fun _ => ⟨.raiseWeigh, rfl, .inl rfl⟩, fun _ h => nomatch h⟩
    · exact ⟨fun h => absurd rfl h, fun ⟨_, h, _⟩ => nomatch h⟩
  · rintro (_ | _) <;> exact ⟨fun h => absurd rfl h, fun ⟨_, h⟩ => nomatch h⟩
  · rintro (_ | _) ph u h hu _
    · cases h
      cases hu
      rfl
    · cases h
  · rintro (_ | _) ph u h <;> cases h
  · rintro (_ | _) c h armed
    · cases h
      rcases armed with armed | armed <;> cases armed
    · cases h
  · rintro (_ | _) h <;> cases h
  · rintro (_ | _) c h armed
    · cases h
      rcases armed with armed | armed <;> cases armed
    · cases h
  · rintro (_ | _) c h armed
    · cases h
      cases armed
    · cases h

theorem valveLaw_stranded : ValveLaw stranded := by
  refine ⟨?_, ?_, ?_, ?_, ?_⟩
  · rintro (_ | _) (h | h) <;> cases h
  · rintro (_ | _) <;> decide
  · rintro (_ | _) c x h hx
    · cases h
      cases hx
    · cases h
  · rintro (_ | _) (h | h) <;> cases h
  · rintro (_ | _) <;> decide

theorem grantLaw_stranded : GrantLaw stranded :=
  ⟨fun running => (by cases running), fun starting => (by cases starting)⟩

/-- The step that strands LEFT: the body is RUNNING, and its request fits the free supply but is not granted. -/
theorem step_stranded : step stranded = .next
    ((stranded.withPending []).withLoader { stranded.loader with load := .none } |>.withBody
      { stranded.body with state := .running }) := rfl

/-- Refutes O56: from `stranded`, where all four laws hold, the end of the body-reset pass leaves the body RUNNING with
a waiting request that fits the free supply, against the first grant law. -/
theorem not_motionLawsKept : ¬ Obligations.MotionLawsKept := by
  unfold Obligations.MotionLawsKept
  intro kept
  obtain ⟨-, -, -, grants⟩ := kept stranded _ flowLaw_stranded requestLaw_stranded valveLaw_stranded step_stranded
  have blocked := (grants grantLaw_stranded).blocked rfl (.lifter .left) rfl
  exact absurd blocked (by decide)

end Sys2Proof.Safety
end

section
/-! SUPPORT. What a consumer that places a request becomes (R52, R53): its record and its unit after the grant evaluation
(`placeRequest_own`). From it, what entering a stroke (`enterStroke_entered`) and entering a motion phase
(`enterMotion_entered`) do, for every state of the arbiter. -/

namespace Sys2Proof.Safety

open Sys2Proof.Machine

variable {s t u : State} {l : Lifter} {st : Stream} {c : LiftContext} {x : Consumer}

/-! ### Frames of one command, one after the other -/

theorem SameGround.trans (h : SameGround s t) (k : SameGround t u) : SameGround s u where
  pending := k.pending.trans h.pending
  resetHeld := k.resetHeld.trans h.resetHeld
  bodyTimer := k.bodyTimer.trans h.bodyTimer
  freeIndex := k.freeIndex.trans h.freeIndex
  banks := k.banks.trans h.banks
  bodyLimit := k.bodyLimit.trans h.bodyLimit
  calib := k.calib.trans h.calib
  access := k.access.trans h.access
  loader := k.loader.trans h.loader

theorem SameBooks.trans (h : SameBooks s t) (k : SameBooks t u) : SameBooks s u where
  toSameGround := h.toSameGround.trans k.toSameGround
  body := k.body.trans h.body
  compartments := k.compartments.trans h.compartments
  tags := k.tags.trans h.tags
  journal := k.journal.trans h.journal
  integrity := k.integrity.trans h.integrity

theorem LifterUpToGrant.refl (a : LifterUnit) : LifterUpToGrant a a := rfl
theorem LifterUpToGrant.trans {a b d : LifterUnit} (h : LifterUpToGrant a b) (k : LifterUpToGrant b d) :
    LifterUpToGrant a d := Eq.trans k h
theorem PackerUpToGrant.refl (k : Packer) : PackerUpToGrant k k := rfl
theorem PackerUpToGrant.trans {a b d : Packer} (h : PackerUpToGrant a b) (k : PackerUpToGrant b d) :
    PackerUpToGrant a d := Eq.trans k h

theorem PackOthersKept.trans (h : PackOthersKept s t st) (k : PackOthersKept t u st) : PackOthersKept s u st where
  lifters l := (h.lifters l).trans (k.lifters l)
  packer su hne := (h.packer su hne).trans (k.packer su hne)
  scan := k.scan.trans h.scan
  weigh := k.weigh.trans h.weigh

theorem OthersKept.trans (h : OthersKept s t l) (k : OthersKept t u l) : OthersKept s u l where
  lifter := h.lifter.trans k.lifter
  packers st := (h.packers st).trans (k.packers st)
  scan := by
    rw [k.scan, h.scan]
    cases l <;> rfl
  drift := k.drift.trans h.drift
  last := k.last.trans h.last

theorem SameUnit.trans {a b d : LifterUnit} (h : SameUnit a b) (k : SameUnit b d) : SameUnit a d := by
  obtain ⟨h1, h2, h3, h4, h5⟩ := h
  obtain ⟨k1, k2, k3, k4, k5⟩ := k
  exact ⟨k1.trans h1, k2.trans h2, k3.trans h3, k4.trans h4, k5.trans h5⟩

/-- A change of the packer st alone. -/
theorem withPacker_others (k : Packer) : PackOthersKept s (s.withPacker st k) st :=
  ⟨fun _ => rfl, fun su hne => by rw [packer_withPacker_of_ne _ _ _ _ hne]; rfl, rfl, rfl⟩

theorem withPacker_books (k : Packer) : SameBooks s (s.withPacker st k) :=
  sameBooks_of_only ((withPacker_only s st k).mono (by decide))

/-- A change of the lifter l alone. -/
theorem withLifter_others (v : LifterUnit) : OthersKept s (s.withLifter l v) l :=
  ⟨by rw [lifter_withLifter_of_ne _ _ _ _ (otherLifter_ne l)]; rfl, fun _ => rfl,
    by simp only [withLifter_scan, PerLifter.set_get_self], rfl, rfl⟩

theorem withLifter_books (v : LifterUnit) : SameBooks s (s.withLifter l v) :=
  sameBooks_of_only ((withLifter_only s l v).mono (by decide))

/-- What a grant evaluation and flow given back leave of the rest. -/
theorem GrantsOnly.packOthers (h : GrantsOnly s t) (only : Only flowParts s t) (st : Stream) : PackOthersKept s t st :=
  ⟨h.lifters, fun su _ => h.packers su, only.same .scan (by decide), only.same .weigh (by decide)⟩

theorem GrantsOnly.others (h : GrantsOnly s t) (only : Only flowParts s t) (l : Lifter) : OthersKept s t l where
  lifter := h.lifters _
  packers := h.packers
  scan := by
    rw [show t.scan = s.scan from only.same .scan (by decide), PerLifter.set_get_self]
  drift := congrArg Weigh.drift (only.same .weigh (by decide) : t.weigh = s.weigh)
  last := congrArg Weigh.last (only.same .weigh (by decide) : t.weigh = s.weigh)

theorem flowParts_books (h : Only flowParts s t) : SameBooks s t := sameBooks_of_only (h.mono (by decide))

/-! ### The request of one consumer -/

/-- A consumer's unit after a grant evaluation that granted it or not. -/
def UnitAfter (granted : Bool) (s t : State) : Consumer → Prop
  | .lifter l => t.lifter l = lifterAfter granted s.bodyTimer (s.lifter l)
  | .packer st => t.packer st = packerAfter granted s.bodyTimer (s.packer st)

theorem UnitAfter.refl (s : State) (x : Consumer) : UnitAfter false s s x := by
  cases x with
  | lifter l => exact (lifterAfter_false _ _).symm
  | packer st => exact (packerAfter_false _ _).symm

theorem UnitAfter.before {b : Bool} (h : UnitAfter b t u x) (same : UnitAfter false s t x)
    (timer : t.bodyTimer = s.bodyTimer) : UnitAfter b s u x := by
  cases x with
  | lifter l =>
    simp only [UnitAfter, lifterAfter_false] at same h ⊢
    rw [h, same, timer]
  | packer st =>
    simp only [UnitAfter, packerAfter_false] at same h ⊢
    rw [h, same, timer]

theorem UnitAfter.then {b : Bool} (h : UnitAfter b s t x) (same : UnitAfter false t u x) : UnitAfter b s u x := by
  cases x with
  | lifter l =>
    simp only [UnitAfter, lifterAfter_false] at same h ⊢
    rw [same, h]
  | packer st =>
    simp only [UnitAfter, packerAfter_false] at same h ⊢
    rw [same, h]

theorem grantOne_unit (y : Consumer) (s : State) (x : Consumer) : UnitAfter (decide (x ∈ [y])) s (grantOne y s) x := by
  cases x with
  | lifter l => exact grantOne_lifter y s l
  | packer st => exact grantOne_packer y s st

theorem grantLoop_unasked (n : Nat) (h : x ∉ s.flow.waiting) :
    (grantLoop n s).flow.records.get x = s.flow.records.get x ∧ UnitAfter false s (grantLoop n s) x := by
  have grants := grantLoop_grantsOnly n s
  refine ⟨grants.records x h, ?_⟩
  cases x with
  | lifter l => exact (grants.unasked l h).trans (lifterAfter_false _ _).symm
  | packer st => exact (grantLoop_unasked_packer n h).trans (packerAfter_false _ _).symm

/-- The consumer x with its request for d units: granted, or waiting as before. -/
def Decided (d since : Nat) (granted : Bool) (s t : State) (x : Consumer) : Prop :=
  t.flow.records.get x = (if granted then .granted d else .waiting d since) ∧ UnitAfter granted s t x

theorem grantLoop_decided {d since : Nat} (n : Nat) (waits : s.flow.records.get x = .waiting d since) :
    ∃ b, Decided d since b s (grantLoop n s) x := by
  induction n generalizing s with
  | zero => exact ⟨false, waits, .refl s x⟩
  | succ n ih =>
    have same : ∃ b, Decided d since b s s x := ⟨false, waits, .refl s x⟩
    unfold grantLoop
    split
    · exact same
    · next y head =>
      split
      · have timer : (grantOne y s).bodyTimer = s.bodyTimer := (grantOne_only y s).same .bodyTimer (by decide)
        have unit := grantOne_unit y s x
        by_cases hx : x = y
        · subst hx
          have record : (grantOne x s).flow.records.get x = .granted d := by
            rw [grantOne_flow, PerConsumer.get_set_self, demandOf, waits]
            rfl
          have unlisted : x ∉ (grantOne x s).flow.waiting := by simp [grantOne_flow]
          obtain ⟨kept, unit'⟩ := grantLoop_unasked n unlisted
          rw [decide_eq_true (List.mem_singleton.mpr rfl)] at unit
          exact ⟨true, kept.trans record, unit.then unit'⟩
        · have record : (grantOne y s).flow.records.get x = .waiting d since := by
            rw [grantOne_flow, PerConsumer.get_set_of_ne _ _ _ _ hx, waits]
          rw [decide_eq_false (fun h => hx (List.mem_singleton.mp h))] at unit
          obtain ⟨b, kept, unit'⟩ := ih record
          exact ⟨b, kept, unit'.before unit timer⟩
      · exact same

theorem testLine_unit (s : State) (x : Consumer) :
    (testLine s).flow.records.get x = s.flow.records.get x ∧ UnitAfter false s (testLine s) x := by
  have only := testLine_only s
  refine ⟨by rw [testLine_flow], ?_⟩
  cases x with
  | lifter l =>
    simp only [UnitAfter, lifterAfter_false, State.lifter, show (testLine s).lifters = s.lifters from only.same .lifters (by decide)]
  | packer st =>
    simp only [UnitAfter, packerAfter_false, State.packer, show (testLine s).packers = s.packers from only.same .packers (by decide)]

theorem evaluateGrants_decided {d since : Nat} (waits : s.flow.records.get x = .waiting d since) :
    ∃ b, Decided d since b s (evaluateGrants s) x := by
  have looped : ∃ b, Decided d since b s
      (if s.body.state = .running then grantLoop s.flow.waiting.length s else s) x := by
    split
    · exact grantLoop_decided _ waits
    · exact ⟨false, waits, .refl s x⟩
  obtain ⟨b, record, unit⟩ := looped
  obtain ⟨kept, same⟩ := testLine_unit (if s.body.state = .running then grantLoop s.flow.waiting.length s else s) x
  exact ⟨b, kept.trans record, unit.then same⟩

/-- s with the request of a consumer without a record, before the grant evaluation (R52). -/
def requested (x : Consumer) (d : Nat) (s : State) : State :=
  s.withFlow
    { s.flow with records := s.flow.records.set x (.waiting d s.bodyTimer), waiting := s.flow.waiting ++ [x] }

theorem placeRequest_requested (none : s.flow.records.get x = .none) (d : Nat) :
    placeRequest x d s = evaluateGrants (requested x d s) := placeRequest_none none d

/-- A request placed by a consumer without a record: granted at once, or waiting from now (R52, R53). -/
theorem placeRequest_own (none : s.flow.records.get x = .none) (d : Nat) :
    ∃ b, Decided d s.bodyTimer b s (placeRequest x d s) x := by
  obtain ⟨b, record, unit⟩ := evaluateGrants_decided (s := requested x d s) (x := x)
    (PerConsumer.get_set_self _ _ _)
  rw [placeRequest_requested none]
  refine ⟨b, record, unit.before ?_ rfl⟩
  cases x with
  | lifter l => exact (lifterAfter_false _ _).symm
  | packer st => exact (packerAfter_false _ _).symm

/-- What a placed request leaves of the rest. -/
theorem placeRequest_lifters (none : s.flow.records.get x = .none) (d : Nat) (m : Lifter) :
    LifterUpToGrant (s.lifter m) ((placeRequest x d s).lifter m) := by
  rw [placeRequest_requested none]
  exact (evaluateGrants_grantsOnly (requested x d s)).lifters m

theorem placeRequest_packers (none : s.flow.records.get x = .none) (d : Nat) (su : Stream) :
    PackerUpToGrant (s.packer su) ((placeRequest x d s).packer su) := by
  rw [placeRequest_requested none]
  exact (evaluateGrants_grantsOnly (requested x d s)).packers su

theorem placeRequest_quiet (x : Consumer) (d : Nat) (s : State) : PortsQuiet s (placeRequest x d s) :=
  (Operates.refl.placeRequest x d).quiet

theorem Decided.granted_iff {d since : Nat} {b : Bool} (h : Decided d since b s t x) :
    isGranted (t.flow.records.get x) = b := by
  rw [h.1]
  cases b <;> rfl

theorem Decided.asked {d : Nat} {b : Bool} (h : Decided d s.bodyTimer b s t x) : Asked s t x d := by
  cases b
  · exact .inr h.1
  · exact .inl h.1

/-! ### A stroke entered (R69, R71, R73) -/

theorem staleCause_some_iff : (∃ a, staleCause st s = some a) ↔ ¬ PackFresh s st := by
  unfold staleCause PackFresh
  cases channelFresh s (pressureChannel st) <;> cases channelFresh s (strokeChannel st) <;> simp

theorem staleCause_eq {a : PackFaultCause} (h : staleCause st s = some a) : a = staleReason s st := by
  unfold staleCause at h
  unfold staleReason
  cases hp : channelFresh s (pressureChannel st) <;> cases hs : channelFresh s (strokeChannel st) <;>
    simp_all

theorem giveBackFlow_packOthers (x : Consumer) (s : State) (st : Stream) : PackOthersKept s (giveBackFlow x s) st :=
  ⟨giveBackFlow_lifters x s, fun su _ => giveBackFlow_packers x s su, (giveBackFlow_only x s).same .scan (by decide),
    (giveBackFlow_only x s).same .weigh (by decide)⟩

theorem giveBackFlow_books (x : Consumer) (s : State) : SameBooks s (giveBackFlow x s) :=
  flowParts_books (giveBackFlow_only x s)

/-- A packer that enters FAULT from its stroke (R73). -/
theorem faultPacker_own (a : PackFaultCause) (ph : StrokePhase) :
    PackFaultOwn s (faultPacker st a ph s) st a ph (s.packer st).pending where
  packer := (giveBackFlow_packer_self st (s.withPacker st
    { stopPacker (s.packer st) with
      state := .fault, stopRequested := false, lastFault := some ⟨a, ph, clockTime s⟩ })).trans
    (packer_withPacker_self _ _ _)
  flow := giveBackFlow_record _ _
  event := latchAll_latchedAll _ _

theorem faultPacker_others (a : PackFaultCause) (ph : StrokePhase) : PackOthersKept s (faultPacker st a ph s) st := by
  have given := (withPacker_others (s := s) (st := st)
    { stopPacker (s.packer st) with
      state := .fault, stopRequested := false, lastFault := some ⟨a, ph, clockTime s⟩ }).trans
    (giveBackFlow_packOthers (.packer st) _ st)
  exact ⟨given.lifters, given.packer, given.scan, given.weigh⟩

theorem faultPacker_books (a : PackFaultCause) (ph : StrokePhase) : SameBooks s (faultPacker st a ph s) :=
  sameBooks_of_only ((faultPacker_only st a ph s).mono (by decide))

/-- A packer that enters a phase of its stroke without a record (R69, R73). -/
theorem enterStroke_entered (none : s.flow.records.get (.packer st) = .none) (ph : StrokePhase) :
    StrokeEntered s (enterStroke st ph s) st ph (s.packer st).pending (s.packer st).stopRequested := by
  unfold enterStroke
  split
  · next a stale =>
    have aged : ¬ PackFresh s st := staleCause_some_iff.mp ⟨a, stale⟩
    rw [staleCause_eq stale]
    exact ⟨fun fresh => absurd fresh aged, fun _ => faultPacker_own _ ph, faultPacker_others _ ph,
      faultPacker_books _ ph⟩
  · next live =>
    have fresh : PackFresh s st := Classical.not_not.mp fun aged => by
      obtain ⟨a, stale⟩ := staleCause_some_iff.mpr aged
      rw [live] at stale
      cases stale
    have entered := withPacker_others (s := s) (st := st) { stopPacker (s.packer st) with state := .stroke ph }
    have placed : (s.withPacker st { stopPacker (s.packer st) with state := .stroke ph }).flow.records.get (.packer st) =
      .none := none
    obtain ⟨b, decided⟩ := placeRequest_own placed (strokeDemand ph)
    have unit := decided.2
    simp only [UnitAfter, packer_withPacker_self] at unit
    refine ⟨fun _ => ?_, fun aged => absurd fresh aged, entered.trans ⟨placeRequest_lifters placed _,
      fun su _ => placeRequest_packers placed _ su, (placeRequest_only _ _ _).same .scan (by decide),
      (placeRequest_only _ _ _).same .weigh (by decide)⟩,
      (withPacker_books _).trans (flowParts_books (placeRequest_only _ _ _))⟩
    constructor
    case request => exact decided.asked
    all_goals
      rw [unit]
      try rw [decided.granted_iff]
      cases b <;> cases ph <;> first | rfl | exact ⟨rfl, rfl, rfl, rfl⟩

/-- A packer without what a stroke's entry sets. -/
def plainPacker (k : Packer) : Packer :=
  { barePacker k with state := .idle, pending := 0, stopRequested := false }

theorem plainPacker_eq {k m : Packer} (h : plainPacker k = plainPacker m) :
    SamePackerBooks m k ∧ k.lastFault = m.lastFault := by
  obtain ⟨⟩ := k
  obtain ⟨⟩ := m
  simp only [plainPacker, barePacker, Packer.mk.injEq] at h
  obtain ⟨mode, settings, -, -, dropped, -, short, fault, -⟩ := h
  exact ⟨⟨mode, settings, dropped, short⟩, fault⟩

theorem channelFresh_congr (scan : t.scan = s.scan) (ch : Fin 12) : channelFresh t ch = channelFresh s ch := by
  simp only [channelFresh, State.slot, scan]

theorem PackFresh.congr (scan : t.scan = s.scan) : PackFresh t st ↔ PackFresh s st := by
  rw [PackFresh, PackFresh, channelFresh_congr scan, channelFresh_congr scan]

/-- A stroke entered after a step that kept the rest, and the packer but for what the entry sets. -/
theorem StrokeEntered.after {ph : StrokePhase} {pending : Nat} {stop : Bool}
    (h : StrokeEntered u t st ph pending stop) (others : PackOthersKept s u st) (books : SameBooks s u)
    (own : plainPacker (u.packer st) = plainPacker (s.packer st)) : StrokeEntered s t st ph pending stop := by
  obtain ⟨⟨mode, settings, dropped, short⟩, fault⟩ := plainPacker_eq own
  have fresh : PackFresh u st ↔ PackFresh s st := PackFresh.congr others.scan
  have reason : staleReason u st = staleReason s st := by
    rw [staleReason, staleReason, channelFresh_congr others.scan]
  refine ⟨fun live => ?_, fun aged => ?_, others.trans h.others, books.trans h.books⟩
  · have runs := h.runs (fresh.mpr live)
    obtain ⟨kmode, ksettings, kdropped, kshort⟩ := runs.kept
    exact
      { runs with
        request := by
          have asked := runs.request
          simpa only [Asked, books.bodyTimer] using asked
        timer := by rw [← books.bodyTimer]; exact runs.timer
        fault := runs.fault.trans fault
        kept := ⟨kmode.trans mode, ksettings.trans settings, kdropped.trans dropped, kshort.trans short⟩ }
  · have faults := h.faults fun live => aged (fresh.mp live)
    rw [reason] at faults
    refine ⟨faults.packer.trans ?_, faults.flow, faults.event⟩
    simp only [books.body, mode, settings, dropped, short]

/-! ### A motion phase entered (R9, R11) -/

theorem withLifter_withLifter (l : Lifter) (a b : LifterUnit) (s : State) :
    (s.withLifter l a).withLifter l b = s.withLifter l b := by
  cases l <;> rfl

theorem mapContext_some (f : LiftContext → LiftContext) (context : s.context l = some c) :
    s.mapContext l f = s.withLifter l { s.lifter l with context := some (f c) } := by
  rw [State.mapContext, context]
  rfl

/-- The unit of a lifter at the entry of a phase: its valves off and the old phase's timers stopped (R9). -/
def unitEntering (u : LifterUnit) (c : LiftContext) (ph : Phase) : LifterUnit :=
  { u with raiseValve := false, lowerValve := false, context := some { stopTimers c with phase := ph } }

theorem setPhase_some (ph : Phase) (context : s.context l = some c) :
    setPhase l ph s = s.withLifter l (unitEntering (s.lifter l) c ph) := by
  have valves : (s.withValves l false false).context l = some c := by
    rw [context_withValves]; exact context
  rw [setPhase, mapContext_some _ valves, State.withValves, withLifter_withLifter, lifter_withLifter_self]
  rfl

/-- A lifter that has entered FAULT from phase ph (R11). -/
theorem faultLifter_own (a : LiftFaultCause) (context : s.context l = some c) :
    FaultOwn s (faultLifter l a s) l c a c.phase := by
  simp only [faultLifter, context]
  have unit := giveBackFlow_lifter_self l (s.withLifter l
    { s.lifter l with
      raiseValve := false
      lowerValve := false
      context := some { stopTimers c with remembered := some c.phase, phase := .fault }
      lastFault := some ⟨a, c.phase, clockTime s⟩ })
  rw [lifter_withLifter_self] at unit
  have own : ∀ y, (latchAll .liftFault y).lifter l = y.lifter l := fun _ => rfl
  constructor
  case flow => exact giveBackFlow_record _ _
  case event => exact latchAll_latchedAll _ _
  case context => rw [State.context, own, unit]
  case raiseOff => rw [own, unit]
  case lowerOff => rw [own, unit]
  case fault => rw [own, unit]; rfl
  case unit => rw [own, unit]; exact ⟨rfl, rfl, rfl, rfl, rfl⟩

theorem giveBackFlow_others (x : Consumer) (s : State) (l : Lifter) : OthersKept s (giveBackFlow x s) l where
  lifter := giveBackFlow_lifters x s _
  packers := giveBackFlow_packers x s
  scan := by
    rw [show (giveBackFlow x s).scan = s.scan from (giveBackFlow_only x s).same .scan (by decide),
      PerLifter.set_get_self]
  drift := congrArg Weigh.drift ((giveBackFlow_only x s).same .weigh (by decide) : _ = s.weigh)
  last := congrArg Weigh.last ((giveBackFlow_only x s).same .weigh (by decide) : _ = s.weigh)

/-- Latches change nothing that these frames speak of. -/
theorem OthersKept.latch (h : OthersKept s t l) (e : Event) : OthersKept s (latchAll e t) l :=
  ⟨h.lifter, h.packers, h.scan, h.drift, h.last⟩

theorem faultLifter_others (a : LiftFaultCause) (context : s.context l = some c) :
    OthersKept s (faultLifter l a s) l := by
  simp only [faultLifter, context]
  exact ((withLifter_others _).trans (giveBackFlow_others _ _ l)).latch _

theorem faultLifter_quiet (a : LiftFaultCause) (s : State) : PortsQuiet s (faultLifter l a s) :=
  (Operates.refl.faultLifter l a).quiet

/-- A lifter that has entered a motion phase or RETURNING, or faulted at its entry, and the rest kept. -/
structure MotionEntered (s t : State) (l : Lifter) (c : LiftContext) (ph : Phase) : Prop where
  own : MovesOrFaults s t l c ph
  others : OthersKept s t l
  books : SameBooks s t
  scan : t.scan = s.scan
  weigh : t.weigh = s.weigh
  quiet : PortsQuiet s t

theorem moves_demand {ph : Phase} (moving : moves ph) :
    ∃ d v, phaseDemand ph = some d ∧ phaseValve ph = some v := by
  cases ph <;> simp_all [moves, isMotion, phaseDemand, phaseValve]

/-- The unit after a grant evaluation, in the terms of R9. -/
theorem lifterAfter_entering {a : LifterUnit} {ph : Phase} (b : Bool) (now : Nat) (moving : moves ph) :
    lifterAfter b now (unitEntering a c ph) =
      { unitEntering a c ph with
        raiseValve := b && decide (phaseValve ph = some .raise)
        lowerValve := b && decide (phaseValve ph = some .lower)
        context := some { stopTimers c with
          phase := ph, phaseTimer := (grantStarts b ph now).1, pulse := (grantStarts b ph now).2 } } := by
  obtain ⟨d, v, -, valve⟩ := moves_demand moving
  cases b
  · rw [lifterAfter_false]
    rfl
  · by_cases shake : ph = .shake
    · subst shake
      rfl
    · simp [lifterAfter, unitEntering, valve, grantStarts, shake, stopTimers]

/-- A motion phase or RETURNING entered by a lifter without a record (R9). -/
theorem placeRequest_motion {ph : Phase} {d : Nat} (moving : moves ph) (demand : phaseDemand ph = some d)
    (none : s.flow.records.get (.lifter l) = .none) :
    MotionOwn s (placeRequest (.lifter l) d (s.withLifter l (unitEntering (s.lifter l) c ph))) l c ph := by
  obtain ⟨b, decided⟩ := placeRequest_own (s := s.withLifter l (unitEntering (s.lifter l) c ph)) (x := .lifter l) none d
  have unit := decided.2
  simp only [UnitAfter, lifter_withLifter_self, withLifter_bodyTimer] at unit
  rw [lifterAfter_entering b _ moving] at unit
  constructor
  case context => rw [State.context, unit]; rfl
  case timers => rw [State.context, unit, decided.granted_iff]; rfl
  case request => exact ⟨d, demand, decided.asked⟩
  case raise => rw [unit, decided.granted_iff]
  case lower => rw [unit, decided.granted_iff]
  case unit => rw [unit]; exact ⟨rfl, rfl, rfl, rfl, rfl⟩
  case fault => rw [unit]; rfl

theorem placeRequest_others (x : Consumer) (none : s.flow.records.get x = .none) (d : Nat) (l : Lifter) :
    OthersKept s (placeRequest x d s) l where
  lifter := placeRequest_lifters none d _
  packers := placeRequest_packers none d
  scan := by
    rw [show (placeRequest x d s).scan = s.scan from (placeRequest_only x d s).same .scan (by decide),
      PerLifter.set_get_self]
  drift := congrArg Weigh.drift ((placeRequest_only x d s).same .weigh (by decide) : _ = s.weigh)
  last := congrArg Weigh.last ((placeRequest_only x d s).same .weigh (by decide) : _ = s.weigh)

theorem enterMotion_entered {ph : Phase} (context : s.context l = some c)
    (none : s.flow.records.get (.lifter l) = .none) (moving : moves ph) :
    MotionEntered s (enterMotion l ph s) l c ph := by
  have only := enterMotion_only l ph s
  have quiet : PortsQuiet s (enterMotion l ph s) := (Operates.refl.enterMotion l ph).quiet
  have scan : (enterMotion l ph s).scan = s.scan := only.same .scan (by decide)
  have weigh : (enterMotion l ph s).weigh = s.weigh := only.same .weigh (by decide)
  obtain ⟨d, v, demand, -⟩ := moves_demand moving
  refine ⟨?_, ?_, flowParts_books only, scan, weigh, quiet⟩ <;> clear only quiet scan weigh <;>
    unfold enterMotion <;> dsimp only <;> rw [setPhase_some ph context]
  · split
    · next stale =>
      obtain ⟨motion, aged⟩ := stale
      have entering : (s.withLifter l (unitEntering (s.lifter l) c ph)).context l =
          some { stopTimers c with phase := ph } := by rw [State.context, lifter_withLifter_self]; rfl
      have faults := faultLifter_own .angleStale entering
      refine ⟨fun fresh => absurd (fresh motion) aged, fun _ _ => ⟨faults.context, faults.raiseOff, faults.lowerOff,
        faults.flow, faults.fault, faults.event, ?_⟩⟩
      have unit := faults.unit
      rw [lifter_withLifter_self] at unit
      exact unit
    · next live =>
      rw [demand]
      refine ⟨fun _ => placeRequest_motion moving demand none, fun motion aged => absurd ⟨motion, ?_⟩ live⟩
      rw [aged]
      exact Bool.false_ne_true
  · have entered := withLifter_others (s := s) (l := l) (unitEntering (s.lifter l) c ph)
    split
    · exact entered.trans (faultLifter_others _ (c := { stopTimers c with phase := ph })
        (by rw [State.context, lifter_withLifter_self]; rfl))
    · exact entered.trans (placeRequest_others (s := s.withLifter l (unitEntering (s.lifter l) c ph)) _ none _ l)

/-- What MovesOrFaults and the like see of the state before. -/
structure SameSight (s u : State) (l : Lifter) : Prop where
  unit : SameUnit (s.lifter l) (u.lifter l)
  fault : (u.lifter l).lastFault = (s.lifter l).lastFault
  timer : u.bodyTimer = s.bodyTimer
  clock : u.body.clockSeconds = s.body.clockSeconds

theorem MotionOwn.after {ph : Phase} (h : MotionOwn u t l c ph) (sight : SameSight s u l) : MotionOwn s t l c ph where
  context := h.context
  timers := by rw [← sight.timer]; exact h.timers
  request := by
    obtain ⟨d, demand, asked⟩ := h.request
    exact ⟨d, demand, by simpa only [Asked, sight.timer] using asked⟩
  raise := h.raise
  lower := h.lower
  unit := sight.unit.trans h.unit
  fault := h.fault.trans sight.fault

theorem FaultOwn.after {a : LiftFaultCause} {ph : Phase} (h : FaultOwn u t l c a ph) (sight : SameSight s u l) :
    FaultOwn s t l c a ph where
  context := h.context
  raiseOff := h.raiseOff
  lowerOff := h.lowerOff
  flow := h.flow
  fault := by rw [← sight.clock]; exact h.fault
  event := h.event
  unit := sight.unit.trans h.unit

theorem MovesOrFaults.after {ph : Phase} (h : MovesOrFaults u t l c ph) (sight : SameSight s u l)
    (fresh : channelFresh u (armAngle l) = channelFresh s (armAngle l)) : MovesOrFaults s t l c ph where
  moves live := (h.moves (by rw [fresh]; exact live)).after sight
  faults motion aged := (h.faults motion (by rw [fresh]; exact aged)).after sight

end Sys2Proof.Safety
end

section
/-! SUPPORT. A request that is taken and answered OK, its effect seen through the ports (`exec_taken`), and the small
operations of packers: a cycle started or not, a packer back in IDLE. -/

namespace Sys2Proof.Safety

open Sys2Proof.Machine

variable {s t u : State} {l : Lifter} {st : Stream} {c : LiftContext} {x : Consumer} {p : Port} {n : Byte}
  {d : List Byte}

/-! ### Requests taken -/

/-- A request that its owner takes, in terms of its effect u: answered OK, the ports' services apart. -/
theorem exec_taken_latches {k : Kind} {i : Instr} {owner : State → Decision} (accepts : Accepts k p d s)
    (serves : exec i s = .next (serve k p n d owner s)) (decides : owner (takeRequest p n k.code s) = taken u)
    (quiet : PortsQuiet (takeRequest p n k.code s) u) :
    ∃ Q, exec i s = .next (u.withPorts Q) ∧ Answered s (u.withPorts Q) p n k (.ok [])
      ∧ ∀ q, ((u.withPorts Q).port q).latched = (u.port q).latched := by
  have ports : answerPort p (.ok []) u = u.withPorts (answerPort p (.ok []) u).ports := by
    unfold answerPort
    split <;> rfl
  have run : exec i s = .next (answerPort p (.ok []) u) := by
    rw [serves, serve_of_accepts n owner accepts, decides]
    rfl
  refine ⟨(answerPort p (.ok []) u).ports, by rw [← ports]; exact run, by
    rw [← ports]; exact answerPort_answered (.ok []) quiet, fun q => ?_⟩
  rw [← ports, answerPort_latched]

/-- The same, of the events that every port has latched. -/
theorem exec_taken {k : Kind} {i : Instr} {owner : State → Decision} (accepts : Accepts k p d s)
    (serves : exec i s = .next (serve k p n d owner s)) (decides : owner (takeRequest p n k.code s) = taken u)
    (quiet : PortsQuiet (takeRequest p n k.code s) u) :
    ∃ Q, exec i s = .next (u.withPorts Q) ∧ Answered s (u.withPorts Q) p n k (.ok [])
      ∧ ∀ e, LatchedAll e u → LatchedAll e (u.withPorts Q) := by
  obtain ⟨Q, run, answered, same⟩ := exec_taken_latches accepts serves decides quiet
  refine ⟨Q, run, answered, fun e latched q => ?_⟩
  rw [same]
  exact latched q

theorem PackOthersKept.around {P Q : PerPort PortState} (h : PackOthersKept (s.withPorts P) t st) :
    PackOthersKept s (t.withPorts Q) st := ⟨h.lifters, h.packer, h.scan, h.weigh⟩

theorem OthersKept.around {P Q : PerPort PortState} (h : OthersKept (s.withPorts P) t l) :
    OthersKept s (t.withPorts Q) l := ⟨h.lifter, h.packers, h.scan, h.drift, h.last⟩

/-- A stroke entered, whatever the ports were doing before and do after, as long as they keep the event. -/
theorem StrokeEntered.around {P Q : PerPort PortState} {ph : StrokePhase} {pending : Nat} {stop : Bool}
    (h : StrokeEntered (s.withPorts P) t st ph pending stop)
    (latched : LatchedAll .packFault t → LatchedAll .packFault (t.withPorts Q)) :
    StrokeEntered s (t.withPorts Q) st ph pending stop where
  runs fresh :=
    have own := h.runs fresh
    ⟨own.state, own.count, own.stopping, own.request, own.extend, own.retract, own.timer, own.fault, own.kept⟩
  faults aged :=
    have own := h.faults aged
    ⟨own.packer, own.flow, latched own.event⟩
  others := h.others.around
  books := h.books.withPorts

/-- A taken request of a packer that ends in a stroke's entry. -/
theorem exec_stroke {k : Kind} {i : Instr} {owner : State → Decision} {ph : StrokePhase} {pending : Nat} {stop : Bool}
    (accepts : Accepts k p d s) (serves : exec i s = .next (serve k p n d owner s))
    (operates : ∀ x, Operates x (owner x).1) (decides : owner (takeRequest p n k.code s) = taken u)
    (entered : StrokeEntered (takeRequest p n k.code s) u st ph pending stop) :
    ∃ t, exec i s = .next t ∧ Answered s t p n k (.ok []) ∧ StrokeEntered s t st ph pending stop := by
  have quiet := (operates (takeRequest p n k.code s)).quiet
  rw [decides] at quiet
  obtain ⟨Q, run, answered, latched⟩ := exec_taken accepts serves decides quiet
  exact ⟨_, run, answered, StrokeEntered.around (P := (takeRequest p n k.code s).ports) entered (latched _)⟩

/-! ### A grant released -/

theorem releaseGrant_granted (granted : isGranted (s.flow.records.get x) = true) :
    releaseGrant x s = giveBackFlow x s := by
  have some : s.flow.records.get x ≠ .none := by
    intro none
    rw [none] at granted
    cases granted
  rw [giveBackFlow_some some, releaseGrant, if_pos granted]

/-! ### Cycles (R69, R72) -/

theorem mayStart_iff : mayStart st s = true ↔ (s.packer st).state = .idle ∧ (s.packer st).mode ≠ .step
    ∧ 0 < (s.packer st).pending ∧ s.body.state = .running ∧ s.body.tailgate.reading = true := by
  simp only [mayStart, Bool.and_eq_true, decide_eq_true_eq, and_assoc]

theorem tryStart_starts (h : mayStart st s = true) : tryStart st s = startCycle st s := by
  rw [tryStart, if_pos h]

theorem tryStart_stays (h : ¬ mayStart st s = true) : tryStart st s = s := by
  rw [tryStart, if_neg h]

theorem startCycle_entered (none : s.flow.records.get (.packer st) = .none) :
    StrokeEntered s (startCycle st s) st .extending ((s.packer st).pending - 1) (s.packer st).stopRequested := by
  have entered := enterStroke_entered (s := s.withPacker st { s.packer st with pending := (s.packer st).pending - 1 })
    (st := st) none .extending
  simp only [packer_withPacker_self] at entered
  exact entered.after (withPacker_others _) (withPacker_books _) (by rw [packer_withPacker_self]; rfl)

/-- A packer back in IDLE (R72, R76, R80). -/
def idled (k : Packer) : Packer := { stopPacker k with state := .idle, stopRequested := false }

theorem packerToIdle_eq (st : Stream) (s : State) :
    packerToIdle st s = tryStart st (s.withPacker st (idled (s.packer st))) := rfl

/-- A packer back in IDLE that starts no cycle. -/
theorem packerToIdle_stays (h : (s.packer st).pending = 0 ∨ (s.packer st).mode = .step ∨ s.body.state ≠ .running
    ∨ s.body.tailgate.reading = false) : packerToIdle st s = s.withPacker st (idled (s.packer st)) := by
  rw [packerToIdle_eq, tryStart_stays]
  rw [mayStart_iff, packer_withPacker_self]
  rintro ⟨-, mode, pending, running, closed⟩
  rcases h with empty | step | other | opened
  · exact absurd (empty : (idled (s.packer st)).pending = 0) (Nat.ne_of_gt pending)
  · exact mode step
  · exact other running
  · exact absurd (opened.symm.trans closed) Bool.false_ne_true

/-- A packer back in IDLE that starts a cycle at once. -/
theorem packerToIdle_starts (pending : 0 < (s.packer st).pending) (mode : (s.packer st).mode ≠ .step)
    (running : s.body.state = .running) (closed : s.body.tailgate.reading = true) :
    packerToIdle st s = startCycle st (s.withPacker st (idled (s.packer st))) := by
  rw [packerToIdle_eq, tryStart_starts]
  rw [mayStart_iff, packer_withPacker_self]
  exact ⟨rfl, mode, pending, running, closed⟩

end Sys2Proof.Safety
end

section
/-! PROOFS. The pack requests and the timers of a packer (O21, O22, O23, O25). -/

namespace Sys2Proof.Safety

open Sys2Proof.Machine

variable {s t u : State} {st : Stream} {p : Port} {n : Byte} {d : List Byte}

/-! ### Cycles asked for (R74) -/

/-- A packer with one pending cycle more. -/
def oneMore (k : Packer) : Packer := { k with pending := k.pending + 1 }

theorem addCycle_full (full : 3 ≤ (s.packer st).pending) : addCycle st s =
    s.withPacker st { s.packer st with dropped := saturatingSucc top16 (s.packer st).dropped } :=
  if_neg (Nat.not_lt.mpr full)

theorem addCycle_room (room : (s.packer st).pending < 3) :
    addCycle st s = tryStart st (s.withPacker st (oneMore (s.packer st))) := if_pos room

theorem mayStart_oneMore : mayStart st (s.withPacker st (oneMore (s.packer st))) = true ↔ CycleStarts s st := by
  rw [mayStart_iff, packer_withPacker_self]
  exact ⟨fun ⟨idle, mode, _, running, closed⟩ => ⟨idle, mode, running, closed⟩,
    fun ⟨idle, mode, running, closed⟩ => ⟨idle, mode, Nat.succ_pos _, running, closed⟩⟩

theorem addCycle_stays (room : (s.packer st).pending < 3) (stays : ¬ CycleStarts s st) :
    addCycle st s = s.withPacker st (oneMore (s.packer st)) := by
  rw [addCycle_room room, tryStart_stays (mayStart_oneMore.not.mpr stays)]

theorem addCycle_starts (room : (s.packer st).pending < 3) (starts : CycleStarts s st) :
    addCycle st s = startCycle st (s.withPacker st (oneMore (s.packer st))) := by
  rw [addCycle_room room, tryStart_starts (mayStart_oneMore.mpr starts)]

/-- One cycle asked for, started at once (R69, R74). -/
theorem addCycle_entered (room : (s.packer st).pending < 3) (starts : CycleStarts s st)
    (none : s.flow.records.get (.packer st) = .none) :
    StrokeEntered s (addCycle st s) st .extending (s.packer st).pending (s.packer st).stopRequested := by
  rw [addCycle_starts room starts]
  have entered := startCycle_entered (s := s.withPacker st (oneMore (s.packer st))) (st := st) none
  rw [packer_withPacker_self] at entered
  exact entered.after (withPacker_others _) (withPacker_books _) (by rw [packer_withPacker_self]; rfl)

theorem decidePackCycle_none (arg : streamArg (byteAt d 0) = none) :
    decidePackCycle d s = declined .badArgument s := by simp [decidePackCycle, arg]

theorem decidePackCycle_room (arg : streamArg (byteAt d 0) = some st) (room : (s.packer st).pending < 3) :
    decidePackCycle d s = taken (addCycle st s) := by simp [decidePackCycle, arg, room]

theorem decidePackCycle_full (arg : streamArg (byteAt d 0) = some st) (full : 3 ≤ (s.packer st).pending) :
    decidePackCycle d s = (addCycle st s, some (.full [])) := by
  simp [decidePackCycle, arg, Nat.not_lt.mpr full]

/-- Settles O21: below three a cycle is added, and an IDLE packer starts it (`addCycle_entered`); at three it is
dropped. -/
theorem packCycleCounts : Obligations.PackCycleCounts := by
  intro p n d st s h
  refine ⟨fun bad => ?_, fun arg full => ?_, fun arg room stays => ?_, fun arg room starts none => ?_⟩
  · exact exec_decided h rfl (decidePackCycle_none bad)
  · refine exec_decided h rfl ((decidePackCycle_full arg (by exact full)).trans ?_)
    rw [addCycle_full (by exact full)]
    rfl
  · refine exec_decided h rfl ((decidePackCycle_room arg (by exact room)).trans ?_)
    rw [addCycle_stays (by exact room) (by exact stays)]
    rfl
  · exact exec_stroke h rfl (decidePackCycle_operates d) (decidePackCycle_room arg (by exact room))
      (addCycle_entered (s := takeRequest p n Kind.packCycle.code s) room starts none)

/-! ### Pack Stop (R76) -/

/-- A packer without pending cycles. -/
def emptied (k : Packer) : Packer := { k with pending := 0 }

theorem decidePackStop_none (arg : streamArg (byteAt d 0) = none) :
    decidePackStop d s = declined .badArgument s := by simp [decidePackStop, arg]

theorem decidePackStop_some (arg : streamArg (byteAt d 0) = some st) :
    decidePackStop d s = taken (stopByState st (s.withPacker st (emptied (s.packer st)))) := by
  simp [decidePackStop, arg, emptied]

theorem withPacker_withPacker (st : Stream) (j k : Packer) (s : State) :
    (s.withPacker st j).withPacker st k = s.withPacker st k := by cases st <;> rfl

/-- RETRACTING entered with a stop requested, from a packer that differs from its own only in what an entry sets. -/
theorem retractForStop_entered (none : u.flow.records.get (.packer st) = .none) (others : PackOthersKept s u st)
    (books : SameBooks s u) (own : plainPacker (u.packer st) = plainPacker (s.packer st)) :
    StrokeEntered s (retractForStop st u) st .retracting (u.packer st).pending true := by
  have entered := enterStroke_entered (s := u.withPacker st { u.packer st with stopRequested := true }) (st := st) none
    .retracting
  simp only [packer_withPacker_self] at entered
  exact entered.after (others.trans (withPacker_others _)) (books.trans (withPacker_books _))
    (by rw [packer_withPacker_self]; exact own)

/-- An extend cut short gives its flow back first, whatever its record was. -/
theorem cutExtend_entered : StrokeEntered s (cutExtend st (s.withPacker st (emptied (s.packer st)))) st .retracting 0
    true := by
  have own : (giveBackFlow (.packer st) ((s.withPacker st (emptied (s.packer st))).withPacker st
      (stopPacker ((s.withPacker st (emptied (s.packer st))).packer st)))).packer st =
      stopPacker (emptied (s.packer st)) := by
    rw [giveBackFlow_packer_self, packer_withPacker_self, packer_withPacker_self]
  have entered := retractForStop_entered (giveBackFlow_record (.packer st) _)
    ((withPacker_others (s := s) (emptied (s.packer st))).trans
      ((withPacker_others (stopPacker ((s.withPacker st (emptied (s.packer st))).packer st))).trans
        (giveBackFlow_packOthers (.packer st) _ st)))
    ((withPacker_books (emptied (s.packer st))).trans ((withPacker_books _).trans (giveBackFlow_books (.packer st) _)))
    (by rw [own]; rfl)
  rw [own] at entered
  exact entered

/-- A stop that enters RETRACTING from a packer without a record. -/
theorem stopped_entered (none : s.flow.records.get (.packer st) = .none) :
    StrokeEntered s (retractForStop st (s.withPacker st (emptied (s.packer st)))) st .retracting 0 true := by
  have entered := retractForStop_entered (s := s) (u := s.withPacker st (emptied (s.packer st))) (st := st) none
    (withPacker_others _) (withPacker_books _) (by rw [packer_withPacker_self]; rfl)
  rw [packer_withPacker_self] at entered
  exact entered

theorem packerToIdle_emptied : packerToIdle st (s.withPacker st (emptied (s.packer st))) =
    s.withPacker st (idled (emptied (s.packer st))) := by
  rw [packerToIdle_stays (.inl (by rw [packer_withPacker_self]; rfl)), packer_withPacker_self, withPacker_withPacker]

/-- What a Pack Stop does once the pending count is 0, by the state the packer was in. -/
theorem stopByState_eq (st : Stream) (s : State) : stopByState st (s.withPacker st (emptied (s.packer st))) =
    match (s.packer st).state with
    | .idle | .halted => s.withPacker st (emptied (s.packer st))
    | .stroke .extending => cutExtend st (s.withPacker st (emptied (s.packer st)))
    | .stroke .dwell | .stroke .retracting =>
      s.withPacker st { emptied (s.packer st) with stopRequested := true }
    | .paused .extended => retractForStop st (s.withPacker st (emptied (s.packer st)))
    | .paused .retracted => s.withPacker st (idled (emptied (s.packer st)))
    | .held _ r => stopHeld st r (s.withPacker st (emptied (s.packer st)))
    | .fault => if s.body.state = .halted then s.withPacker st { emptied (s.packer st) with state := .halted }
        else s.withPacker st (idled (emptied (s.packer st))) := by
  have same : ((s.withPacker st (emptied (s.packer st))).packer st).state = (s.packer st).state := by
    rw [packer_withPacker_self]
    rfl
  unfold stopByState
  rw [same]
  cases (s.packer st).state with
  | idle => rfl
  | halted => rfl
  | held ph r => rfl
  | fault => simp only [stopFaulted, packerToIdle_emptied, packer_withPacker_self, withPacker_withPacker]; rfl
  | stroke ph => cases ph <;> simp only [packer_withPacker_self, withPacker_withPacker]
  | paused at_ => cases at_ <;> simp only [packerToIdle_emptied]

theorem stopHeld_entered {r : PackHoldReasons} (closed : s.body.tailgate.reading = true)
    (none : s.flow.records.get (.packer st) = .none) :
    StrokeEntered s (stopHeld st r (s.withPacker st (emptied (s.packer st)))) st .retracting 0 true := by
  rw [stopHeld, if_pos (by exact closed)]
  exact stopped_entered none

theorem stopHeld_open {r : PackHoldReasons} (opened : s.body.tailgate.reading = false) :
    stopHeld st r (s.withPacker st (emptied (s.packer st))) =
      s.withPacker st { emptied (s.packer st) with stopRequested := true, state := .held .retracting r } := by
  rw [stopHeld, if_neg (by rw [withPacker_body, opened]; exact Bool.false_ne_true), packer_withPacker_self,
    withPacker_withPacker]

/-- Settles O22: by the packer's state (`stopByState_eq`). -/
theorem packStopByState : Obligations.PackStopByState := by
  intro p n d st ph r s h
  refine ⟨fun bad => ?_, fun arg state => ?_, fun arg state => ?_, fun arg state => ?_, fun arg state none => ?_,
    fun arg state => ?_, fun arg state closed none => ?_, fun arg state opened => ?_, fun arg state running => ?_,
    fun arg state halted => ?_⟩
  · exact exec_decided h rfl (decidePackStop_none bad)
  all_goals
    have decides := decidePackStop_some (s := takeRequest p n Kind.packStop.code s) arg
    have eq := stopByState_eq st (takeRequest p n Kind.packStop.code s)
    have same : ((takeRequest p n Kind.packStop.code s).packer st).state = (s.packer st).state := rfl
    rw [same] at eq
  · refine exec_decided h rfl (decides.trans ?_)
    rcases state with state | state <;> rw [eq, state] <;> rfl
  · rw [state] at eq
    exact exec_stroke h rfl (decidePackStop_operates d) decides (by rw [eq]; exact cutExtend_entered)
  · refine exec_decided h rfl (decides.trans ?_)
    rcases state with state | state <;> rw [eq, state] <;> rfl
  · rw [state] at eq
    exact exec_stroke h rfl (decidePackStop_operates d) decides (by rw [eq]; exact stopped_entered none)
  · rw [state] at eq
    exact exec_decided h rfl (decides.trans (by rw [eq]; rfl))
  · rw [state] at eq
    exact exec_stroke h rfl (decidePackStop_operates d) decides (by rw [eq]; exact stopHeld_entered closed none)
  · rw [state] at eq
    exact exec_decided h rfl (decides.trans (by
      rw [eq]; exact (congrArg _ (stopHeld_open (s := takeRequest p n Kind.packStop.code s) opened)).trans rfl))
  · rw [state] at eq
    have other : ¬ (takeRequest p n Kind.packStop.code s).body.state = .halted := fun halted => by
      have := running.symm.trans halted
      cases this
    exact exec_decided h rfl (decides.trans (by rw [eq]; exact (congrArg taken (if_neg other)).trans rfl))
  · rw [state] at eq
    exact exec_decided h rfl (decides.trans (by rw [eq]; exact (congrArg taken (if_pos (by exact halted))).trans rfl))

/-! ### Pack Step and Pack Resume (R77, R79) -/

theorem decidePackStep_none (arg : streamArg (byteAt d 0) = none) :
    decidePackStep d s = declined .badArgument s := by simp [decidePackStep, arg]

theorem decidePackStep_mode (arg : streamArg (byteAt d 0) = some st) (mode : (s.packer st).mode ≠ .step) :
    decidePackStep d s = declined (.refused .notStepMode) s := by simp [decidePackStep, arg, mode]

theorem decidePackStep_step (arg : streamArg (byteAt d 0) = some st) (mode : (s.packer st).mode = .step) :
    decidePackStep d s = stepByState st s := by simp [decidePackStep, arg, mode]

/-- Whether a packer waits between strokes, where a Pack Step goes on (R77). -/
def stepsOn (st : Stream) (s : State) : Prop := (s.packer st).state = .idle ∨ (s.packer st).state = .paused .extended
  ∨ (s.packer st).state = .paused .retracted

theorem stepByState_open (steps : stepsOn st s) (opened : s.body.tailgate.reading = false) :
    stepByState st s = declined (.refused .tailgateOpen) s := by
  unfold stepByState
  rcases steps with state | state | state <;> rw [state] <;> exact if_neg (ne_true_of_eq_false opened)

theorem stepByState_starts (state : (s.packer st).state = .idle ∨ (s.packer st).state = .paused .retracted)
    (closed : s.body.tailgate.reading = true) : stepByState st s = taken (startCycle st s) := by
  unfold stepByState
  rcases state with state | state <;> rw [state] <;> exact if_pos closed

theorem stepByState_retracts (state : (s.packer st).state = .paused .extended)
    (closed : s.body.tailgate.reading = true) : stepByState st s = taken (enterStroke st .retracting s) := by
  unfold stepByState
  rw [state]
  exact if_pos closed

theorem stepByState_busy {ph : StrokePhase} {r : PackHoldReasons}
    (state : (s.packer st).state = .stroke ph ∨ (s.packer st).state = .held ph r ∨ (s.packer st).state = .fault) :
    stepByState st s = declined .busy s := by
  rcases state with state | state | state <;> simp [stepByState, state]

theorem stepByState_halted (state : (s.packer st).state = .halted) :
    stepByState st s = declined (.refused .bodyNotRunning) s := by simp [stepByState, state]

theorem decidePackResume_none (arg : streamArg (byteAt d 0) = none) :
    decidePackResume d s = declined .badArgument s := by simp [decidePackResume, arg]

theorem decidePackResume_busy (arg : streamArg (byteAt d 0) = some st)
    (other : ∀ ph r, (s.packer st).state ≠ .held ph r) : decidePackResume d s = declined .busy s := by
  simp only [decidePackResume, arg]

theorem decidePackResume_held {ph : StrokePhase} {r : PackHoldReasons} (arg : streamArg (byteAt d 0) = some st)
    (held : (s.packer st).state = .held ph r) : decidePackResume d s =
      if s.body.tailgate.reading then taken (enterStroke st ph s) else declined (.refused .tailgateOpen) s := by
  simp only [decidePackResume, arg, held]

/-- Settles O23: by the mode, the packer's state and the tailgate. -/
theorem packStepAndResume : Obligations.PackStepAndResume := by
  intro p n d st ph r s
  refine ⟨fun h bad => ?_, fun h arg mode => ?_, fun h arg mode state => ?_, fun h arg mode state => ?_,
    fun h arg mode state opened => ?_, fun h arg mode state closed none => ?_,
    fun h arg mode state closed none => ?_, fun h bad => ?_, fun h arg other => ?_, fun h arg held opened => ?_,
    fun h arg held closed none => ?_⟩
  · exact exec_decided h rfl (decidePackStep_none bad)
  · exact exec_decided h rfl (decidePackStep_mode arg (by exact mode))
  · exact exec_decided h rfl ((decidePackStep_step arg (by exact mode)).trans (stepByState_busy state))
  · exact exec_decided h rfl ((decidePackStep_step arg (by exact mode)).trans (stepByState_halted state))
  · exact exec_decided h rfl ((decidePackStep_step arg (by exact mode)).trans (stepByState_open state opened))
  · exact exec_stroke h rfl (decidePackStep_operates d)
      ((decidePackStep_step arg (by exact mode)).trans (stepByState_starts state closed)) (startCycle_entered none)
  · exact exec_stroke h rfl (decidePackStep_operates d)
      ((decidePackStep_step arg (by exact mode)).trans (stepByState_retracts state closed))
      (enterStroke_entered (s := takeRequest p n Kind.packStep.code s) none _)
  · exact exec_decided h rfl (decidePackResume_none bad)
  · exact exec_decided h rfl (decidePackResume_busy arg (by exact other))
  · exact exec_decided h rfl ((decidePackResume_held arg (by exact held)).trans
      (if_neg (ne_true_of_eq_false (by exact opened))))
  · exact exec_stroke h rfl (decidePackResume_operates d)
      ((decidePackResume_held arg (by exact held)).trans (if_pos (by exact closed)))
      (enterStroke_entered (s := takeRequest p n Kind.packResume.code s) none _)

/-! ### The timers (R70 to R73) -/

theorem strokeTimerOut_iff {ph : StrokePhase} : strokeTimerOut st ph s = true ↔
    (s.packer st).state = .stroke ph ∧ due s (s.packer st).timer (strokeLimit ph) = true := by
  rw [strokeTimerOut, Bool.and_eq_true, decide_eq_true_eq, expired_eq_due]

theorem strokeTimerOut_not {ph : StrokePhase}
    (h : (s.packer st).state ≠ .stroke ph ∨ due s (s.packer st).timer (strokeLimit ph) = false) :
    ¬ strokeTimerOut st ph s = true := by
  rw [strokeTimerOut_iff]
  rintro ⟨state, out⟩
  rcases h with other | early
  · exact other state
  · exact absurd (early.symm.trans out) Bool.false_ne_true

theorem extendTimer_out (state : (s.packer st).state = .stroke .extending)
    (out : due s (s.packer st).timer 8000 = true) :
    exec (.extendTimerExpiry st) s = .next (faultPacker st .extendTimeout .extending s) :=
  congrArg Host.Outcome.next (if_pos (strokeTimerOut_iff.mpr ⟨state, out⟩))

theorem retractTimer_out (state : (s.packer st).state = .stroke .retracting)
    (out : due s (s.packer st).timer 6000 = true) :
    exec (.retractTimerExpiry st) s = .next (faultPacker st .retractTimeout .retracting s) :=
  congrArg Host.Outcome.next (if_pos (strokeTimerOut_iff.mpr ⟨state, out⟩))

theorem packDwell_out (state : (s.packer st).state = .stroke .dwell) (out : due s (s.packer st).timer 500 = true) :
    exec (.packDwellExpiry st) s =
      .next (afterDwell st (releaseGrant (.packer st) (s.withPacker st (stopPacker (s.packer st))))) :=
  congrArg Host.Outcome.next (if_pos (strokeTimerOut_iff.mpr ⟨state, out⟩))

/-- The packer at the end of its dwell: its valve off, its timer stopped and its units given back (R71). -/
theorem dwellReleased_packer : (giveBackFlow (.packer st) (s.withPacker st (stopPacker (s.packer st)))).packer st =
    stopPacker (s.packer st) := by rw [giveBackFlow_packer_self, packer_withPacker_self]

theorem afterDwell_pauses (mode : (s.packer st).mode = .step) (goes : (s.packer st).stopRequested = false) :
    afterDwell st s = s.withPacker st { s.packer st with state := .paused .extended } :=
  if_pos ⟨mode, ne_true_of_eq_false goes⟩

theorem afterDwell_retracts (h : (s.packer st).mode ≠ .step ∨ (s.packer st).stopRequested = true) :
    afterDwell st s = enterStroke st .retracting s :=
  if_neg fun ⟨mode, goes⟩ => h.elim (fun other => other mode) goes

/-- Settles O25: each expiry by its packer's state and timer; what follows the dwell by the mode. -/
theorem packerTimersExpire : Obligations.PackerTimersExpire := by
  intro st s
  have released := (withPacker_others (s := s) (st := st) (stopPacker (s.packer st))).trans
    (giveBackFlow_packOthers (.packer st) _ st)
  have books := (withPacker_books (s := s) (st := st) (stopPacker (s.packer st))).trans
    (giveBackFlow_books (.packer st) _)
  have quiet (x : PackFaultCause) (ph : StrokePhase) : PortsQuiet s (faultPacker st x ph s) :=
    (Operates.refl.faultPacker st x ph).quiet
  refine ⟨fun state out => ⟨_, extendTimer_out state out, quiet _ _,
      faultPacker_own _ _, faultPacker_others _ _, faultPacker_books _ _⟩,
    fun state out => ⟨_, retractTimer_out state out, quiet _ _,
      faultPacker_own _ _, faultPacker_others _ _, faultPacker_books _ _⟩, fun state out granted mode goes => ?_,
    fun state out granted goes => ?_, fun h => congrArg Host.Outcome.next (if_neg (strokeTimerOut_not h)),
    fun h => congrArg Host.Outcome.next (if_neg (strokeTimerOut_not h)), fun h => congrArg Host.Outcome.next (if_neg (strokeTimerOut_not h))⟩
  all_goals
    refine ⟨_, packDwell_out state out,
      ((Operates.refl.packer st (stopPacker (s.packer st)) (by exact id)).releaseGrant (.packer st)).afterDwell st |>.quiet, ?_⟩
    rw [releaseGrant_granted (by exact granted)]
  · rw [afterDwell_pauses (by rw [dwellReleased_packer]; exact mode) (by rw [dwellReleased_packer]; exact goes),
      dwellReleased_packer]
    exact ⟨packer_withPacker_self _ _ _, giveBackFlow_record (.packer st) _, released.trans (withPacker_others _),
      books.trans (withPacker_books _)⟩
  · rw [afterDwell_retracts (by rw [dwellReleased_packer]; exact goes)]
    have entered := enterStroke_entered (st := st) (giveBackFlow_record (.packer st)
      (s.withPacker st (stopPacker (s.packer st)))) .retracting
    rw [dwellReleased_packer] at entered
    exact entered.after released books (by rw [dwellReleased_packer]; rfl)

end Sys2Proof.Safety
end

section
/-! PROOFS. The requests that set settings (O16). -/

namespace Sys2Proof.Safety

open Sys2Proof.Machine

variable {s t u : State} {l : Lifter} {st : Stream} {p : Port} {n : Byte} {d : List Byte}

/-- A request that is answered BUSY or replaces a setting: both answers of one test. -/
theorem exec_busy_or {k : Kind} {i : Instr} {owner : State → Decision} {busy : Prop} [Decidable busy]
    (accepts : Accepts k p d s) (serves : exec i s = .next (serve k p n d owner s))
    (decides : owner (takeRequest p n k.code s) = if busy then declined .busy (takeRequest p n k.code s)
      else taken (takeRequest p n k.code t)) :
    exec i s = .next (if busy then replied p n k .busy s else replied p n k (.ok []) t) := by
  split
  · next yes => exact exec_decided accepts serves (decides.trans (if_pos yes))
  · next no => exact exec_decided accepts serves (decides.trans (if_neg no))

/-! ### The lifters' settings -/

theorem decideSelectProfile_some {x : Selection} (first : lifterArg (byteAt d 0) = some l)
    (second : selectionArg (byteAt d 1) = some x) :
    decideSelectProfile d s = taken (s.withLifter l { s.lifter l with selection := x }) := by
  simp only [decideSelectProfile, first, second]

theorem decideSelectProfile_none (bad : lifterArg (byteAt d 0) = none ∨ selectionArg (byteAt d 1) = none) :
    decideSelectProfile d s = declined .badArgument s := by
  unfold decideSelectProfile
  rcases bad with bad | bad <;> rw [bad]
  split
  · next none => cases none
  · rfl

theorem usesBank_iff {b : Profile} : usesBank s b l = true ↔ (s.context l).map LiftContext.bank = some b := beq_iff_eq

theorem decideSetBank_some {b : Profile} {x : Bank} (first : profileArg (byteAt d 0) = some b)
    (second : bankArg d = some x) : decideSetBank d s =
      if (s.context .left).map LiftContext.bank = some b ∨ (s.context .right).map LiftContext.bank = some b
        ∨ s.loader.writes.any isSettingsJob = true then declined .busy s
      else taken (s.withBanks (s.banks.set b x)) := by
  simp only [decideSetBank, first, second, savingSettings, Bool.or_eq_true, usesBank_iff, or_assoc]

theorem decideSetBank_none (bad : profileArg (byteAt d 0) = none ∨ bankArg d = none) :
    decideSetBank d s = declined .badArgument s := by
  unfold decideSetBank
  rcases bad with bad | bad <;> rw [bad]
  split
  · next none => cases none
  · rfl

theorem decideSetLifterDefaults_some {x : LifterSettings} (first : lifterArg (byteAt d 0) = some l)
    (second : lifterSettingsArg d = some x) : decideSetLifterDefaults d s =
      if s.context l ≠ none ∨ s.loader.writes.any isSettingsJob = true then declined .busy s
      else taken (s.withLifter l { s.lifter l with settings := x }) := by
  simp only [decideSetLifterDefaults, first, second, savingSettings, Bool.or_eq_true, Bool.not_eq_true',
    lifterIdle_eq_false]

theorem decideSetLifterDefaults_none (bad : lifterArg (byteAt d 0) = none ∨ lifterSettingsArg d = none) :
    decideSetLifterDefaults d s = declined .badArgument s := by
  unfold decideSetLifterDefaults
  rcases bad with bad | bad <;> rw [bad]
  split
  · next none => cases none
  · rfl

theorem decideSetTagThreshold_high (h : 15 < byteAt d 0) : decideSetTagThreshold d s = declined .badArgument s := by
  simp [decideSetTagThreshold, within, Nat.not_le.mpr h]

theorem decideSetTagThreshold_fits (h : ¬ 15 < byteAt d 0) : decideSetTagThreshold d s =
    if s.loader.writes.any isSettingsJob = true then declined .busy s
    else taken (s.withTags { s.tags with threshold := byteAt d 0 }) := by
  simp [decideSetTagThreshold, within, Nat.not_lt.mp h, savingSettings]

/-! ### The packers' and the compartments' settings -/

theorem decideSetPackMode_some {m : PackMode} (first : streamArg (byteAt d 0) = some st)
    (second : modeArg (byteAt d 1) = some m) : decideSetPackMode d s =
      if (s.packer st).state ≠ .idle ∨ s.loader.writes.any isSettingsJob = true then declined .busy s
      else taken (changeMode st m s) := by
  simp only [decideSetPackMode, first, second]
  rfl

theorem decideSetPackMode_none (bad : streamArg (byteAt d 0) = none ∨ modeArg (byteAt d 1) = none) :
    decideSetPackMode d s = declined .badArgument s := by
  unfold decideSetPackMode
  rcases bad with bad | bad <;> rw [bad]
  split
  · next none => cases none
  · rfl

theorem changeMode_stays {m : PackMode} (h : (s.packer st).mode ≠ .step ∨ m = .step ∨ (s.packer st).pending = 0
    ∨ s.body.state ≠ .running ∨ s.body.tailgate.reading = false) :
    changeMode st m s = s.withPacker st { s.packer st with mode := m } := by
  unfold changeMode
  dsimp only
  split
  · next old =>
    refine tryStart_stays ?_
    rw [mayStart_iff, packer_withPacker_self]
    rintro ⟨-, mode, pending, running, closed⟩
    rcases h with other | step | empty | halted | opened
    · exact other old
    · exact mode step
    · exact absurd empty (Nat.ne_of_gt pending)
    · exact halted running
    · exact absurd (opened.symm.trans closed) Bool.false_ne_true
  · rfl

theorem changeMode_starts {m : PackMode} (idle : (s.packer st).state = .idle) (old : (s.packer st).mode = .step)
    (new : m ≠ .step) (pending : 0 < (s.packer st).pending) (running : s.body.state = .running)
    (closed : s.body.tailgate.reading = true) :
    changeMode st m s = startCycle st (s.withPacker st { s.packer st with mode := m }) := by
  unfold changeMode
  dsimp only
  rw [if_pos old]
  refine tryStart_starts ?_
  rw [mayStart_iff, packer_withPacker_self]
  exact ⟨idle, new, pending, running, closed⟩

theorem decideSetPackerSettings_some {x : PackerSettings} (first : streamArg (byteAt d 0) = some st)
    (second : packerSettingsArg d = some x) : decideSetPackerSettings d s =
      if (s.packer st).state ≠ .idle ∨ s.loader.writes.any isSettingsJob = true then declined .busy s
      else taken (s.withPacker st { s.packer st with settings := x }) := by
  simp only [decideSetPackerSettings, first, second]
  rfl

theorem decideSetPackerSettings_none (bad : streamArg (byteAt d 0) = none ∨ packerSettingsArg d = none) :
    decideSetPackerSettings d s = declined .badArgument s := by
  unfold decideSetPackerSettings
  rcases bad with bad | bad <;> rw [bad]
  split
  · next none => cases none
  · rfl

theorem decideSetPayloadLimits_some {a b c : Nat} (arg : limitsArg d = some (a, b, c)) :
    decideSetPayloadLimits d s =
      if s.loader.writes.any isSettingsJob = true then declined .busy s else taken (changeLimits a b c s) := by
  simp only [decideSetPayloadLimits, arg]
  rfl

theorem decideSetPayloadLimits_none (bad : limitsArg d = none) :
    decideSetPayloadLimits d s = declined .badArgument s := by simp only [decideSetPayloadLimits, bad]

/-- Settles O16: each request is decided by its arguments, the state its rule looks at and the write in flight. -/
theorem settingsRequests : Obligations.SettingsRequests := by
  intro p n d l sel b bank ls st m ps x y z s
  refine ⟨fun h first second => ?_, fun h bad => ?_, fun h first second => ?_, fun h bad => ?_,
    fun h first second => ?_, fun h bad => ?_, fun h => ?_, fun h first second busy => ?_,
    fun h first second idle free stays => ?_, fun h first second idle free old new pending running closed none => ?_,
    fun h bad => ?_, fun h first second => ?_, fun h bad => ?_, fun h bad => ?_, fun h arg busy => ?_,
    fun h arg free => ?_⟩
  · exact exec_decided h rfl (decideSelectProfile_some first second)
  · exact exec_decided h rfl (decideSelectProfile_none bad)
  · exact exec_busy_or h rfl (decideSetBank_some first second)
  · exact exec_decided h rfl (decideSetBank_none bad)
  · exact exec_busy_or h rfl (decideSetLifterDefaults_some first second)
  · exact exec_decided h rfl (decideSetLifterDefaults_none bad)
  · split
    · next high => exact exec_decided h rfl (decideSetTagThreshold_high high)
    · next fits => exact exec_busy_or h rfl (decideSetTagThreshold_fits fits)
  · exact exec_decided h rfl ((decideSetPackMode_some first second).trans (if_pos (by exact busy)))
  all_goals
    have notBusy {ps : Prop} (idle : ps) (free : s.loader.writes.any isSettingsJob = false) :
        ¬ (¬ ps ∨ s.loader.writes.any isSettingsJob = true) := fun busy =>
      busy.elim (fun other => other idle) (ne_true_of_eq_false free)
  · refine exec_decided h rfl ((decideSetPackMode_some first second).trans
      ((if_neg (notBusy (by exact idle) (by exact free))).trans ?_))
    rw [changeMode_stays (by exact stays)]
    rfl
  · have decides := (decideSetPackMode_some (s := takeRequest p n Kind.setPackMode.code s) first second).trans
      (if_neg (notBusy (by exact idle) (by exact free)))
    have quiet := (decideSetPackMode_operates d (takeRequest p n Kind.setPackMode.code s)).quiet
    rw [decides] at quiet
    obtain ⟨Q, run, answered, latched⟩ := exec_taken (i := .setPackMode p n d) h rfl decides quiet
    refine ⟨_, run, answered, ?_⟩
    rw [changeMode_starts (by exact idle) (by exact old) new (by exact pending) (by exact running)
      (by exact closed)] at latched ⊢
    have entered := startCycle_entered (st := st)
      (s := (takeRequest p n Kind.setPackMode.code s).withPacker st
        { (takeRequest p n Kind.setPackMode.code s).packer st with mode := m }) none
    rw [packer_withPacker_self] at entered
    exact StrokeEntered.around (P := (takeRequest p n Kind.setPackMode.code s).ports)
      (s := s.withPacker st { s.packer st with mode := m }) entered (latched _)
  · exact exec_decided h rfl (decideSetPackMode_none bad)
  · exact exec_busy_or h rfl (decideSetPackerSettings_some first second)
  · exact exec_decided h rfl (decideSetPackerSettings_none bad)
  · exact exec_decided h rfl (decideSetPayloadLimits_none bad)
  · exact exec_decided h rfl ((decideSetPayloadLimits_some arg).trans (if_pos (by exact busy)))
  · refine exec_decided h rfl ((decideSetPayloadLimits_some arg).trans
      ((if_neg (ne_true_of_eq_false (by exact free))).trans ?_))
    exact congrArg (fun x => (x, some (Reply.ok []))) (evaluateLimits_takeRequest p n Kind.setPayloadLimits.code
      ((s.withCompartments { residual := { s.compartments.residual with limit := x }
                             recycle := { s.compartments.recycle with limit := y } }).withBodyLimit z))

end Sys2Proof.Safety
end

section
/-! PROOFS. Both packers in turn, and Resume Body (O27). -/

namespace Sys2Proof.Safety

open Sys2Proof.Machine

variable {s t u : State} {l : Lifter} {st su : Stream} {p : Port} {n : Byte} {d : List Byte} {k m : Packer}

/-! ### What the operations of one packer leave of the rest, whatever its record -/

theorem placeRequest_packOthers (x : Consumer) (d : Nat) (s : State) (st : Stream) :
    PackOthersKept s (placeRequest x d s) st := by
  by_cases none : s.flow.records.get x = .none
  · exact ⟨placeRequest_lifters none d, fun su _ => placeRequest_packers none d su,
      (placeRequest_only x d s).same .scan (by decide), (placeRequest_only x d s).same .weigh (by decide)⟩
  · have same : placeRequest x d s = s := by
      unfold placeRequest
      split
      · next h => exact absurd h none
      · rfl
    rw [same]
    exact ⟨fun _ => rfl, fun _ _ => rfl, rfl, rfl⟩

theorem enterStroke_packOthers (ph : StrokePhase) : PackOthersKept s (enterStroke st ph s) st := by
  unfold enterStroke
  split
  · exact faultPacker_others _ _
  · exact (withPacker_others _).trans (placeRequest_packOthers _ _ _ st)

theorem startCycle_packOthers : PackOthersKept s (startCycle st s) st :=
  (withPacker_others _).trans (enterStroke_packOthers _)

theorem PackOthersKept.refl : PackOthersKept s s st := ⟨fun _ => rfl, fun _ _ => rfl, rfl, rfl⟩

theorem tryStart_packOthers : PackOthersKept s (tryStart st s) st := by
  unfold tryStart
  split
  · exact startCycle_packOthers
  · exact .refl

theorem unhaltPacker_packOthers : PackOthersKept s (unhaltPacker st s) st := by
  unfold unhaltPacker
  split
  · exact (withPacker_others _).trans tryStart_packOthers
  · exact .refl

/-! ### A stroke entered, seen up to its grant -/

theorem PackerUpToGrant.state (h : PackerUpToGrant k m) : m.state = k.state :=
  (congrArg Packer.state h : (barePacker m).state = (barePacker k).state)
theorem PackerUpToGrant.pending (h : PackerUpToGrant k m) : m.pending = k.pending :=
  (congrArg Packer.pending h : (barePacker m).pending = (barePacker k).pending)
theorem PackerUpToGrant.mode (h : PackerUpToGrant k m) : m.mode = k.mode :=
  (congrArg Packer.mode h : (barePacker m).mode = (barePacker k).mode)

theorem placeRequest_unit (x : Consumer) (d : Nat) (s : State) (st : Stream) :
    PackerUpToGrant (s.packer st) ((placeRequest x d s).packer st) := by
  cases st with
  | residual => exact (placeRequest_packOthers x d s .recycle).packer _ (by decide)
  | recycle => exact (placeRequest_packOthers x d s .residual).packer _ (by decide)

theorem startCycle_unit (fresh : PackFresh s st) :
    ((startCycle st s).packer st).state = .stroke .extending
      ∧ ((startCycle st s).packer st).pending = (s.packer st).pending - 1 := by
  have live : staleCause st (s.withPacker st { s.packer st with pending := (s.packer st).pending - 1 }) = none :=
    Option.eq_none_iff_forall_ne_some.mpr fun a stale => staleCause_some_iff.mp ⟨a, stale⟩ (by exact fresh)
  have unit := placeRequest_unit (.packer st) 8
    ((s.withPacker st { s.packer st with pending := (s.packer st).pending - 1 }).withPacker st
      { stopPacker ((s.withPacker st { s.packer st with pending := (s.packer st).pending - 1 }).packer st) with
        state := .stroke .extending }) st
  rw [startCycle, enterStroke, live]
  refine ⟨unit.state.trans ?_, unit.pending.trans ?_⟩
  · rw [packer_withPacker_self]
  · rw [packer_withPacker_self, packer_withPacker_self]
    rfl

/-! ### Both packers in turn (log 34) -/

/-- Two packers' operations in turn: some order of the two, from a state that may have used one free value. -/
theorem packersInTurn_turns (b : Bool) (f : Stream → State → State) (s : State) :
    ∃ i a c, a ≠ c ∧ packersInTurn b f s = f c (f a (s.withFreeIndex i)) := by
  unfold packersInTurn
  split
  · split
    · exact ⟨_, .residual, .recycle, by decide, rfl⟩
    · exact ⟨_, .recycle, .residual, by decide, rfl⟩
  · exact ⟨s.freeIndex, .residual, .recycle, by decide, rfl⟩

/-- An operation of one packer that leaves the rest up to grants, and does R to its own packer from every state with
the body and the slots of s, where grants to that packer before and after do not matter. -/
structure InTurn (f : Stream → State → State) (s : State) (R : Stream → Packer → Packer → Prop) : Prop where
  only : ∀ st x, Only flowParts x (f st x)
  quiet : ∀ st x, PortsQuiet x (f st x)
  others : ∀ st x, PackOthersKept x (f st x) st
  own : ∀ st x, x.body = s.body → x.scan = s.scan → R st (x.packer st) ((f st x).packer st)
  before : ∀ st k k' m, PackerUpToGrant k k' → R st k' m → R st k m
  after : ∀ st k m m', R st k m → PackerUpToGrant m m' → R st k m'

theorem eq_or_eq_of_ne {a c : Stream} (ne : a ≠ c) (st : Stream) : st = a ∨ st = c := by
  cases a <;> cases c <;> cases st <;> simp_all

theorem InTurn.packer {f : Stream → State → State} {R : Stream → Packer → Packer → Prop} (h : InTurn f s R) (b : Bool)
    (st : Stream) : R st (s.packer st) ((packersInTurn b f s).packer st) := by
  obtain ⟨i, a, c, ne, turns⟩ := packersInTurn_turns b f s
  rw [turns]
  rcases eq_or_eq_of_ne ne st with rfl | rfl
  · exact h.after _ _ _ _ (h.own st (s.withFreeIndex i) rfl rfl) ((h.others c _).packer st ne)
  · have only := h.only a (s.withFreeIndex i)
    exact h.before _ _ _ _ ((h.others a (s.withFreeIndex i)).packer st (Ne.symm ne))
      (h.own st _ (only.same .body (by decide)) (only.same .scan (by decide)))

theorem InTurn.lifters {f : Stream → State → State} {R : Stream → Packer → Packer → Prop} (h : InTurn f s R) (b : Bool)
    (l : Lifter) : LifterUpToGrant (s.lifter l) ((packersInTurn b f s).lifter l) := by
  obtain ⟨i, a, c, -, turns⟩ := packersInTurn_turns b f s
  rw [turns]
  exact LifterUpToGrant.trans ((h.others a (s.withFreeIndex i)).lifters l) ((h.others c _).lifters l)

theorem InTurn.portsQuiet {f : Stream → State → State} {R : Stream → Packer → Packer → Prop} (h : InTurn f s R)
    (b : Bool) : PortsQuiet s (packersInTurn b f s) := by
  obtain ⟨i, a, c, -, turns⟩ := packersInTurn_turns b f s
  rw [turns]
  exact ((h.quiet a (s.withFreeIndex i)).trans (h.quiet c _)).after (s := s) rfl

/-! ### Resume Body (R36, R80) -/

/-- What a taken Resume Body does to the packer of a stream, up to grants (R80, R69). -/
structure Resumed (s : State) (st : Stream) (k m : Packer) : Prop where
  other : k.state ≠ .halted → PackerUpToGrant k m
  idles : k.state = .halted → k.pending = 0 ∨ k.mode = .step ∨ s.body.tailgate.reading = false →
    PackerUpToGrant { k with state := .idle, stopRequested := false } m
  starts : k.state = .halted → 0 < k.pending → k.mode ≠ .step → s.body.tailgate.reading = true → PackFresh s st →
    m.state = .stroke .extending ∧ m.pending = k.pending - 1

theorem bare_idled (h : PackerUpToGrant k m) : PackerUpToGrant { k with state := .idle, stopRequested := false }
    { m with state := .idle, stopRequested := false } :=
  (congrArg (fun x : Packer => { x with state := .idle, stopRequested := false }) (h : barePacker m = barePacker k) :)

theorem unhaltPacker_resumed (running : s.body.state = .running) : Resumed s st (s.packer st)
    ((unhaltPacker st s).packer st) where
  other active := by rw [unhaltPacker, if_neg active]; rfl
  idles halted stays := by
    rw [unhaltPacker, if_pos halted, packerToIdle_stays (stays.imp_right fun h => h.imp_right .inr),
      packer_withPacker_self]
    rfl
  starts halted pending mode closed fresh := by
    rw [unhaltPacker, if_pos halted, packerToIdle_starts pending mode running closed]
    have unit := startCycle_unit (s := s.withPacker st (idled (s.packer st))) (st := st) fresh
    rw [packer_withPacker_self] at unit
    exact unit

theorem Resumed.before {k' : Packer} (same : PackerUpToGrant k k') (h : Resumed s st k' m) : Resumed s st k m where
  other active := same.trans (h.other (by rw [same.state]; exact active))
  idles halted stays :=
    (bare_idled same).trans (h.idles (same.state.trans halted) (by rw [same.pending, same.mode]; exact stays))
  starts halted pending mode closed fresh := by
    rw [← same.pending]
    exact h.starts (same.state.trans halted) (by rw [same.pending]; exact pending) (by rw [same.mode]; exact mode)
      closed fresh

theorem Resumed.after {m' : Packer} (h : Resumed s st k m) (same : PackerUpToGrant m m') : Resumed s st k m' where
  other active := (h.other active).trans same
  idles halted stays := (h.idles halted stays).trans same
  starts halted pending mode closed fresh :=
    have own := h.starts halted pending mode closed fresh
    ⟨same.state.trans own.1, same.pending.trans own.2⟩

theorem Resumed.congr (body : t.body = s.body) (scan : t.scan = s.scan) (h : Resumed t st k m) : Resumed s st k m where
  other := h.other
  idles := by rw [← body]; exact h.idles
  starts halted pending mode closed fresh :=
    h.starts halted pending mode (by rw [body]; exact closed) ((PackFresh.congr scan).mpr fresh)

theorem unhaltPacker_inTurn (running : s.body.state = .running) : InTurn unhaltPacker s (Resumed s) where
  only := unhaltPacker_only
  quiet st x := (Operates.refl.unhaltPacker st).quiet
  others st x := unhaltPacker_packOthers
  own st x body scan := (unhaltPacker_resumed (by rw [body]; exact running)).congr body scan
  before _ _ _ _ := Resumed.before
  after _ _ _ _ := Resumed.after

/-- The state in which the packers leave HALTED: RUNNING, what waits granted (R36, R53). -/
def resuming (s : State) : State := evaluateGrants (s.withBody { s.body with state := .running })

theorem resuming_only (s : State) : Only (.body :: flowParts) s (resuming s) :=
  (withBody_only s _).both (evaluateGrants_only _) (by decide) (by decide)

theorem resuming_body (s : State) : (resuming s).body = { s.body with state := .running } :=
  (evaluateGrants_only (s.withBody { s.body with state := .running })).same .body (by decide)

theorem resumeBodyTaken_turns (s : State) : ∃ b, resumeBodyTaken s = packersInTurn b unhaltPacker (resuming s) :=
  ⟨_, rfl⟩

theorem resumeBodyTaken_quiet (s : State) : PortsQuiet s (resumeBodyTaken s) := by
  obtain ⟨b, turns⟩ := resumeBodyTaken_turns s
  rw [turns]
  have grants := (evaluateGrants_grantsOnly (s.withBody { s.body with state := .running })).ports
  exact (grants.after (s := s) rfl).trans ((unhaltPacker_inTurn (s := resuming s) (by rw [resuming_body])).portsQuiet b)

theorem resumeBodyTaken_lifters (s : State) (l : Lifter) : LifterUpToGrant (s.lifter l)
    ((resumeBodyTaken s).lifter l) := by
  obtain ⟨b, turns⟩ := resumeBodyTaken_turns s
  rw [turns]
  exact LifterUpToGrant.trans ((evaluateGrants_grantsOnly (s.withBody { s.body with state := .running })).lifters l)
    ((unhaltPacker_inTurn (s := resuming s) (by rw [resuming_body])).lifters b l)

theorem resumeBodyTaken_packer (s : State) (st : Stream) : Resumed s st (s.packer st)
    ((resumeBodyTaken s).packer st) := by
  obtain ⟨b, turns⟩ := resumeBodyTaken_turns s
  rw [turns]
  have scan : (resuming s).scan = s.scan := (resuming_only s).same .scan (by decide)
  have turned := (unhaltPacker_inTurn (s := resuming s) (by rw [resuming_body])).packer b st
  have gate : (resuming s).body.tailgate = s.body.tailgate := by rw [resuming_body]
  have seen : Resumed s st ((resuming s).packer st) ((packersInTurn b unhaltPacker (resuming s)).packer st) :=
    ⟨turned.other, by rw [← gate]; exact turned.idles, fun halted pending mode closed fresh =>
      turned.starts halted pending mode (by rw [gate]; exact closed) ((PackFresh.congr scan).mpr fresh)⟩
  exact seen.before ((evaluateGrants_grantsOnly (s.withBody { s.body with state := .running })).packers st)

theorem resumeBodyTaken_body (s : State) : (resumeBodyTaken s).body = { s.body with state := .running } := by
  obtain ⟨b, turns⟩ := resumeBodyTaken_turns s
  rw [turns, ← resuming_body]
  exact (packersInTurn_only _ _ unhaltPacker_only _).same .body (by decide)

theorem decideResumeBody_elsewhere (h : s.body.state ≠ .halted) : decideResumeBody s = taken s := if_neg h
theorem decideResumeBody_active (halted : s.body.state = .halted) (active : s.body.estop.reading = true) :
    decideResumeBody s = declined (.refused .estopActive) s := (if_pos halted).trans (if_pos active)
theorem decideResumeBody_taken (halted : s.body.state = .halted) (released : s.body.estop.reading = false) :
    decideResumeBody s = taken (resumeBodyTaken s) :=
  (if_pos halted).trans (if_neg (ne_true_of_eq_false released))

/-- Settles O27: the taken request is RUNNING and the packers in turn (`resumeBodyTaken_packer`). -/
theorem resumeBodyDecided : Obligations.ResumeBodyDecided := by
  intro p n d s h
  refine ⟨fun elsewhere => exec_decided h rfl (decideResumeBody_elsewhere (by exact elsewhere)),
    fun halted active => exec_decided h rfl (decideResumeBody_active (by exact halted) (by exact active)),
    fun halted released => ?_⟩
  obtain ⟨Q, run, answered, -⟩ := exec_taken (i := .resumeBody p n d) h rfl
    (decideResumeBody_taken (by exact halted) (by exact released)) (resumeBodyTaken_quiet _)
  have only := resumeBodyTaken_only (takeRequest p n Kind.resumeBody.code s)
  have packer := resumeBodyTaken_packer (takeRequest p n Kind.resumeBody.code s)
  exact ⟨_, run, answered, resumeBodyTaken_body (takeRequest p n Kind.resumeBody.code s),
    resumeBodyTaken_lifters (takeRequest p n Kind.resumeBody.code s), fun st => (packer st).other,
    fun st => (packer st).idles, fun st => (packer st).starts, only.same .scan (by decide),
    only.same .weigh (by decide), only.same .compartments (by decide), only.same .tags (by decide),
    only.same .journal (by decide), only.same .integrity (by decide),
    ⟨only.same .pending (by decide), only.same .resetHeld (by decide), only.same .bodyTimer (by decide), rfl,
      only.same .banks (by decide), only.same .bodyLimit (by decide), only.same .calib (by decide),
      only.same .access (by decide), only.same .loader (by decide)⟩⟩

end Sys2Proof.Safety
end

section
/-! SUPPORT. Holds of several consumers one after another (R19, R20, R60, R78): what a hold does to its own lifter or
packer (`holdUnit`, `holdPackUnit`), which grants in between never show, and the windows withdrawn with it. -/

namespace Sys2Proof.Safety

open Sys2Proof.Machine

variable {s t u : State} {l m : Lifter} {st : Stream} {c : LiftContext} {x : Consumer} {v w : LifterUnit}
  {j k : Packer} {xs : List Consumer}

/-! ### What grants leave of a lifter and of a packer -/

/-- A lifter whose phase has no valve: a grant does not reach it. -/
def resting (v : LifterUnit) : Prop := ∀ c, v.context = some c → phaseValve c.phase = none

/-- A lifter after grants: up to what a grant starts, and as it was when its phase has no valve. -/
def UnitSeen (v w : LifterUnit) : Prop := LifterUpToGrant v w ∧ (resting v → w = v)

/-- A packer after grants: up to what a grant starts, and as it was outside a stroke. -/
def PackSeen (j k : Packer) : Prop := PackerUpToGrant j k ∧ ((∀ ph, j.state ≠ .stroke ph) → k = j)

theorem UnitSeen.refl (v : LifterUnit) : UnitSeen v v := ⟨rfl, fun _ => rfl⟩
theorem PackSeen.refl (k : Packer) : PackSeen k k := ⟨rfl, fun _ => rfl⟩

/-- The contexts of two lifters up to grants. -/
theorem LifterUpToGrant.context (h : LifterUpToGrant v w) : w.context.map bareContext = v.context.map bareContext :=
  congrArg LifterUnit.context h

theorem LifterUpToGrant.resting (h : LifterUpToGrant v w) (rests : resting v) : resting w := fun c context => by
  have same := h.context
  rw [context] at same
  obtain ⟨d, old, bare⟩ := Option.map_eq_some_iff.mp same.symm
  have phase : d.phase = c.phase := (congrArg LiftContext.phase bare : (bareContext d).phase = (bareContext c).phase)
  rw [← phase]
  exact rests d old

theorem UnitSeen.trans {z : LifterUnit} (h : UnitSeen v w) (k : UnitSeen w z) : UnitSeen v z :=
  ⟨h.1.trans k.1, fun rests => (k.2 (h.1.resting rests)).trans (h.2 rests)⟩

theorem PackSeen.trans {i : Packer} (h : PackSeen i j) (g : PackSeen j k) : PackSeen i k :=
  ⟨h.1.trans g.1, fun rests => (g.2 (by rw [h.1.state]; exact rests)).trans (h.2 rests)⟩

theorem lifterAfter_seen (b : Bool) (now : Nat) (v : LifterUnit) : UnitSeen v (lifterAfter b now v) := by
  unfold lifterAfter
  split
  · exact .refl v
  · next ph phase =>
    obtain ⟨c, context, rfl⟩ := Option.map_eq_some_iff.mp phase
    split
    · next granted =>
      refine ⟨?_, fun rests => absurd granted.2 (by rw [rests c context]; exact Bool.false_ne_true)⟩
      simp only [LifterUpToGrant, bareLifter, context, Option.map_some]
      split <;> rfl
    · exact .refl v

theorem packerAfter_seen (b : Bool) (now : Nat) (k : Packer) : PackSeen k (packerAfter b now k) := by
  unfold packerAfter
  split
  · next stroke => exact ⟨rfl, fun rests => absurd stroke (rests _)⟩
  · next stroke => exact ⟨rfl, fun rests => absurd stroke (rests _)⟩
  · exact .refl k

/-! ### What a sequence of holds leaves of the others -/

/-- A consumer without a record is not in the waiting list. -/
def Orderly (f : Machine.Flow) : Prop := ∀ x, f.records.get x = .none → x ∉ f.waiting

theorem FlowLaw.orderly (law : FlowLaw s) : Orderly s.flow := fun x none listed => by
  have waits := (law.listed x).mp listed
  rw [none] at waits
  cases waits

/-- The consumers outside xs have seen grants at most, and none of them, nor of xs, has got a record. -/
structure Seen (xs : List Consumer) (s t : State) : Prop where
  lifters : ∀ l, Consumer.lifter l ∉ xs → UnitSeen (s.lifter l) (t.lifter l)
  packers : ∀ st, Consumer.packer st ∉ xs → PackSeen (s.packer st) (t.packer st)
  orderly : Orderly s.flow → Orderly t.flow ∧ ∀ x, s.flow.records.get x = .none → t.flow.records.get x = .none

theorem Seen.trans (h : Seen xs s t) (k : Seen xs t u) : Seen xs s u where
  lifters l hl := (h.lifters l hl).trans (k.lifters l hl)
  packers st hs := (h.packers st hs).trans (k.packers st hs)
  orderly o :=
    have mid := h.orderly o
    have late := k.orderly mid.1
    ⟨late.1, fun x none => late.2 x (mid.2 x none)⟩

theorem Seen.mono {ys : List Consumer} (h : Seen xs s t) (sub : ∀ x ∈ xs, x ∈ ys) : Seen ys s t :=
  ⟨fun l hl => h.lifters l fun hx => hl (sub _ hx), fun st hs => h.packers st fun hx => hs (sub _ hx), h.orderly⟩

theorem Seen.of_only {ps : List Field} (only : Only ps s t) (lifters : Field.lifters ∉ ps := by decide)
    (packers : Field.packers ∉ ps := by decide) (flow : Field.flow ∉ ps := by decide) : Seen xs s t := by
  have sameLifters : t.lifters = s.lifters := only.same .lifters lifters
  have samePackers : t.packers = s.packers := only.same .packers packers
  have sameFlow : t.flow = s.flow := only.same .flow flow
  refine ⟨fun l _ => ?_, fun st _ => ?_, fun o => by rw [sameFlow]; exact ⟨o, fun _ h => h⟩⟩
  · rw [State.lifter, State.lifter, sameLifters]
    exact .refl _
  · rw [State.packer, State.packer, samePackers]
    exact .refl _

theorem Seen.refl (s : State) : Seen xs s s := .of_only (.refl [] s)

theorem grantOne_seen (listed : x ∈ s.flow.waiting) : Seen xs s (grantOne x s) where
  lifters l _ := by rw [grantOne_lifter]; exact lifterAfter_seen _ _ _
  packers st _ := by rw [grantOne_packer]; exact packerAfter_seen _ _ _
  orderly o := by
    have kept {y : Consumer} (ne : y ≠ x) : (grantOne x s).flow.records.get y = s.flow.records.get y := by
      rw [grantOne_flow, PerConsumer.get_set_of_ne _ _ _ _ ne]
    refine ⟨fun y none late => ?_, fun y none => ?_⟩
    · rw [grantOne_flow] at late
      obtain ⟨early, ne⟩ := List.mem_filter.mp late
      rw [kept (of_decide_eq_true ne)] at none
      exact o y none early
    · rw [kept fun same => o y none (by rw [same]; exact listed), none]

theorem grantLoop_seen (n : Nat) (s : State) : Seen xs s (grantLoop n s) := by
  induction n generalizing s with
  | zero => exact .refl s
  | succ n ih =>
    unfold grantLoop
    split
    · exact .refl s
    · next head =>
      split
      · exact (grantOne_seen (headRequest_mem head)).trans (ih _)
      · exact .refl s

theorem testLine_seen (s : State) : Seen xs s (testLine s) := by
  have only := testLine_only s
  have lifters : (testLine s).lifters = s.lifters := only.same .lifters (by decide)
  have packers : (testLine s).packers = s.packers := only.same .packers (by decide)
  refine ⟨fun l _ => ?_, fun st _ => ?_, fun o => ?_⟩
  · rw [State.lifter, State.lifter, lifters]
    exact .refl _
  · rw [State.packer, State.packer, packers]
    exact .refl _
  · rw [testLine_flow]
    exact ⟨o, fun _ none => none⟩

theorem evaluateGrants_seen (s : State) : Seen xs s (evaluateGrants s) := by
  unfold evaluateGrants
  split
  · exact (grantLoop_seen _ s).trans (testLine_seen _)
  · exact testLine_seen s

theorem dropRecord_seen (x : Consumer) (s : State) : Seen xs s (dropRecord x s) where
  lifters _ _ := .refl _
  packers _ _ := .refl _
  orderly o := by
    refine ⟨fun y none listed => ?_, fun y none => ?_⟩
    · obtain ⟨early, ne⟩ := List.mem_filter.mp listed
      have kept : (dropRecord x s).flow.records.get y = s.flow.records.get y :=
        PerConsumer.get_set_of_ne _ _ _ _ (of_decide_eq_true ne)
      rw [kept] at none
      exact o y none early
    · by_cases same : y = x
      · rw [same]
        exact dropRecord_record x s
      · exact (PerConsumer.get_set_of_ne _ _ _ _ same).trans none

theorem giveBackFlow_seen (x : Consumer) (s : State) : Seen xs s (giveBackFlow x s) := by
  obtain ⟨-, same⟩ | dropped := giveBackFlow_cases x s
  · rw [same]
    exact .refl s
  · rw [dropped]
    exact (dropRecord_seen x s).trans (evaluateGrants_seen _)

theorem withLifter_seen (v : LifterUnit) : Seen [.lifter l] s (s.withLifter l v) where
  lifters m hm := by
    rw [lifter_withLifter_of_ne _ _ _ _ fun same => hm (by rw [same]; exact List.mem_singleton.mpr rfl)]
    exact .refl _
  packers _ _ := .refl _
  orderly o := ⟨o, fun _ none => none⟩

theorem withPacker_seen (k : Packer) : Seen [.packer st] s (s.withPacker st k) where
  lifters _ _ := .refl _
  packers su hs := by
    rw [packer_withPacker_of_ne _ _ _ _ fun same => hs (by rw [same]; exact List.mem_singleton.mpr rfl)]
    exact .refl _
  orderly o := ⟨o, fun _ none => none⟩

/-! ### A hold of one lifter -/

/-- A context after a hold cause (R19, R20). -/
def holdContext (r : HoldReason) (c : LiftContext) : LiftContext :=
  if isHoldable c.phase then
    { stopTimers c with remembered := some c.phase, phase := .held, reasons := HoldReasons.add {} r }
  else if c.phase = .held then { c with reasons := c.reasons.add r } else c

/-- A lifter after a hold cause (R19, R20). -/
def holdUnit (r : HoldReason) (v : LifterUnit) : LifterUnit :=
  match v.context with
  | none => v
  | some c => if isHoldable c.phase then heldUnit v r c else { v with context := some (holdContext r c) }

theorem holdContext_holdable (r : HoldReason) (holdable : isHoldable c.phase = true) : holdContext r c =
    { stopTimers c with remembered := some c.phase, phase := .held, reasons := HoldReasons.add {} r } := if_pos holdable

theorem holdContext_held (r : HoldReason) (held : c.phase = .held) :
    holdContext r c = { c with reasons := c.reasons.add r } := by simp [holdContext, held, isHoldable]

theorem holdContext_fault (r : HoldReason) (fault : c.phase = .fault) : holdContext r c = c := by
  simp [holdContext, fault, isHoldable]

/-- After a hold a lift stands in HELD with the reason, or in FAULT. -/
theorem holdContext_phase (r : HoldReason) (c : LiftContext) : (holdContext r c).phase = .fault
    ∨ (holdContext r c).phase = .held ∧ (holdContext r c).reasons.has r = true := by
  cases phase : c.phase <;> simp [holdContext, phase, isHoldable] <;> cases r <;> rfl

theorem holdUnit_context (r : HoldReason) (v : LifterUnit) :
    (holdUnit r v).context = v.context.map (holdContext r) := by
  unfold holdUnit
  split
  · next idle => rw [idle]; rfl
  · next c context =>
    rw [context]
    split
    · next holdable => exact congrArg some (holdContext_holdable r holdable).symm
    · rfl

theorem add_of_has {r : HoldReason} {rs : HoldReasons} (has : rs.has r = true) : rs.add r = rs := by
  obtain ⟨⟩ := rs
  cases r <;> simp_all [HoldReasons.has, HoldReasons.add]

theorem holdLifter_unit (r : HoldReason) (s : State) (l : Lifter) :
    (holdLifter l r s).lifter l = holdUnit r (s.lifter l) := by
  unfold holdUnit
  cases context : (s.lifter l).context with
  | none => rw [holdLifter_idle r context]
  | some c =>
    dsimp only
    split
    · next holdable =>
      rw [holdLifter_moving r context holdable]
      have lifters : (holdWithdraws l r c s).lifters = (holdGivesBack l r c s).lifters :=
        (holdWithdraws_only l r c s).same .lifters (by decide)
      have own := holdGivesBack_self l r c s
      rwa [State.lifter, ← lifters] at own
    · next still =>
      by_cases held : c.phase = .held
      · rw [holdContext_held r held]
        cases has : c.reasons.has r with
        | true =>
          rw [holdLifter_again context held has, add_of_has has, ← context]
        | false =>
          rw [holdLifter_added context held has]
          exact lifter_withLifter_self _ _ _
      · have fault : c.phase = .fault := by cases phase : c.phase <;> simp_all [isHoldable]
        rw [holdContext_fault r fault, holdLifter_fault r (by simp [State.phase, State.context, context, fault]), ← context]

theorem holdLifter_seen (r : HoldReason) (s : State) (l : Lifter) : Seen [.lifter l] s (holdLifter l r s) := by
  unfold holdLifter
  split
  · exact .refl s
  · next c context =>
    split
    · exact .refl s
    · split
      · exact .refl s
      · exact (withLifter_seen _).trans (.of_only (latchAll_only _ _))
    · exact ((withLifter_seen _).trans (giveBackFlow_seen _ _)).trans
        ((Seen.of_only (holdWithdraws_only l r c s)).trans (.of_only (latchAll_only _ _)))

/-- Grants before a hold do not show after it. -/
theorem holdUnit_seen (r : HoldReason) (h : UnitSeen v w) : holdUnit r w = holdUnit r v := by
  obtain ⟨grant, rested⟩ := h
  cases context : v.context with
  | none => rw [rested fun c some => by rw [context] at some; cases some]
  | some c =>
    cases holdable : isHoldable c.phase with
    | false =>
      rw [rested fun d some => ?_]
      rw [context] at some
      obtain rfl := Option.some.inj some
      cases phase : c.phase <;> simp_all [isHoldable, phaseValve]
    | true =>
      have bare := grant.context
      rw [context] at bare
      obtain ⟨d, new, same⟩ := Option.map_eq_some_iff.mp bare
      have phase : d.phase = c.phase :=
        (congrArg LiftContext.phase same : (bareContext d).phase = (bareContext c).phase)
      have timers : stopTimers d = stopTimers c :=
        (congrArg stopTimers same : stopTimers (bareContext d) = stopTimers (bareContext c))
      have fields : { w with raiseValve := false, lowerValve := false, context := none } =
          { v with raiseValve := false, lowerValve := false, context := none } :=
        (congrArg (fun z : LifterUnit => { z with context := none }) (grant : bareLifter w = bareLifter v) :)
      simp only [holdUnit, context, new, phase, holdable, if_true]
      simp only [heldUnit, phase, timers]
      exact congrArg (fun z : LifterUnit => { z with
        context := some { stopTimers c with remembered := some c.phase, phase := .held, reasons := HoldReasons.add {} r } })
        fields

theorem holdUnit_resting (r : HoldReason) (v : LifterUnit) : resting (holdUnit r v) := fun c context => by
  rw [holdUnit_context] at context
  obtain ⟨d, -, rfl⟩ := Option.map_eq_some_iff.mp context
  obtain fault | ⟨held, -⟩ := holdContext_phase r d
  · rw [fault]; rfl
  · rw [held]; rfl

/-! ### A hold of both lifters -/

theorem holdBoth_lifter (r : HoldReason) (s : State) (l : Lifter) : (holdBoth r s).lifter l = holdUnit r (s.lifter l) := by
  cases l with
  | left =>
    have seen := (holdLifter_seen r (holdLifter .left r s) .right).lifters .left (by decide)
    rw [holdBoth, seen.2 (by rw [holdLifter_unit]; exact holdUnit_resting r _), holdLifter_unit]
  | right =>
    rw [holdBoth, holdLifter_unit, holdUnit_seen r ((holdLifter_seen r s .left).lifters .right (by decide))]

theorem holdBoth_seen (r : HoldReason) (s : State) : Seen [.lifter .left, .lifter .right] s (holdBoth r s) :=
  ((holdLifter_seen r s .left).mono (by decide)).trans ((holdLifter_seen r _ .right).mono (by decide))

theorem holdBoth_context (r : HoldReason) (s : State) (l : Lifter) :
    (holdBoth r s).context l = (s.context l).map (holdContext r) := by
  rw [State.context, holdBoth_lifter, holdUnit_context]
  rfl

theorem holdBoth_quiet (r : HoldReason) (s : State) : PortsQuiet s (holdBoth r s) :=
  (holdLifter_quiet .left r s).trans (holdLifter_quiet .right r _)

/-! ### Holds of packers (R78) -/

/-- A packer after a hold cause (R78). -/
def holdPackUnit (flow : Bool) (k : Packer) : Packer :=
  match k.state with
  | .stroke ph => { stopPacker k with state := .held ph (addPackReason ⟨false, false⟩ flow) }
  | .held ph r => { k with state := .held ph (addPackReason r flow) }
  | _ => k

theorem holdPacker_unit (flow : Bool) (s : State) (st : Stream) :
    (holdPacker st flow s).packer st = holdPackUnit flow (s.packer st) := by
  unfold holdPacker holdPackUnit
  cases state : (s.packer st).state with
  | stroke ph => exact (giveBackFlow_packer_self st _).trans (packer_withPacker_self _ _ _)
  | held ph r => exact packer_withPacker_self _ _ _
  | _ => rfl

theorem holdPacker_seen (flow : Bool) (s : State) (st : Stream) : Seen [.packer st] s (holdPacker st flow s) := by
  unfold holdPacker
  split
  · exact (withPacker_seen _).trans (giveBackFlow_seen _ _)
  · exact withPacker_seen _
  · exact .refl s

theorem holdPackUnit_seen (flow : Bool) (h : PackSeen j k) : holdPackUnit flow k = holdPackUnit flow j := by
  obtain ⟨grant, rested⟩ := h
  cases state : j.state with
  | stroke ph =>
    have same : stopPacker k = stopPacker j := grant
    simp only [holdPackUnit, grant.state, state, same]
  | _ => rw [rested fun ph stroke => by rw [state] at stroke; cases stroke]

theorem holdPackUnit_rests (flow : Bool) (k : Packer) (ph : StrokePhase) : (holdPackUnit flow k).state ≠ .stroke ph := by
  unfold holdPackUnit
  cases state : k.state <;> simp [state]

theorem holdPacker_record (flow : Bool) {ph : StrokePhase} (stroke : (s.packer st).state = .stroke ph) :
    (holdPacker st flow s).flow.records.get (.packer st) = .none := by
  simp only [holdPacker, stroke]
  exact giveBackFlow_record _ _

end Sys2Proof.Safety
end

section
/-! SUPPORT. Windows withdrawn by holds one after another (R19, R103, R110): `Withdrawn` follows them, and at its end
stands `WindowsGone`. -/

namespace Sys2Proof.Safety

open Sys2Proof.Machine

variable {s t u : State} {l m : Lifter} {c : LiftContext} {gone : Lifter → Bool}

theorem computationFor_not_held (h : isHeld (s.scan.buffers.get m) = false) : computationFor m s = none := by
  unfold computationFor
  split
  · next buffer => rw [buffer] at h; cases h
  · rfl

/-- From s to t the windows of the lifters in gone have been withdrawn, in any order. -/
structure Withdrawn (gone : Lifter → Bool) (s t : State) : Prop where
  buffers : ∀ l, t.scan.buffers.get l = if gone l then .empty else s.scan.buffers.get l
  queue : t.weigh.queue = s.weigh.queue.filter fun l => !(gone l && isHeld (s.scan.buffers.get l))
  going : t.weigh.queue.head? = s.weigh.queue.head? → t.weigh.computation = s.weigh.computation
  next : t.weigh.queue.head? ≠ s.weigh.queue.head? →
    t.weigh.computation = t.weigh.queue.head?.bind fun m => computationFor m s
  results : t.weigh.last = s.weigh.last ∧ t.weigh.drift = s.weigh.drift
  scan : t.scan = { s.scan with buffers := t.scan.buffers }
  banks : ∀ m, (t.context m).map LiftContext.bank = (s.context m).map LiftContext.bank
  timer : t.bodyTimer = s.bodyTimer
  calib : t.calib = s.calib

theorem Withdrawn.refl (s : State) : Withdrawn (fun _ => false) s s where
  buffers _ := rfl
  queue := by simp
  going _ := rfl
  next h := absurd rfl h
  results := ⟨rfl, rfl⟩
  scan := rfl
  banks _ := rfl
  timer := rfl
  calib := rfl

/-- A step that reaches neither windows nor queue, nor the lifters' banks. -/
theorem Withdrawn.still (h : Withdrawn gone s t) (scan : u.scan = t.scan) (weigh : u.weigh = t.weigh)
    (timer : u.bodyTimer = t.bodyTimer) (calib : u.calib = t.calib)
    (banks : ∀ m, (u.context m).map LiftContext.bank = (t.context m).map LiftContext.bank) : Withdrawn gone s u where
  buffers := by rw [scan]; exact h.buffers
  queue := by rw [weigh]; exact h.queue
  going := by rw [weigh]; exact h.going
  next := by rw [weigh]; exact h.next
  results := by rw [weigh]; exact h.results
  scan := by rw [scan]; exact h.scan
  banks m := (banks m).trans (h.banks m)
  timer := timer.trans h.timer
  calib := calib.trans h.calib

/-- What the next computation of a lifter takes is as it was, unless its window has gone. -/
theorem Withdrawn.inputs (h : Withdrawn gone s t) (waits : m ∈ t.weigh.queue) :
    computationFor m t = computationFor m s := by
  rw [h.queue] at waits
  have kept := (List.mem_filter.mp waits).2
  have buffer := h.buffers m
  cases hm : gone m with
  | false =>
    rw [hm] at buffer
    exact computationFor_congr buffer (h.banks m) h.timer h.calib
  | true =>
    rw [hm] at buffer
    have old : isHeld (s.scan.buffers.get m) = false := by simpa [hm] using kept
    rw [computationFor_not_held old, computationFor_not_held (by rw [buffer]; rfl)]

theorem head_filter_of_ne {q : List Lifter} (h : q.head? ≠ some l) :
    (q.filter fun x => decide (x ≠ l)).head? = q.head? := by
  cases q with
  | nil => rfl
  | cons a rest =>
    have other : a ≠ l := fun same => h (congrArg some same)
    simp [other]

theorem tail_of_head {q : List Lifter} (once : q.Nodup) (h : q.head? = some l) :
    q.tail = q.filter fun x => decide (x ≠ l) := by
  cases q with
  | nil => cases h
  | cons a rest =>
    obtain rfl : a = l := Option.some.inj h
    have absent := (List.nodup_cons.mp once).1
    simp only [List.tail_cons, ne_eq, not_true_eq_false, decide_false, Bool.false_eq_true, not_false_eq_true,
      List.filter_cons_of_neg]
    exact (List.filter_eq_self.mpr fun x hx => by simpa using fun same : x = a => absent (same ▸ hx)).symm

theorem head_filter_filter {q : List Lifter} {P Q : Lifter → Bool} (h : ((q.filter Q).filter P).head? = q.head?) :
    (q.filter Q).head? = q.head? := by
  cases q with
  | nil => rfl
  | cons a rest =>
    have listed : a ∈ (a :: rest).filter Q := (List.mem_filter.mp (List.mem_of_head? h)).1
    rw [List.filter_cons_of_pos (List.mem_filter.mp listed).2]
    rfl

/-- One more window withdrawn. -/
theorem Withdrawn.withdraw (h : Withdrawn gone s t) (once : s.weigh.queue.Nodup) (l : Lifter) :
    Withdrawn (fun m => gone m || decide (m = l)) s (withdrawWindow l t) := by
  have only := withdrawWindow_only l t
  have scan := withdrawWindow_scan l t
  have lifters : (withdrawWindow l t).lifters = t.lifters := only.same .lifters (by decide)
  obtain ⟨drift, last⟩ := withdrawWindow_keeps l t
  have filtered : t.weigh.queue.filter (fun x => decide (x ≠ l) || !(isHeld (t.scan.buffers.get l))) =
      s.weigh.queue.filter fun m => !((gone m || decide (m = l)) && isHeld (s.scan.buffers.get m)) := by
    rw [h.queue, List.filter_filter]
    refine List.filter_congr fun m _ => ?_
    by_cases hm : m = l
    · subst hm
      have empty : isHeld .empty = false := rfl
      rw [h.buffers m]
      cases gone m <;> cases held : isHeld (s.scan.buffers.get m) <;> simp [held, empty]
    · simp [hm]
  have steps : (withdrawWindow l t).weigh.queue =
        t.weigh.queue.filter (fun x => decide (x ≠ l) || !(isHeld (t.scan.buffers.get l)))
      ∧ ((withdrawWindow l t).weigh.queue.head? = t.weigh.queue.head? →
          (withdrawWindow l t).weigh.computation = t.weigh.computation)
      ∧ ((withdrawWindow l t).weigh.queue.head? ≠ t.weigh.queue.head? → t.weigh.queue.head? = some l
        ∧ (withdrawWindow l t).weigh.computation =
          (withdrawWindow l t).weigh.queue.head?.bind fun m => computationFor m (t.withBuffer l .empty)) := by
    cases held : isHeld (t.scan.buffers.get l) with
    | false =>
      rw [withdrawWindow_not_held held]
      exact ⟨by simp, fun _ => rfl, fun moved => absurd rfl moved⟩
    | true =>
      rw [withdrawWindow_held held]
      simp only [Bool.not_true, Bool.or_false]
      by_cases head : t.weigh.queue.head? = some l
      · have onceT : t.weigh.queue.Nodup := by rw [h.queue]; exact once.filter _
        obtain ⟨queue, computation⟩ := leaveQueue_computing (s := t.withBuffer l .empty) head
        rw [queue, computation]
        refine ⟨tail_of_head onceT head, fun same => ?_, fun _ => ⟨head, rfl⟩⟩
        have listed : l ∈ t.weigh.queue.tail := List.mem_of_head? (same.trans head)
        rw [tail_of_head onceT head] at listed
        exact absurd rfl (of_decide_eq_true (List.mem_filter.mp listed).2)
      · obtain ⟨queue, computation⟩ := leaveQueue_waiting (s := t.withBuffer l .empty) head
        rw [queue, computation]
        exact ⟨rfl, fun _ => rfl, fun moved => absurd (head_filter_of_ne head) moved⟩
  obtain ⟨queue, going, next⟩ := steps
  have inputs : (withdrawWindow l t).weigh.queue.head?.bind (fun m => computationFor m (t.withBuffer l .empty)) =
      (withdrawWindow l t).weigh.queue.head?.bind fun m => computationFor m s := by
    cases head : (withdrawWindow l t).weigh.queue.head? with
    | none => rfl
    | some m =>
      have listed := List.mem_of_head? head
      rw [queue] at listed
      obtain ⟨waits, kept⟩ := List.mem_filter.mp listed
      rw [Option.bind_some, Option.bind_some, ← h.inputs waits]
      by_cases hm : m = l
      · subst hm
        have empty : isHeld (t.scan.buffers.get m) = false := by simpa using kept
        rw [computationFor_not_held empty, computationFor_not_held (by simp [State.withBuffer, isHeld])]
      · exact computationFor_congr (PerLifter.get_set_of_ne _ _ _ _ hm) rfl rfl rfl
  refine {
    buffers := fun m => ?_
    queue := queue.trans filtered
    going := fun same => ?_
    next := fun moved => ?_
    results := ⟨last.trans h.results.1, drift.trans h.results.2⟩
    scan := ?_
    banks := fun m => by rw [State.context, State.lifter, lifters]; exact h.banks m
    timer := (only.same .bodyTimer (by decide) : _).trans h.timer
    calib := (only.same .calib (by decide) : _).trans h.calib }
  · rw [scan]
    by_cases hm : m = l
    · simp [hm]
    · simp [hm, PerLifter.get_set_of_ne, h.buffers]
  · have before : t.weigh.queue.head? = s.weigh.queue.head? := by
      rw [queue, h.queue] at same
      rw [h.queue]
      exact head_filter_filter same
    exact (going (same.trans before.symm)).trans (h.going before)
  · by_cases same : (withdrawWindow l t).weigh.queue.head? = t.weigh.queue.head?
    · rw [going same, h.next fun early => moved (same.trans early), same]
    · rw [(next same).2, inputs]
  · rw [scan, h.scan]

/-- A lifter whose window is not to be withdrawn, whatever its name in gone. -/
theorem Withdrawn.congr {other : Lifter → Bool} (h : Withdrawn gone s t) (same : ∀ m, other m = gone m) :
    Withdrawn other s t := by
  rw [funext same]
  exact h

/-! ### Holds -/

theorem weighing_congr (context : (t.context l).map bareContext = (s.context l).map bareContext) :
    weighing t l = weighing s l := by
  have phases := congrArg (Option.map LiftContext.phase) context
  simp only [Option.map_map] at phases
  have any (x : Option LiftContext) : x.any (fun c => isWeigh c.phase) =
      (x.map (LiftContext.phase ∘ bareContext)).any isWeigh := by cases x <;> rfl
  rw [weighing, weighing, any, any, phases]

theorem weighing_holdLifter (r : HoldReason) (s : State) (l m : Lifter) :
    weighing (holdLifter l r s) m = (weighing s m && decide (m ≠ l)) := by
  by_cases hm : m = l
  · subst hm
    rw [weighing, State.context, holdLifter_unit, holdUnit_context]
    cases (s.lifter m).context with
    | none => simp
    | some c =>
      have rests : isWeigh (holdContext r c).phase = false := by
        obtain fault | ⟨held, -⟩ := holdContext_phase r c
        · rw [fault]; rfl
        · rw [held]; rfl
      simp [rests]
  · have seen := (holdLifter_seen r s l).lifters m (by simpa using hm)
    rw [weighing_congr seen.1.context]
    simp [hm]

theorem holdGivesBack_banks (l : Lifter) (r : HoldReason) (context : s.context l = some c) (m : Lifter) :
    ((holdGivesBack l r c s).context m).map LiftContext.bank = (s.context m).map LiftContext.bank := by
  by_cases hm : m = l
  · subst hm
    rw [State.context, holdGivesBack_self, context]
    rfl
  · exact (holdGivesBack_of_ne r c s hm).bank

theorem not_weighing {ph : Phase} (phase : s.phase l = some ph) (rests : isWeigh ph = false) :
    weighing s l = false := by
  obtain ⟨c, context, rfl⟩ := Option.map_eq_some_iff.mp (phase : (s.context l).map LiftContext.phase = some ph)
  rw [weighing, context]
  exact rests

/-- A hold withdraws its lifter's window when the lifter weighs. -/
theorem Withdrawn.hold (h : Withdrawn gone s t) (once : s.weigh.queue.Nodup) (l : Lifter) (r : HoldReason) :
    Withdrawn (fun m => gone m || (decide (m = l) && weighing t l)) s (holdLifter l r t) := by
  have same (rests : weighing t l = false) (m : Lifter) :
      (gone m || (decide (m = l) && weighing t l)) = gone m := by rw [rests]; simp
  cases context : t.context l with
  | none =>
    rw [holdLifter_idle r context]
    exact h.congr (same (by rw [weighing, context]; rfl))
  | some c =>
    have phase : t.phase l = some c.phase := congrArg (Option.map LiftContext.phase) context
    cases holdable : isHoldable c.phase with
    | false =>
      have rests : weighing t l = false := not_weighing phase (by cases p : c.phase <;> simp_all [isHoldable, isWeigh])
      refine Withdrawn.congr ?_ (same rests)
      have only : (holdLifter l r t).scan = t.scan ∧ (holdLifter l r t).weigh = t.weigh := by
        simp only [holdLifter, context]
        split
        · exact ⟨rfl, rfl⟩
        · split <;> exact ⟨rfl, rfl⟩
        · next other notHeld => cases p : c.phase <;> simp_all [isHoldable]
      have whole := holdLifter_only l r t
      refine h.still only.1 only.2 (whole.same .bodyTimer (by decide)) (whole.same .calib (by decide)) fun m => ?_
      by_cases hm : m = l
      · subst hm
        rw [State.context, holdLifter_unit, holdUnit_context, Option.map_map, State.context]
        refine congrArg (Option.map · _) (funext fun d => ?_)
        change (holdContext r d).bank = d.bank
        unfold holdContext
        split
        · rfl
        · split <;> rfl
      · exact ((holdLifter_seen r t l).lifters m (by simpa using hm)).1.bank
    | true =>
      rw [holdLifter_moving r context holdable, holdMoving_eq, holdWithdraws]
      have back := holdGivesBack_only l r c t
      have given : Withdrawn gone s (holdGivesBack l r c t) := h.still (back.same .scan (by decide))
        (back.same .weigh (by decide)) (back.same .bodyTimer (by decide)) (back.same .calib (by decide))
        (holdGivesBack_banks l r context)
      have weighs : weighing t l = isWeigh c.phase := by rw [weighing, context]; rfl
      split
      · next yes =>
        refine ((given.withdraw once l).still (u := latchAll .liftHeld _) rfl rfl rfl rfl fun _ => rfl).congr fun m => ?_
        rw [weighs, yes, Bool.and_true]
      · next no =>
        exact (given.still (u := latchAll .liftHeld _) rfl rfl rfl rfl fun _ => rfl).congr
          (same (by rw [weighs]; exact eq_false_of_ne_true no))

/-- Every window that was to be withdrawn has gone, or its lifter still weighs. -/
def Accounted (gone : Lifter → Bool) (s t : State) : Prop := ∀ m, (gone m || weighing t m) = weighing s m

theorem Accounted.hold (h : Accounted gone s t) (l : Lifter) (r : HoldReason) :
    Accounted (fun m => gone m || (decide (m = l) && weighing t l)) s (holdLifter l r t) := fun m => by
  rw [weighing_holdLifter, ← h m]
  by_cases hm : m = l
  · subst hm
    simp
  · simp [hm]

/-- The windows of the lifters that weighed in s have been withdrawn, or the lifters still weigh. -/
def WindowsFollow (s t : State) : Prop := ∃ gone, Withdrawn gone s t ∧ Accounted gone s t

theorem WindowsFollow.refl (s : State) : WindowsFollow s s := ⟨_, .refl s, fun m => by simp⟩

theorem WindowsFollow.hold (h : WindowsFollow s t) (once : s.weigh.queue.Nodup) (l : Lifter) (r : HoldReason) :
    WindowsFollow s (holdLifter l r t) := by
  obtain ⟨gone, withdrawn, accounted⟩ := h
  exact ⟨_, withdrawn.hold once l r, accounted.hold l r⟩

theorem WindowsFollow.holdBoth (h : WindowsFollow s t) (once : s.weigh.queue.Nodup) (r : HoldReason) :
    WindowsFollow s (holdBoth r t) := (h.hold once .left r).hold once .right r

/-- A step of the flow arbiter, the packers or the body: the lifters see grants at most. -/
theorem WindowsFollow.still (h : WindowsFollow s t) (scan : u.scan = t.scan) (weigh : u.weigh = t.weigh)
    (timer : u.bodyTimer = t.bodyTimer) (calib : u.calib = t.calib)
    (lifters : ∀ l, LifterUpToGrant (t.lifter l) (u.lifter l)) : WindowsFollow s u := by
  obtain ⟨gone, withdrawn, accounted⟩ := h
  refine ⟨gone, withdrawn.still scan weigh timer calib fun m => (lifters m).bank, fun m => ?_⟩
  rw [weighing_congr (lifters m).context]
  exact accounted m

theorem WindowsFollow.windowsGone (h : WindowsFollow s t) (rest : ∀ l, weighing t l = false) : WindowsGone s t := by
  obtain ⟨gone, withdrawn, accounted⟩ := h
  have same : gone = weighing s := funext fun m => by rw [← accounted m, rest m, Bool.or_false]
  subst same
  exact ⟨withdrawn.buffers, withdrawn.queue, withdrawn.going,
    fun moved => begun_of_computation (withdrawn.next moved), withdrawn.results, withdrawn.scan⟩

theorem holdBoth_rests (r : HoldReason) (s : State) (l : Lifter) : weighing (holdBoth r s) l = false := by
  rw [holdBoth, weighing_holdLifter, weighing_holdLifter]
  cases l <;> simp

end Sys2Proof.Safety
end

section
/-! PROOFS. The tailgate and the steps, and the emergency stop (O31, O32). -/

namespace Sys2Proof.Safety

open Sys2Proof.Machine

variable {s t u : State} {l m : Lifter} {c : LiftContext} {st : Stream} {k j : Packer}

/-! ### Both packers held -/

/-- Both packers at an opening tailgate (R78). -/
def holdPackers (flow : Bool) (s : State) : State := holdPacker .recycle flow (holdPacker .residual flow s)

theorem holdPackers_only (flow : Bool) (s : State) : Only flowParts s (holdPackers flow s) :=
  (holdPacker_only .residual flow s).step (holdPacker_only .recycle flow _)

theorem holdPackers_quiet (flow : Bool) (s : State) : PortsQuiet s (holdPackers flow s) :=
  ((Operates.refl.holdPacker .residual flow).holdPacker .recycle flow).quiet

theorem holdPackers_seen (flow : Bool) (s : State) :
    Seen [.packer .residual, .packer .recycle] s (holdPackers flow s) :=
  ((holdPacker_seen flow s .residual).mono (by decide)).trans ((holdPacker_seen flow _ .recycle).mono (by decide))

theorem holdPackers_packer (flow : Bool) (s : State) (st : Stream) :
    (holdPackers flow s).packer st = holdPackUnit flow (s.packer st) := by
  cases st with
  | residual =>
    have seen := (holdPacker_seen flow (holdPacker .residual flow s) .recycle).packers .residual (by decide)
    rw [holdPackers, seen.2 (by rw [holdPacker_unit]; exact holdPackUnit_rests flow _), holdPacker_unit]
  | recycle =>
    rw [holdPackers, holdPacker_unit, holdPackUnit_seen flow ((holdPacker_seen flow s .residual).packers .recycle
      (by decide))]

theorem holdPackers_record (flow : Bool) (orderly : Orderly s.flow) {ph : StrokePhase}
    (stroke : (s.packer st).state = .stroke ph) : (holdPackers flow s).flow.records.get (.packer st) = .none := by
  cases st with
  | residual =>
    have mid := (holdPacker_seen flow s .residual).orderly orderly
    exact ((holdPacker_seen flow (holdPacker .residual flow s) .recycle).orderly mid.1).2 _
      (holdPacker_record flow stroke)
  | recycle =>
    have seen := (holdPacker_seen flow s .residual).packers .recycle (by decide)
    exact holdPacker_record (s := holdPacker .residual flow s) flow (seen.1.state.trans stroke)

/-! ### The tailgate opens (R37, R78) -/

/-- The body with the tailgate read NOT CLOSED, the lifters and the packers held, before the drive-inhibit line. -/
def tailgateOpened (s : State) : State :=
  holdPackers false (holdBoth .tailgate (s.withBody { s.body with tailgate := settled false }))

theorem tailgateReadingNotClosed_due (awake : s.resetHeld = false) (h : settledTo false s s.body.tailgate = true) :
    exec .tailgateReadingNotClosed s = .next (evaluateInhibit (tailgateOpened s)) :=
  congrArg Host.Outcome.next (if_pos ((readingChanges_awake awake ..).trans h))

theorem tailgateOpened_only (s : State) : Only (.body :: liftParts) s (tailgateOpened s) :=
  (withBody_only s _).both ((holdBoth_only _ _).both (holdPackers_only _ _) (c := liftParts) (fun _ h => h) (by decide))
    (by decide) (by decide)

theorem tailgateOpened_body (s : State) : (tailgateOpened s).body = { s.body with tailgate := settled false } :=
  (((holdBoth_only .tailgate (s.withBody { s.body with tailgate := settled false })).both (holdPackers_only false _)
    (c := liftParts) (fun _ h => h) (by decide)).same .body (by decide) :)

theorem tailgateOpened_lifter (s : State) (l : Lifter) :
    (tailgateOpened s).lifter l = holdUnit .tailgate (s.lifter l) := by
  have seen := (holdPackers_seen false (holdBoth .tailgate (s.withBody { s.body with tailgate := settled false }))).lifters
    l (by cases l <;> decide)
  rw [tailgateOpened, seen.2 (by rw [holdBoth_lifter]; exact holdUnit_resting _ _), holdBoth_lifter]
  rfl

theorem tailgateOpened_context (s : State) (l : Lifter) :
    (tailgateOpened s).context l = (s.context l).map (holdContext .tailgate) := by
  rw [State.context, tailgateOpened_lifter, holdUnit_context]
  rfl

theorem tailgateOpened_quiet (s : State) : PortsQuiet s (tailgateOpened s) :=
  ((holdBoth_quiet _ _).trans (holdPackers_quiet _ _)).after (s := s) rfl

theorem tailgateOpened_packer (s : State) (st : Stream) :
    (tailgateOpened s).packer st = holdPackUnit false (s.packer st) := by
  have seen := (holdBoth_seen .tailgate (s.withBody { s.body with tailgate := settled false })).packers st
    (by cases st <;> decide)
  rw [tailgateOpened, holdPackers_packer, holdPackUnit_seen false seen]
  rfl

theorem tailgateOpened_record (law : FlowLaw s) {ph : StrokePhase} (stroke : (s.packer st).state = .stroke ph) :
    (tailgateOpened s).flow.records.get (.packer st) = .none := by
  have held := holdBoth_seen .tailgate (s.withBody { s.body with tailgate := settled false })
  have orderly := FlowLaw.orderly law
  exact holdPackers_record false (held.orderly orderly).1
    (((held.packers st (by cases st <;> decide)).1.state).trans stroke)

theorem tailgateOpened_windows (s : State) (once : s.weigh.queue.Nodup) : WindowsGone s (tailgateOpened s) := by
  have held : WindowsFollow s (holdBoth .tailgate (s.withBody { s.body with tailgate := settled false })) :=
    ((WindowsFollow.refl s).still (u := s.withBody { s.body with tailgate := settled false }) rfl rfl rfl rfl
      fun _ => rfl).holdBoth once _
  have only := holdPackers_only false (holdBoth .tailgate (s.withBody { s.body with tailgate := settled false }))
  have seen := holdPackers_seen false (holdBoth .tailgate (s.withBody { s.body with tailgate := settled false }))
  refine (held.still (only.same .scan (by decide)) (only.same .weigh (by decide)) (only.same .bodyTimer (by decide))
    (only.same .calib (by decide)) fun l => (seen.lifters l (by cases l <;> decide)).1).windowsGone fun l => ?_
  exact (weighing_congr (seen.lifters l (by cases l <;> decide)).1.context).trans (holdBoth_rests _ _ l)

/-! ### The tailgate closes (R37, R38, R69) -/

/-- What a closing tailgate does to the packer of a stream, up to grants (R69). -/
structure Started (s : State) (st : Stream) (k m : Packer) : Prop where
  stays : k.state ≠ .idle ∨ k.mode = .step ∨ k.pending = 0 ∨ s.body.state ≠ .running → PackerUpToGrant k m
  starts : k.state = .idle → k.mode ≠ .step → 0 < k.pending → s.body.state = .running → PackFresh s st →
    m.state = .stroke .extending ∧ m.pending = k.pending - 1

theorem Started.congr (body : t.body = s.body) (scan : t.scan = s.scan) (h : Started t st k j) : Started s st k j where
  stays := by rw [← body]; exact h.stays
  starts idle mode pending running fresh :=
    h.starts idle mode pending (by rw [body]; exact running) ((PackFresh.congr scan).mpr fresh)

theorem tryStart_started (closed : s.body.tailgate.reading = true) : Started s st (s.packer st)
    ((tryStart st s).packer st) where
  stays h := by
    rw [tryStart_stays]
    · rfl
    · rw [mayStart_iff]
      rintro ⟨idle, mode, pending, running, -⟩
      rcases h with other | step | empty | halted
      · exact other idle
      · exact mode step
      · exact absurd empty (Nat.ne_of_gt pending)
      · exact halted running
  starts idle mode pending running fresh := by
    rw [tryStart_starts (mayStart_iff.mpr ⟨idle, mode, pending, running, closed⟩)]
    exact startCycle_unit fresh

theorem tryStart_inTurn (closed : s.body.tailgate.reading = true) : InTurn tryStart s (Started s) where
  only := tryStart_only
  quiet st x := (Operates.refl.tryStart st).quiet
  others st x := tryStart_packOthers
  own st x body scan := (tryStart_started (by rw [body]; exact closed)).congr body scan
  before st k k' m same h :=
    { stays := fun stays => same.trans (h.stays (by rw [same.state, same.mode, same.pending]; exact stays))
      starts := fun idle mode pending running fresh => by
        rw [← same.pending]
        exact h.starts (same.state.trans idle) (by rw [same.mode]; exact mode) (by rw [same.pending]; exact pending)
          running fresh }
  after st k m m' h same :=
    { stays := fun stays => (h.stays stays).trans same
      starts := fun idle mode pending running fresh =>
        have own := h.starts idle mode pending running fresh
        ⟨same.state.trans own.1, same.pending.trans own.2⟩ }

/-- The body with the tailgate read CLOSED. -/
def tailgateClosed (s : State) : State :=
  s.withBody { s.body with tailgate := settled true, tailgateCycled := ⟨true, true⟩ }

theorem tailgateReadingClosed_due (awake : s.resetHeld = false) (h : settledTo true s s.body.tailgate = true) :
    exec .tailgateReadingClosed s = .next (evaluateInhibit (startPackers (tailgateClosed s))) :=
  congrArg Host.Outcome.next (if_pos ((readingChanges_awake awake ..).trans h))

theorem startPackers_turns (s : State) : ∃ b, startPackers s = packersInTurn b tryStart s := ⟨_, rfl⟩

theorem startPackers_body (s : State) : (startPackers s).body = s.body :=
  (startPackers_only s).same .body (by decide)

theorem inhibitConditions_eq (s : State) : inhibitConditions s =
    ⟨!s.lifterIdle .left, !s.lifterIdle .right, !s.body.tailgate.reading⟩ := rfl

theorem inhibit_any_iff (closed : s.body.tailgate.reading = true) :
    (inhibitConditions s).any = true ↔ s.context .left ≠ none ∨ s.context .right ≠ none := by
  simp [inhibitConditions, InhibitReasons.any, closed, lifterIdle_eq_false]

theorem LifterUpToGrant.idle_iff {v w : LifterUnit} (h : LifterUpToGrant v w) :
    w.context ≠ none ↔ v.context ≠ none := by
  have same := congrArg Option.isSome h.context
  rw [Option.isSome_map, Option.isSome_map] at same
  cases hv : v.context <;> cases hw : w.context <;> simp_all

/-! ### A step occupied (R39) -/

/-- The body with the step of a lifter read OCCUPIED. -/
def stepOccupied (l : Lifter) (s : State) : State :=
  s.withBody { s.body with steps := s.body.steps.set l (settled true) }

theorem stepReadingOccupied_due (awake : s.resetHeld = false) (h : settledTo true s (s.body.steps.get l) = true) :
    exec (.stepReadingOccupied l) s = .next (holdLifter l .step (stepOccupied l s)) :=
  congrArg Host.Outcome.next (if_pos ((readingChanges_awake awake ..).trans h))

theorem settle_early {level : Bool} {x : Debounced} (awake : s.resetHeld = false) (h : settledTo level s x = false) :
    ¬ readingChanges level s x = true := by
  rw [readingChanges_awake awake, h]
  exact Bool.false_ne_true

/-- Settles O32: the holds of an opening tailgate (`tailgateOpened_lifter`, `tailgateOpened_packer`), the cycles that
a closing one starts, and the hold of a step. -/
theorem tailgateAndStepsHold : Obligations.TailgateAndStepsHold := by
  intro l c s awake
  refine ⟨fun h law => ?_, fun h => ?_, fun h context holdable => ?_, fun h context held clear => ?_,
    fun h none => ?_, fun h => congrArg Host.Outcome.next (if_pos ((readingChanges_awake awake ..).trans h)),
    fun early => congrArg Host.Outcome.next (if_neg (settle_early awake early)),
    fun early => congrArg Host.Outcome.next (if_neg (settle_early awake early)),
    fun early => congrArg Host.Outcome.next (if_neg (settle_early awake early)),
    fun early => congrArg Host.Outcome.next (if_neg (settle_early awake early))⟩
  · have only := tailgateOpened_only s
    have gate : (tailgateOpened s).body.tailgate = settled false := by rw [tailgateOpened_body]
    have reason : (inhibitConditions (tailgateOpened s)).tailgate = true := by rw [inhibitConditions_eq, gate]; rfl
    refine ⟨_, tailgateReadingNotClosed_due awake h, (tailgateOpened_quiet s).trans (.of_ports_eq rfl), gate,
      by simp [evaluateInhibit, InhibitReasons.any, reason], reason, fun m d context => ?_, fun m => ?_,
      fun m d context holdable => ?_, fun once => ?_, fun st ph stroke => ⟨?_, tailgateOpened_record law stroke⟩,
      fun st ph r held => ?_, only.same .compartments (by decide), only.same .journal (by decide),
      only.same .tags (by decide), only.same .integrity (by decide),
      ⟨only.same .pending (by decide), only.same .resetHeld (by decide), only.same .bodyTimer (by decide),
        only.same .freeIndex (by decide), only.same .banks (by decide), only.same .bodyLimit (by decide),
        only.same .calib (by decide), only.same .access (by decide), only.same .loader (by decide)⟩⟩
    · have held := (tailgateOpened_context s m).symm.trans context
      obtain ⟨e, -, rfl⟩ := Option.map_eq_some_iff.mp held
      exact holdContext_phase .tailgate e
    · exact (congrArg Option.isSome (tailgateOpened_context s m)).trans Option.isSome_map
    · refine (tailgateOpened_context s m).trans ?_
      rw [context]
      exact congrArg some (holdContext_holdable .tailgate holdable)
    · have gone := tailgateOpened_windows s once
      exact ⟨gone.buffers, gone.queue, gone.going, gone.next, gone.results, gone.scan⟩
    · refine (tailgateOpened_packer s st).trans ?_
      simp only [holdPackUnit, stroke]
      rfl
    · have packer : (evaluateInhibit (tailgateOpened s)).packer st = holdPackUnit false (s.packer st) :=
        tailgateOpened_packer s st
      rw [packer]
      simp only [holdPackUnit, held]
      rfl
  · obtain ⟨b, turns⟩ := startPackers_turns (tailgateClosed s)
    have turn := tryStart_inTurn (s := tailgateClosed s) rfl
    have only := startPackers_only (tailgateClosed s)
    have body := startPackers_body (tailgateClosed s)
    have lifters := turn.lifters b
    have packer := turn.packer b
    have quiet := turn.portsQuiet b
    rw [← turns] at lifters packer quiet
    have gate : (startPackers (tailgateClosed s)).body.tailgate.reading = true := by rw [body]; rfl
    refine ⟨_, tailgateReadingClosed_due awake h, (quiet.after (s := s) rfl).trans (.of_ports_eq rfl), ?_, ?_, ?_, ?_,
      lifters, fun st stays => (packer st).stays stays, fun st idle mode pending running fresh =>
        (packer st).starts idle mode pending running fresh, only.same .scan (by decide), only.same .weigh (by decide),
      only.same .compartments (by decide), only.same .journal (by decide), only.same .tags (by decide),
      only.same .integrity (by decide),
      ⟨only.same .pending (by decide), only.same .resetHeld (by decide), only.same .bodyTimer (by decide), rfl,
        only.same .banks (by decide), only.same .bodyLimit (by decide), only.same .calib (by decide),
        only.same .access (by decide), only.same .loader (by decide)⟩⟩
    · simp only [evaluateInhibit, withBody_body, body]; rfl
    · simp only [evaluateInhibit, withBody_body, body]; rfl
    · simp only [evaluateInhibit, withBody_body, inhibitConditions_eq, gate]; rfl
    · refine (inhibit_any_iff gate).trans ?_
      rw [State.context, State.context, (lifters .left).idle_iff, (lifters .right).idle_iff]
      rfl
  · refine ⟨_, stepReadingOccupied_due awake h, (holdLifter_quiet l .step _).after (s := s) rfl, ?_⟩
    rw [holdLifter_moving .step (s := stepOccupied l s) context holdable]
    exact holdMoving_heldAfter l .step c (stepOccupied l s)
  · rw [stepReadingOccupied_due awake h, holdLifter_added (s := stepOccupied l s) (r := .step) context held clear]
    rfl
  · rw [stepReadingOccupied_due awake h]
    refine congrArg Host.Outcome.next ?_
    rcases none with idle | fault | ⟨held, has⟩
    · exact holdLifter_idle (s := stepOccupied l s) .step idle
    · exact holdLifter_fault (s := stepOccupied l s) .step fault
    · obtain ⟨d, context, phase⟩ : ∃ d, s.context l = some d ∧ d.phase = .held := by simpa [State.phase] using held
      rw [context] at has
      exact holdLifter_again (s := stepOccupied l s) (r := .step) context phase has

/-! ### The emergency stop (R34, R61, R80) -/

/-- A lifter with its valves off. -/
def valvesOff (v : LifterUnit) : LifterUnit := { v with raiseValve := false, lowerValve := false }

/-- A packer with its valves off. -/
def packValvesOff (k : Packer) : Packer := { k with extendValve := false, retractValve := false }

/-- The body at its entry into HALTED with the valves off and the flow arbiter emptied, before the holds. -/
def halting (s : State) : State := clearFlow (allValvesOff (s.withBody { s.body with state := .halted }))

theorem allValvesOff_lifter (s : State) (l : Lifter) : (allValvesOff s).lifter l = valvesOff (s.lifter l) := by
  cases l <;> rfl

theorem allValvesOff_packer (s : State) (st : Stream) : (allValvesOff s).packer st = packValvesOff (s.packer st) := by
  cases st <;> rfl

theorem halting_only (s : State) : Only (.body :: flowParts) s (halting s) :=
  ((withBody_only s _).both (allValvesOff_only _) (c := .body :: flowParts) (by decide) (by decide)).both
    (clearFlow_only _)
    (fun _ h => h) (by decide)

theorem clearFlow_flow (s : State) : (clearFlow s).flow.records = ⟨.none, .none, .none, .none⟩
    ∧ (clearFlow s).flow.waiting = [] ∧ (clearFlow s).flow.line = false := by
  unfold clearFlow
  rw [testLine_flow]
  exact ⟨rfl, rfl, rfl⟩

theorem halting_lifter (s : State) (l : Lifter) : (halting s).lifter l = valvesOff (s.lifter l) := by
  have same : (halting s).lifters = (allValvesOff (s.withBody { s.body with state := .halted })).lifters :=
    (clearFlow_only _).same .lifters (by decide)
  rw [State.lifter, same]
  exact allValvesOff_lifter _ l

theorem halting_packer (s : State) (st : Stream) : (halting s).packer st = packValvesOff (s.packer st) := by
  have same : (halting s).packers = (allValvesOff (s.withBody { s.body with state := .halted })).packers :=
    (clearFlow_only _).same .packers (by decide)
  rw [State.packer, same]
  exact allValvesOff_packer _ st

theorem halting_body (s : State) : (halting s).body = { s.body with state := .halted } :=
  (((allValvesOff_only (s.withBody { s.body with state := .halted })).both (clearFlow_only _) (c := flowParts)
    (by decide) (by decide)).same .body (by decide) :)

/-- A hold of a lifter without a record leaves the flow arbiter as it is. -/
theorem holdLifter_flow {r : HoldReason} (none : s.flow.records.get (.lifter l) = .none) :
    (holdLifter l r s).flow = s.flow := by
  unfold holdLifter
  split
  · rfl
  · split
    · rfl
    · split <;> rfl
    · exact holdMoving_flow none

theorem haltPacker_self (s : State) (st : Stream) : (haltPacker st s).packer st =
    if (s.packer st).state = .fault then s.packer st
    else { stopPacker (s.packer st) with state := .halted, stopRequested := false } := by
  unfold haltPacker
  split
  · rfl
  · exact packer_withPacker_self _ _ _

theorem haltPacker_of_ne {su : Stream} (s : State) (ne : su ≠ st) : (haltPacker st s).packer su = s.packer su := by
  unfold haltPacker
  split
  · rfl
  · exact packer_withPacker_of_ne _ _ _ _ ne

/-- Both packers at the entry into HALTED (R80). -/
def haltPackers (s : State) : State := haltPacker .recycle (haltPacker .residual s)

theorem haltPackers_only (s : State) : Only [.packers] s (haltPackers s) :=
  (haltPacker_only .residual s).step (haltPacker_only .recycle _)

theorem haltPackers_packer (s : State) (st : Stream) : (haltPackers s).packer st =
    if (s.packer st).state = .fault then s.packer st
    else { stopPacker (s.packer st) with state := .halted, stopRequested := false } := by
  cases st with
  | residual => rw [haltPackers, haltPacker_of_ne _ (by decide), haltPacker_self]
  | recycle => rw [haltPackers, haltPacker_self, haltPacker_of_ne _ (by decide)]

theorem enterHalted_eq (s : State) : enterHalted s = latchAll .estop (haltPackers (holdBoth .estop (halting s))) := rfl

theorem halted_fields (s : State) : (enterHalted s).lifters = (holdBoth .estop (halting s)).lifters
    ∧ (enterHalted s).flow = (holdBoth .estop (halting s)).flow
    ∧ (enterHalted s).body = (holdBoth .estop (halting s)).body := by
  have only : Only [.packers, .ports] (holdBoth .estop (halting s)) (enterHalted s) :=
    (haltPackers_only _).both (latchAll_only .estop _) (by decide) (by decide)
  exact ⟨only.same .lifters (by decide), only.same .flow (by decide), only.same .body (by decide)⟩

theorem enterHalted_quiet (s : State) : PortsQuiet s (enterHalted s) ∧ LatchedAll .estop (enterHalted s) := by
  have cleared : PortsQuiet s (halting s) :=
    (Operates.refl.clearFlow.quiet : PortsQuiet (allValvesOff (s.withBody { s.body with state := .halted })) _).after
      ((allValvesOff_only (s.withBody { s.body with state := .halted })).same .ports (by decide))
  have held := cleared.trans (holdBoth_quiet .estop (halting s))
  have halted : PortsQuiet s (haltPackers (holdBoth .estop (halting s))) :=
    held.trans (.of_ports_eq ((haltPackers_only _).same .ports (by decide)))
  exact ⟨halted.trans (latchAll_quiet _ _), latchAll_latchedAll _ _⟩

theorem enterHalted_lifter (s : State) (l : Lifter) :
    (enterHalted s).lifter l = holdUnit .estop (valvesOff (s.lifter l)) := by
  obtain ⟨lifters, -, -⟩ := halted_fields s
  rw [State.lifter, lifters]
  exact (holdBoth_lifter .estop (halting s) l).trans (by rw [halting_lifter])

theorem enterHalted_context (s : State) (l : Lifter) :
    (enterHalted s).context l = (s.context l).map (holdContext .estop) := by
  rw [State.context, enterHalted_lifter, holdUnit_context]
  rfl

theorem holdUnit_valves (r : HoldReason) (v : LifterUnit) : (holdUnit r (valvesOff v)).raiseValve = false
    ∧ (holdUnit r (valvesOff v)).lowerValve = false := by
  unfold holdUnit
  split
  · exact ⟨rfl, rfl⟩
  · split <;> exact ⟨rfl, rfl⟩

theorem enterHalted_flow (s : State) : (enterHalted s).flow.records = ⟨.none, .none, .none, .none⟩
    ∧ (enterHalted s).flow.waiting = [] ∧ (enterHalted s).flow.line = false := by
  obtain ⟨-, flow, -⟩ := halted_fields s
  have cleared := clearFlow_flow (allValvesOff (s.withBody { s.body with state := .halted }))
  have none (x : Consumer) : (halting s).flow.records.get x = .none := by
    rw [show (halting s).flow.records = _ from cleared.1]
    cases x with
    | lifter l => cases l <;> rfl
    | packer st => cases st <;> rfl
  have left : (holdLifter .left .estop (halting s)).flow = (halting s).flow := holdLifter_flow (none _)
  have both : (holdBoth .estop (halting s)).flow = (halting s).flow :=
    (holdLifter_flow (by rw [left]; exact none _)).trans left
  rw [flow, both]
  exact cleared

theorem enterHalted_packer (s : State) (st : Stream) : (enterHalted s).packer st =
    if (s.packer st).state = .fault then packValvesOff (s.packer st)
    else { stopPacker (s.packer st) with state := .halted, stopRequested := false } := by
  have seen := (holdBoth_seen .estop (halting s)).packers st (by cases st <;> decide)
  rw [halting_packer] at seen
  have state : ((holdBoth .estop (halting s)).packer st).state = (s.packer st).state := seen.1.state
  have halted : (enterHalted s).packer st = (haltPackers (holdBoth .estop (halting s))).packer st := rfl
  rw [halted, haltPackers_packer, state]
  split
  · next fault =>
    refine seen.2 fun ph stroke => ?_
    have := stroke.symm.trans fault
    cases this
  · have same : stopPacker ((holdBoth .estop (halting s)).packer st) = stopPacker (s.packer st) := seen.1
    rw [same]

theorem enterHalted_state (s : State) : (enterHalted s).body = { s.body with state := .halted } := by
  obtain ⟨-, -, body⟩ := halted_fields s
  rw [body, show (holdBoth .estop (halting s)).body = (halting s).body from (holdBoth_only _ _).same .body (by decide),
    halting_body]

theorem enterHalted_windows (s : State) (once : s.weigh.queue.Nodup) : WindowsGone s (enterHalted s) := by
  have only := halting_only s
  have contexts (l : Lifter) : LifterUpToGrant (s.lifter l) ((halting s).lifter l) := by rw [halting_lifter]; rfl
  have held : WindowsFollow s (holdBoth .estop (halting s)) :=
    ((WindowsFollow.refl s).still (only.same .scan (by decide)) (only.same .weigh (by decide))
      (only.same .bodyTimer (by decide)) (only.same .calib (by decide)) contexts).holdBoth once _
  have late : Only [.packers, .ports] (holdBoth .estop (halting s)) (enterHalted s) :=
    (haltPackers_only _).both (latchAll_only .estop _) (by decide) (by decide)
  have lifters : (enterHalted s).lifters = (holdBoth .estop (halting s)).lifters := late.same .lifters (by decide)
  have units (l : Lifter) : LifterUpToGrant ((holdBoth .estop (halting s)).lifter l) ((enterHalted s).lifter l) := by
    rw [State.lifter, State.lifter, lifters]
    rfl
  refine (held.still (late.same .scan (by decide)) (late.same .weigh (by decide)) (late.same .bodyTimer (by decide))
    (late.same .calib (by decide)) units).windowsGone fun l => ?_
  exact (weighing_congr (units l).context).trans (holdBoth_rests _ _ l)

/-- The body with the stop read ACTIVE. -/
def stopActive (s : State) : State := s.withBody { s.body with estop := settled true }

theorem estopReadingActive_due (awake : s.resetHeld = false) (h : settledTo true s s.body.estop = true) :
    exec .estopReadingActive s = .next (if s.body.state = .running then enterHalted (stopActive s) else stopActive s) :=
  congrArg Host.Outcome.next (if_pos ((readingChanges_awake awake ..).trans h))

/-- Settles O31: the entry into HALTED (`enterHalted_lifter`, `enterHalted_packer`, `enterHalted_flow`). -/
theorem emergencyStopHalts : Obligations.EmergencyStopHalts := by
  intro s awake
  refine ⟨fun h running => ?_, fun h other => (estopReadingActive_due awake h).trans (congrArg _ (if_neg other)),
    fun h => congrArg Host.Outcome.next (if_pos ((readingChanges_awake awake ..).trans h)),
    fun early => congrArg Host.Outcome.next (if_neg (settle_early awake early)),
    fun early => congrArg Host.Outcome.next (if_neg (settle_early awake early))⟩
  obtain ⟨quiet, event⟩ := enterHalted_quiet (stopActive s)
  obtain ⟨records, waiting, line⟩ := enterHalted_flow (stopActive s)
  have only := enterHalted_only (stopActive s)
  have context (l : Lifter) : (enterHalted (stopActive s)).context l = (s.context l).map (holdContext .estop) :=
    enterHalted_context (stopActive s) l
  have packer (st : Stream) := enterHalted_packer (stopActive s) st
  refine ⟨_, (estopReadingActive_due awake h).trans (congrArg _ (if_pos running)), quiet.after (s := s) rfl, event,
    enterHalted_state (stopActive s), fun l => ?_, fun st => ?_, records, waiting, line, fun l c old holdable => ?_,
    fun l c old held => ?_, fun l still => ?_, fun once => ?_, fun st fault => ?_, fun st other => ?_,
    only.same .compartments (by decide), only.same .journal (by decide), only.same .tags (by decide),
    only.same .integrity (by decide),
    ⟨only.same .pending (by decide), only.same .resetHeld (by decide), only.same .bodyTimer (by decide),
      only.same .freeIndex (by decide), only.same .banks (by decide), only.same .bodyLimit (by decide),
      only.same .calib (by decide), only.same .access (by decide), only.same .loader (by decide)⟩⟩
  · rw [enterHalted_lifter]
    exact holdUnit_valves _ _
  · rw [packer st]
    split <;> exact ⟨rfl, rfl⟩
  · rw [context, old]
    exact congrArg some (holdContext_holdable .estop holdable)
  · rw [context, old]
    exact congrArg some (holdContext_held .estop held)
  · rw [context]
    rcases still with idle | fault
    · rw [idle]
      rfl
    · obtain ⟨d, old, phase⟩ : ∃ d, s.context l = some d ∧ d.phase = .fault := by simpa [State.phase] using fault
      rw [old]
      exact congrArg some (holdContext_fault .estop phase)
  · have gone := enterHalted_windows (stopActive s) once
    exact ⟨gone.buffers, gone.queue, gone.going, gone.next, gone.results, gone.scan⟩
  · rw [packer st, if_pos (by exact fault)]
    rfl
  · exact (packer st).trans (if_neg (by exact other))

end Sys2Proof.Safety
end

section
/-! SUPPORT. A supply that falls to 0 (R60): holds of consumers without a record, grant evaluations without supply,
and what `revokeAll` leaves of each consumer. -/

namespace Sys2Proof.Safety

open Sys2Proof.Machine

variable {s t u : State} {l m : Lifter} {c : LiftContext} {st : Stream} {x : Consumer} {f : Machine.Flow}

/-! ### The supply is the arbiter's own -/

theorem grantLoop_supply (n : Nat) (s : State) :
    (grantLoop n s).flow.engine = s.flow.engine ∧ (grantLoop n s).flow.supply = s.flow.supply := by
  induction n generalizing s with
  | zero => exact ⟨rfl, rfl⟩
  | succ n ih =>
    unfold grantLoop
    split
    · exact ⟨rfl, rfl⟩
    · next y _ =>
      split
      · have flow := grantOne_flow y s
        obtain ⟨engine, supply⟩ := ih (grantOne y s)
        rw [engine, supply, flow]
        exact ⟨rfl, rfl⟩
      · exact ⟨rfl, rfl⟩

theorem evaluateGrants_supply (s : State) :
    (evaluateGrants s).flow.engine = s.flow.engine ∧ (evaluateGrants s).flow.supply = s.flow.supply := by
  unfold evaluateGrants
  rw [testLine_flow]
  split
  · exact grantLoop_supply _ s
  · exact ⟨rfl, rfl⟩

theorem giveBackFlow_supply (x : Consumer) (s : State) :
    (giveBackFlow x s).flow.engine = s.flow.engine ∧ (giveBackFlow x s).flow.supply = s.flow.supply := by
  obtain ⟨-, same⟩ | dropped := giveBackFlow_cases x s
  · rw [same]
    exact ⟨rfl, rfl⟩
  · rw [dropped]
    exact evaluateGrants_supply (dropRecord x s)

/-- A hold of a lifter as the flow arbiter sees it: the lifter's record given back, or nothing. -/
theorem holdLifter_flow_cases (r : HoldReason) (s : State) (l : Lifter) :
    (holdLifter l r s).flow = s.flow ∧ (holdLifter l r s).packers = s.packers
      ∨ ∃ v, (holdLifter l r s).flow = (giveBackFlow (.lifter l) (s.withLifter l v)).flow
        ∧ (holdLifter l r s).packers = (giveBackFlow (.lifter l) (s.withLifter l v)).packers := by
  unfold holdLifter
  split
  · exact .inl ⟨rfl, rfl⟩
  · next c _ =>
    split
    · exact .inl ⟨rfl, rfl⟩
    · split <;> exact .inl ⟨rfl, rfl⟩
    · have only := holdWithdraws_only l r c s
      exact .inr ⟨heldUnit (s.lifter l) r c, only.same .flow (by decide), only.same .packers (by decide)⟩

theorem holdLifter_supply (r : HoldReason) (s : State) (l : Lifter) :
    (holdLifter l r s).flow.engine = s.flow.engine ∧ (holdLifter l r s).flow.supply = s.flow.supply := by
  obtain ⟨same, -⟩ | ⟨v, given, -⟩ := holdLifter_flow_cases r s l
  · rw [same]
    exact ⟨rfl, rfl⟩
  · rw [given]
    exact giveBackFlow_supply _ (s.withLifter l v)

theorem holdBoth_supply (r : HoldReason) (s : State) :
    (holdBoth r s).flow.engine = s.flow.engine ∧ (holdBoth r s).flow.supply = s.flow.supply := by
  obtain ⟨engine, supply⟩ := holdLifter_supply r s .left
  obtain ⟨engine', supply'⟩ := holdLifter_supply r (holdLifter .left r s) .right
  exact ⟨engine'.trans engine, supply'.trans supply⟩

/-! ### Without supply nothing is granted -/

/-- The arbiter has no supply, and every waiting request asks for some. -/
structure Starved (f : Machine.Flow) : Prop where
  supply : f.supply = 0
  asks : ∀ x ∈ f.waiting, 0 < demandOf f x

theorem evaluateGrants_starved (h : Starved s.flow) : evaluateGrants s = testLine s := by
  have still (n : Nat) : grantLoop n s = s := by
    cases n with
    | zero => rfl
    | succ n =>
      unfold grantLoop
      split
      · rfl
      · next y head =>
        refine if_neg fun fits => ?_
        have asks := h.asks y (headRequest_mem head)
        rw [h.supply] at fits
        omega
  unfold evaluateGrants
  rw [still]
  split <;> rfl

theorem testLine_starved (h : Starved s.flow) : Starved (testLine s).flow := by
  rw [testLine_flow]
  exact ⟨h.supply, h.asks⟩

theorem dropRecord_starved (x : Consumer) (h : Starved s.flow) : Starved (dropRecord x s).flow := by
  refine ⟨h.supply, fun y listed => ?_⟩
  obtain ⟨early, ne⟩ := List.mem_filter.mp listed
  have kept : demandOf (dropRecord x s).flow y = demandOf s.flow y :=
    congrArg recordDemand (PerConsumer.get_set_of_ne _ _ _ _ (of_decide_eq_true ne))
  rw [kept]
  exact h.asks y early

/-- What a hold of lifters leaves of a starved arbiter and of the packers. -/
structure Drained (s t : State) : Prop where
  starved : Starved t.flow
  packers : t.packers = s.packers
  packRecords : ∀ st, t.flow.records.get (.packer st) = s.flow.records.get (.packer st)
  records : ∀ x, t.flow.records.get x = s.flow.records.get x ∨ t.flow.records.get x = .none

theorem Drained.trans (h : Drained s t) (k : Drained t u) : Drained s u where
  starved := k.starved
  packers := k.packers.trans h.packers
  packRecords st := (k.packRecords st).trans (h.packRecords st)
  records x := by
    rcases k.records x with same | none
    · rw [same]
      exact h.records x
    · exact .inr none

theorem Drained.granted (h : Drained s t) (x : Consumer) (none : isGranted (s.flow.records.get x) = false) :
    isGranted (t.flow.records.get x) = false := by
  rcases h.records x with same | gone
  · rw [same, none]
  · rw [gone]
    rfl

theorem holdLifter_drained (r : HoldReason) (l : Lifter) (h : Starved s.flow) : Drained s (holdLifter l r s) := by
  obtain ⟨flow, packers⟩ | ⟨v, flow, packers⟩ := holdLifter_flow_cases r s l
  · exact ⟨by rw [flow]; exact h, packers, fun st => by rw [flow], fun x => .inl (by rw [flow])⟩
  · obtain ⟨-, same⟩ | dropped := giveBackFlow_cases (.lifter l) (s.withLifter l v)
    · rw [same] at flow packers
      exact ⟨by rw [flow]; exact h, packers, fun st => by rw [flow]; rfl, fun x => .inl (by rw [flow]; rfl)⟩
    · have starved := dropRecord_starved (s := s.withLifter l v) (.lifter l) h
      rw [dropped, evaluateGrants_starved starved] at flow packers
      have after := testLine_starved starved
      have tested : (testLine (dropRecord (.lifter l) (s.withLifter l v))).packers = s.packers :=
        (testLine_only _).same .packers (by decide)
      have records : (holdLifter l r s).flow.records = s.flow.records.set (.lifter l) .none := by
        rw [flow, testLine_flow]
        rfl
      refine ⟨by rw [flow]; exact after, packers.trans tested, fun st => ?_, fun x => ?_⟩
      · rw [records, PerConsumer.get_set_of_ne _ _ _ _ (by simp)]
      · rw [records]
        by_cases hx : x = .lifter l
        · rw [hx, PerConsumer.get_set_self]
          exact .inr rfl
        · rw [PerConsumer.get_set_of_ne _ _ _ _ hx]
          exact .inl rfl

theorem holdBoth_drained (r : HoldReason) (h : Starved s.flow) : Drained s (holdBoth r s) :=
  have left := holdLifter_drained r .left h
  left.trans (holdLifter_drained r .right left.starved)

/-! ### Holds of consumers without a record -/

/-- A hold for flow of a consumer whose record is gone reaches that consumer alone. -/
structure HeldAlone (x : Consumer) (s t : State) : Prop where
  flow : t.flow = s.flow
  lifters : ∀ l, t.lifter l = if x = .lifter l then holdUnit .flow (s.lifter l) else s.lifter l
  packers : ∀ st, t.packer st = if x = .packer st then holdPackUnit true (s.packer st) else s.packer st

theorem holdLifter_of_ne {r : HoldReason} (none : s.flow.records.get (.lifter l) = .none) (ne : m ≠ l) :
    (holdLifter l r s).lifter m = s.lifter m := by
  unfold holdLifter
  split
  · rfl
  · next c _ =>
    split
    · rfl
    · split
      · rfl
      · exact lifter_withLifter_of_ne _ _ _ _ ne
    · have given : holdGivesBack l r c s = s.withLifter l (heldUnit (s.lifter l) r c) := giveBackFlow_none none
      have same : (holdMoving l r c s).lifters = (s.withLifter l (heldUnit (s.lifter l) r c)).lifters := by
        rw [← given]
        exact (holdWithdraws_only l r c s).same .lifters (by decide)
      rw [State.lifter, same]
      exact lifter_withLifter_of_ne _ _ _ _ ne

theorem holdConsumer_alone (none : s.flow.records.get x = .none) : HeldAlone x s (holdConsumer x s) := by
  cases x with
  | lifter l =>
    refine ⟨holdLifter_flow none, fun m => ?_, fun st => ?_⟩
    · split
      · next same =>
        obtain rfl : l = m := Consumer.lifter.inj same
        exact holdLifter_unit .flow s l
      · next other => exact holdLifter_of_ne none fun same => other (by rw [same])
    · have packers : (holdLifter l .flow s).packers = s.packers := by
        obtain ⟨-, packers⟩ | ⟨v, -, packers⟩ := holdLifter_flow_cases .flow s l
        · exact packers
        · rw [packers, giveBackFlow_none (by exact none)]
          rfl
      rw [if_neg (by simp), State.packer, holdConsumer, packers]
      rfl
  | packer su =>
    have parts : (holdPacker su true s).flow = s.flow ∧ (holdPacker su true s).lifters = s.lifters
        ∧ ∀ st, st ≠ su → (holdPacker su true s).packer st = s.packer st := by
      cases state : (s.packer su).state with
      | stroke ph =>
        rw [holdPacker_vacant none state]
        exact ⟨rfl, rfl, fun st ne => packer_withPacker_of_ne _ _ _ _ ne⟩
      | held ph r =>
        simp only [holdPacker, state]
        exact ⟨rfl, rfl, fun st ne => packer_withPacker_of_ne _ _ _ _ ne⟩
      | _ => simp [holdPacker, state]
    obtain ⟨flow, lifters, others⟩ := parts
    refine ⟨flow, fun m => ?_, fun st => ?_⟩
    · rw [if_neg (by simp), State.lifter, holdConsumer, lifters]
      rfl
    · split
      · next same =>
        obtain rfl : su = st := Consumer.packer.inj same
        exact holdPacker_unit true s su
      · next other => exact others st fun same => other (by rw [same])

/-! ### The revocations one after another -/

/-- The revocations of the consumers in xs, from a state in which their records are gone. -/
structure Revoked (was : PerConsumer FlowRecord) (xs : List Consumer) (s t : State) : Prop where
  flow : t.flow = s.flow
  lifters : ∀ l, t.lifter l =
    if Consumer.lifter l ∈ xs ∧ isGranted (was.get (.lifter l)) = true then holdUnit .flow (s.lifter l) else s.lifter l
  packers : ∀ st, t.packer st =
    if Consumer.packer st ∈ xs ∧ isGranted (was.get (.packer st)) = true then holdPackUnit true (s.packer st)
    else s.packer st
  event : ∀ l c, Consumer.lifter l ∈ xs → isGranted (was.get (.lifter l)) = true → s.context l = some c →
    isHoldable c.phase = true → LatchedAll .liftHeld t
  quiet : PortsQuiet s t

theorem holdConsumer_quiet (x : Consumer) (s : State) : PortsQuiet s (holdConsumer x s) := by
  cases x with
  | lifter l => exact holdLifter_quiet l .flow s
  | packer st => exact (Operates.refl.holdPacker st true).quiet

theorem revoke_all (was : PerConsumer FlowRecord) (xs : List Consumer) (once : xs.Nodup)
    (gone : ∀ x ∈ xs, isGranted (was.get x) = true → s.flow.records.get x = .none) :
    Revoked was xs s (xs.foldl (handRevocation was) s) := by
  induction xs generalizing s with
  | nil => exact ⟨rfl, fun l => by simp, fun st => by simp, fun l c h => by simp at h, .refl s⟩
  | cons x xs ih =>
    obtain ⟨absent, once'⟩ := List.nodup_cons.mp once
    cases granted : isGranted (was.get x) with
    | false =>
      have step : handRevocation was s x = s := by rw [handRevocation, granted]; rfl
      have rest := ih once' fun y hy => gone y (List.mem_cons_of_mem _ hy)
      rw [List.foldl_cons, step]
      have other {y : Consumer} (g : isGranted (was.get y) = true) : y ≠ x := fun same => by
        rw [same, granted] at g
        cases g
      refine ⟨rest.flow, fun l => ?_, fun st => ?_, fun l c listed g => ?_, rest.quiet⟩
      · rw [rest.lifters]
        refine if_congr ⟨fun ⟨a, g⟩ => ⟨List.mem_cons_of_mem _ a, g⟩, fun ⟨a, g⟩ => ⟨?_, g⟩⟩ rfl rfl
        exact (List.mem_cons.mp a).resolve_left (other g)
      · rw [rest.packers]
        refine if_congr ⟨fun ⟨a, g⟩ => ⟨List.mem_cons_of_mem _ a, g⟩, fun ⟨a, g⟩ => ⟨?_, g⟩⟩ rfl rfl
        exact (List.mem_cons.mp a).resolve_left (other g)
      · exact rest.event l c ((List.mem_cons.mp listed).resolve_left (other g)) g
    | true =>
      have step : handRevocation was s x = holdConsumer x s := by rw [handRevocation, granted]; rfl
      have alone := holdConsumer_alone (gone x List.mem_cons_self granted)
      have rest := ih (s := holdConsumer x s) once' fun y hy g => by
        rw [alone.flow]
        exact gone y (List.mem_cons_of_mem _ hy) g
      rw [List.foldl_cons, step]
      have quiet := holdConsumer_quiet x s
      refine ⟨rest.flow.trans alone.flow, fun l => ?_, fun st => ?_, fun l c listed g context holdable => ?_,
        quiet.trans rest.quiet⟩
      · rw [rest.lifters, alone.lifters]
        by_cases hx : x = .lifter l
        · subst hx
          simp [absent, granted]
        · simp [hx, Ne.symm hx]
      · rw [rest.packers, alone.packers]
        by_cases hx : x = .packer st
        · subst hx
          simp [absent, granted]
        · simp [hx, Ne.symm hx]
      · by_cases hx : Consumer.lifter l = x
        · subst hx
          have held : holdConsumer (.lifter l) s = holdMoving l .flow c s := holdLifter_moving .flow context holdable
          exact LatchedAll.of_quiet (by rw [held]; exact latchAll_latchedAll _ _) rest.quiet
        · refine rest.event l c ((List.mem_cons.mp listed).resolve_left hx) g ?_ holdable
          rw [State.context, alone.lifters, if_neg (Ne.symm hx)]
          exact context

theorem WindowsFollow.revoke (h : WindowsFollow s t) (once : s.weigh.queue.Nodup) (was : PerConsumer FlowRecord)
    (xs : List Consumer) : WindowsFollow s (xs.foldl (handRevocation was) t) := by
  induction xs generalizing t with
  | nil => exact h
  | cons x xs ih =>
    refine ih ?_
    unfold handRevocation
    split
    · cases x with
      | lifter l => exact h.hold once l .flow
      | packer st =>
        have only := holdPacker_only st true t
        exact h.still (only.same .scan (by decide)) (only.same .weigh (by decide)) (only.same .bodyTimer (by decide))
          (only.same .calib (by decide)) fun l => ((holdPacker_seen true t st).lifters l (by simp)).1
    · exact h

theorem revokeRecords_get (r : PerConsumer FlowRecord) (x : Consumer) :
    (revokeRecords r).get x = revokeRecord (r.get x) := by
  cases x with
  | lifter l => cases l <;> rfl
  | packer st => cases st <;> rfl

/-- The flow arbiter with its supply gone and every grant revoked (R60). -/
def supplyGone (s : State) : State :=
  testLine (s.withFlow { s.flow with records := revokeRecords s.flow.records })

theorem revokeAll_revoked (s : State) : Revoked s.flow.records allConsumers (supplyGone s) (revokeAll s) := by
  refine revoke_all _ _ (by decide) fun x _ granted => ?_
  rw [supplyGone, testLine_flow]
  change (revokeRecords s.flow.records).get x = .none
  rw [revokeRecords_get]
  cases record : s.flow.records.get x <;> simp_all [isGranted, revokeRecord]

theorem mem_allConsumers (x : Consumer) : x ∈ allConsumers := by
  cases x with
  | lifter l => cases l <;> decide
  | packer st => cases st <;> decide

end Sys2Proof.Safety
end

section
/-! PROOFS. Vehicle Data, its freshness and the route clock (O30). -/

namespace Sys2Proof.Safety

open Sys2Proof.Machine

variable {s t u : State} {l m : Lifter} {c : LiftContext} {st : Stream} {x : Consumer} {f : Machine.Flow}
  {e before : EngineState} {v : VehicleData} {d : List Byte} {p : Port} {n kb : Byte}

/-! ### The engine state handed to the flow arbiter (R51, R59, R60) -/

theorem supplyOf_injective (h : supplyOf e = supplyOf before) : e = before := by
  cases e <;> cases before <;> simp_all [supplyOf]

/-- What the flow law says of the arbiter, the engine state before being named. -/
structure Fed (before : EngineState) (f : Machine.Flow) : Prop where
  engine : f.engine = before
  supply : f.supply = supplyOf before
  asks : ∀ x ∈ f.waiting, 0 < demandOf f x
  granted : ∀ x u, f.records.get x = .granted u → x ∉ f.waiting
  off : before = .off → ∀ x, isGranted (f.records.get x) = false
  line : lineWanted f = f.line

theorem FlowLaw.fed (law : FlowLaw s) : Fed (effectiveEngine s.body) s.flow where
  engine := law.engine
  supply := law.supply.trans (congrArg supplyOf law.engine)
  asks x listed := by
    have waits := (law.listed x).mp listed
    cases record : s.flow.records.get x with
    | waiting d since =>
      rw [demandOf, record]
      exact law.demands x d since record
    | none => rw [record] at waits; cases waits
    | granted u => rw [record] at waits; cases waits
  granted x u record listed := by
    have waits := (law.listed x).mp listed
    rw [record] at waits
    cases waits
  off off := law.stopped (.inr (law.engine.trans off))
  line := by
    have line := law.line
    rw [Bool.eq_iff_iff, line, lineWanted, Bool.or_eq_true, List.any_eq_true]
    simp only [decide_eq_true_eq]
    rfl

/-- The arbiter with another engine state and its supply (R51). -/
def engineSet (e : EngineState) (s : State) : State :=
  s.withFlow { s.flow with engine := e, supply := supplyOf e }

theorem handEngineChange_same (h : effectiveEngine s.body = before) : handEngineChange before s = s := if_pos h

theorem handEngineChange_off (fed : Fed before s.flow) (h : effectiveEngine s.body = .off) (ne : .off ≠ before) :
    handEngineChange before s = evaluateGrants (revokeAll (engineSet .off s)) := by
  rw [handEngineChange, if_neg (by rw [h]; exact ne), h, handEngine,
    if_neg (by rw [fed.supply]; exact fun same => ne (supplyOf_injective same))]
  rfl

theorem handEngineChange_on (fed : Fed before s.flow) (h : effectiveEngine s.body = e) (ne : e ≠ before)
    (on : e ≠ .off) : handEngineChange before s = evaluateGrants (engineSet e s) := by
  rw [handEngineChange, if_neg (by rw [h]; exact ne), h, handEngine,
    if_neg (by rw [fed.supply]; exact fun same => ne (supplyOf_injective same))]
  exact if_neg fun zero => on (supplyOf_injective (before := .off) zero)

theorem engineSet_off_starved (fed : Fed before s.flow) : Starved (supplyGone (engineSet .off s)).flow := by
  refine testLine_starved ⟨rfl, fun x listed => ?_⟩
  have asks := fed.asks x listed
  change 0 < recordDemand ((revokeRecords s.flow.records).get x)
  rw [revokeRecords_get]
  cases record : s.flow.records.get x with
  | granted units => exact absurd listed (fed.granted x units record)
  | none => rw [demandOf, record] at asks; exact asks
  | waiting w since => rw [demandOf, record] at asks; exact asks

/-- What an engine state handed over does, whatever it was before. -/
structure EngineHanded (e : EngineState) (s t : State) : Prop where
  engine : t.flow.engine = e ∧ t.flow.supply = supplyOf e
  seen : e ≠ .off → Seen [] s t
  starved : e = .off → Starved t.flow
  none : e = .off → ∀ x, isGranted (t.flow.records.get x) = false
  lifters : e = .off → ∀ l, t.lifter l =
    if isGranted (s.flow.records.get (.lifter l)) = true then holdUnit .flow (s.lifter l) else s.lifter l
  packers : e = .off → ∀ st, t.packer st =
    if isGranted (s.flow.records.get (.packer st)) = true then holdPackUnit true (s.packer st) else s.packer st
  records : e = .off → ∀ x, t.flow.records.get x = revokeRecord (s.flow.records.get x)
  event : e = .off → ∀ l c, isGranted (s.flow.records.get (.lifter l)) = true → s.context l = some c →
    isHoldable c.phase = true → LatchedAll .liftHeld t
  quiet : PortsQuiet s t
  only : Only liftParts s t
  granted : e ≠ .off → ∀ x u, s.flow.records.get x = .granted u → t.flow.records.get x = .granted u

theorem evaluateGrants_revoked (fed : Fed before s.flow) :
    EngineHanded .off s (evaluateGrants (revokeAll (engineSet .off s))) := by
  have revoked := revokeAll_revoked (engineSet .off s)
  have starved : Starved (revokeAll (engineSet .off s)).flow := by
    rw [revoked.flow]
    exact engineSet_off_starved fed
  have early : Only [.flow, .ports] s (supplyGone (engineSet .off s)) :=
    ((withFlow_only s _).step (withFlow_only _ _)).both (testLine_only _) (by decide) (by decide)
  have lifters : (supplyGone (engineSet .off s)).lifters = s.lifters := early.same .lifters (by decide)
  have packers : (supplyGone (engineSet .off s)).packers = s.packers := early.same .packers (by decide)
  have late := testLine_only (revokeAll (engineSet .off s))
  have lifters' : (testLine (revokeAll (engineSet .off s))).lifters = (revokeAll (engineSet .off s)).lifters :=
    late.same .lifters (by decide)
  have packers' : (testLine (revokeAll (engineSet .off s))).packers = (revokeAll (engineSet .off s)).packers :=
    late.same .packers (by decide)
  have records (x : Consumer) : (testLine (revokeAll (engineSet .off s))).flow.records.get x =
      revokeRecord (s.flow.records.get x) := by
    rw [testLine_flow, revoked.flow, supplyGone, testLine_flow]
    exact revokeRecords_get _ x
  have operates : Operates s (testLine (revokeAll (engineSet .off s))) := (Operates.refl.flow _).revokeAll.testLine
  rw [evaluateGrants_starved starved]
  refine
    { engine := by
        rw [testLine_flow, revoked.flow, supplyGone, testLine_flow]
        exact ⟨rfl, rfl⟩
      seen := fun on => absurd rfl on
      starved := fun _ => testLine_starved starved
      none := fun _ x => by
        rw [records]
        cases s.flow.records.get x <;> rfl
      lifters := fun _ l => by
        rw [State.lifter, lifters']
        refine (revoked.lifters l).trans ?_
        rw [State.lifter, lifters]
        exact if_congr ⟨fun h => h.2, fun h => ⟨mem_allConsumers _, h⟩⟩ rfl rfl
      packers := fun _ st => by
        rw [State.packer, packers']
        refine (revoked.packers st).trans ?_
        rw [State.packer, packers]
        exact if_congr ⟨fun h => h.2, fun h => ⟨mem_allConsumers _, h⟩⟩ rfl rfl
      records := fun _ => records
      event := fun _ l c granted context holdable => ?_
      quiet := operates.quiet
      only := ((withFlow_only s _).both (revokeAll_only _) (c := liftParts) (by decide) (fun _ h => h)).both late
        (fun _ h => h) (by decide)
      granted := fun on => absurd rfl on }
  refine LatchedAll.of_quiet (revoked.event l c (mem_allConsumers _) granted ?_ holdable)
    (Operates.refl.testLine).quiet
  rw [State.context, State.lifter, lifters]
  exact context

theorem evaluateGrants_engineSet (fed : Fed before s.flow) (on : e ≠ .off) :
    EngineHanded e s (evaluateGrants (engineSet e s)) where
  engine := evaluateGrants_supply (engineSet e s)
  seen _ := by
    have set : Seen [] s (engineSet e s) := ⟨fun _ _ => .refl _, fun _ _ => .refl _, fun o => ⟨o, fun _ h => h⟩⟩
    exact set.trans (evaluateGrants_seen _)
  starved off := absurd off on
  none off := absurd off on
  lifters off := absurd off on
  packers off := absurd off on
  records off := absurd off on
  event off := absurd off on
  quiet := (Operates.evaluateGrants (Operates.refl.flow _)).quiet
  only := (withFlow_only s _).both (evaluateGrants_only _) (by decide) (by decide)
  granted _ x u record :=
    ((evaluateGrants_grantsOnly (engineSet e s)).records x (fed.granted x u record)).trans record

theorem handEngineChange_handed (fed : Fed before s.flow) :
    EngineHanded (effectiveEngine s.body) s (handEngineChange before s) := by
  by_cases same : effectiveEngine s.body = before
  · rw [handEngineChange_same same]
    have plain (off : effectiveEngine s.body = .off) (x : Consumer) : isGranted (s.flow.records.get x) = false :=
      fed.off (same.symm.trans off) x
    exact
      { engine := ⟨fed.engine.trans same.symm, fed.supply.trans (congrArg supplyOf same.symm)⟩
        seen := fun _ => .refl s
        starved := fun off => ⟨fed.supply.trans (congrArg supplyOf (same.symm.trans off)), fed.asks⟩
        none := plain
        lifters := fun off l => by rw [plain off]; rfl
        packers := fun off st => by rw [plain off]; rfl
        records := fun off x => by
          have none := plain off x
          cases record : s.flow.records.get x with
          | granted units => rw [record] at none; cases none
          | none => rfl
          | waiting w since => rfl
        event := fun off l c granted => by rw [plain off] at granted; cases granted
        quiet := .refl s
        only := .refl _ s
        granted := fun _ _ _ record => record }
  · by_cases off : effectiveEngine s.body = .off
    · rw [handEngineChange_off fed off (by rw [← off]; exact same), off]
      exact evaluateGrants_revoked fed
    · rw [handEngineChange_on fed rfl same off]
      exact evaluateGrants_engineSet fed off

theorem handEngineChange_windows (fed : Fed before t.flow) (once : s.weigh.queue.Nodup) (h : WindowsFollow s t) :
    WindowsFollow s (handEngineChange before t) := by
  by_cases same : effectiveEngine t.body = before
  · rw [handEngineChange_same same]
    exact h
  · by_cases off : effectiveEngine t.body = .off
    · rw [handEngineChange_off fed off (by rw [← off]; exact same)]
      have early : Only [.flow, .ports] t (supplyGone (engineSet .off t)) :=
        ((withFlow_only t _).step (withFlow_only _ _)).both (testLine_only _) (by decide) (by decide)
      have lifters : (supplyGone (engineSet .off t)).lifters = t.lifters := early.same .lifters (by decide)
      have revoked := (h.still (early.same .scan (by decide)) (early.same .weigh (by decide))
        (early.same .bodyTimer (by decide)) (early.same .calib (by decide))
        fun l => by rw [State.lifter, State.lifter, lifters]; rfl).revoke once t.flow.records allConsumers
      have only := evaluateGrants_only (revokeAll (engineSet .off t))
      exact WindowsFollow.still (t := revokeAll (engineSet .off t)) revoked (only.same .scan (by decide))
        (only.same .weigh (by decide)) (only.same .bodyTimer (by decide)) (only.same .calib (by decide))
        (evaluateGrants_grantsOnly _).lifters
    · rw [handEngineChange_on fed rfl same off]
      have only := evaluateGrants_only (engineSet (effectiveEngine t.body) t)
      exact h.still (only.same .scan (by decide)) (only.same .weigh (by decide)) (only.same .bodyTimer (by decide))
        (only.same .calib (by decide)) (evaluateGrants_grantsOnly (engineSet (effectiveEngine t.body) t)).lifters

/-- A grant evaluation whose first request does not fit and whose line stands as it should (R53, R62). -/
theorem evaluateGrants_blocked (line : lineWanted s.flow = s.flow.line)
    (blocked : s.body.state = .running → ∀ x, (grantOrder s.flow).head? = some x →
      s.flow.supply < grantedUnits s.flow + demandOf s.flow x) : evaluateGrants s = s := by
  have still (running : s.body.state = .running) (n : Nat) : grantLoop n s = s := by
    cases n with
    | zero => rfl
    | succ n =>
      unfold grantLoop
      split
      · rfl
      · next y head =>
        rw [headRequest_eq] at head
        exact if_neg (Nat.not_le.mpr (blocked running y head))
  have tested : testLine s = s := if_pos line
  unfold evaluateGrants
  split
  · next running => rw [still running, tested]
  · exact tested

/-- A supply that does not rise changes nothing but the engine state and the supply (R59). -/
theorem handEngineChange_blocked (fed : Fed before s.flow) (on : effectiveEngine s.body ≠ .off)
    (falls : supplyOf (effectiveEngine s.body) ≤ s.flow.supply)
    (blocked : s.body.state = .running → ∀ x, (grantOrder s.flow).head? = some x →
      s.flow.supply < grantedUnits s.flow + demandOf s.flow x) :
    handEngineChange before s = engineSet (effectiveEngine s.body) s := by
  by_cases same : effectiveEngine s.body = before
  · rw [handEngineChange_same same, engineSet, same, ← fed.supply, ← fed.engine]
    rfl
  · rw [handEngineChange_on fed rfl same on]
    exact evaluateGrants_blocked fed.line fun running x head => Nat.lt_of_le_of_lt falls (blocked running x head)

/-! ### Vehicle Data accepted (R41) -/

/-- The body with an accepted Vehicle Data's values (R41). -/
def vehicleTaken (v : VehicleData) (s : State) : State :=
  s.withBody
    { s.body with
      vehicle := some v
      lastAccepted := some s.bodyTimer
      fresh := true
      clockSeconds := v.clock
      clockMillis := 0 }

/-- An accepted Vehicle Data with its engine state handed over, before a hold for speed (R41). -/
def vehicleHanded (v : VehicleData) (s : State) : State :=
  handEngineChange (effectiveEngine s.body) (vehicleTaken v s)

theorem acceptVehicle_fast (fast : 50 < v.speed) : acceptVehicle v s = holdBoth .speed (vehicleHanded v s) :=
  if_pos fast

theorem acceptVehicle_slow (slow : v.speed ≤ 50) : acceptVehicle v s = vehicleHanded v s :=
  if_neg (Nat.not_lt.mpr slow)

theorem effectiveEngine_taken (v : VehicleData) (s : State) : effectiveEngine (vehicleTaken v s).body = v.engine := rfl

theorem vehicleHanded_handed (law : FlowLaw s) : EngineHanded v.engine (vehicleTaken v s) (vehicleHanded v s) :=
  handEngineChange_handed (s := vehicleTaken v s) (FlowLaw.fed law)

theorem vehicleHanded_windows (law : FlowLaw s) (once : s.weigh.queue.Nodup) :
    WindowsFollow s (vehicleHanded v s) :=
  handEngineChange_windows (t := vehicleTaken v s) (FlowLaw.fed law) once
    ((WindowsFollow.refl s).still (u := vehicleTaken v s) rfl rfl rfl rfl fun _ => rfl)

/-- A lifter held for flow and then for speed. -/
theorem holdContext_speed_flow (holdable : isHoldable c.phase = true) :
    holdContext .speed (holdContext .flow c) = { stopTimers c with
      remembered := some c.phase, phase := .held, reasons := { flow := true, speed := true } } := by
  rw [holdContext_holdable .flow holdable, holdContext_held .speed rfl]
  rfl

theorem holdUnit_holdable (r : HoldReason) {w : LifterUnit} (context : w.context = some c)
    (holdable : isHoldable c.phase = true) : holdUnit r w = heldUnit w r c := by
  simp [holdUnit, context, holdable]

theorem holdUnit_held_valves (r : HoldReason) (w : LifterUnit) (c : LiftContext) :
    (holdUnit r (heldUnit w .flow c)).raiseValve = false ∧ (holdUnit r (heldUnit w .flow c)).lowerValve = false := by
  simp [holdUnit, heldUnit, isHoldable]

/-- What an accepted Vehicle Data does besides the values it takes (R41, R59, R60). -/
structure VehicleEffect (v : VehicleData) (s t : State) : Prop where
  body : t.body = (vehicleTaken v s).body
  engine : t.flow.engine = v.engine ∧ t.flow.supply = supplyOf v.engine
  speeding : 50 < v.speed → ∀ l c, t.context l = some c → c.phase = .fault ∨ c.phase = .held ∧ c.reasons.speed = true
  windows : 50 < v.speed → s.weigh.queue.Nodup → WindowsGone s t
  none : v.engine = .off → ∀ x, isGranted (t.flow.records.get x) = false
  revoked : v.engine = .off → ∀ l c, s.context l = some c → isHoldable c.phase = true →
    isGranted (s.flow.records.get (.lifter l)) = true →
    t.context l = some { stopTimers c with
        remembered := some c.phase, phase := .held, reasons := { flow := true, speed := decide (50 < v.speed) } }
      ∧ (t.lifter l).raiseValve = false ∧ (t.lifter l).lowerValve = false ∧ LatchedAll .liftHeld t
  packer : v.engine = .off → ∀ st ph, (s.packer st).state = .stroke ph →
    isGranted (s.flow.records.get (.packer st)) = true →
    t.packer st = { stopPacker (s.packer st) with state := .held ph ⟨false, true⟩ }
  packers : v.engine = .off → ∀ st, isGranted (s.flow.records.get (.packer st)) = false →
    t.packer st = s.packer st ∧ t.flow.records.get (.packer st) = s.flow.records.get (.packer st)
  granted : v.engine ≠ .off → v.speed ≤ 50 → ∀ x u, s.flow.records.get x = .granted u →
    t.flow.records.get x = .granted u
  still : v.engine ≠ .off → supplyOf v.engine ≤ s.flow.supply → v.speed ≤ 50 → GrantLaw s →
    t = engineSet v.engine (vehicleTaken v s)
  held : 50 < v.speed → ∀ l c, s.context l = some c → isHoldable c.phase = true →
    v.engine ≠ .off ∨ isGranted (s.flow.records.get (.lifter l)) = false →
    t.context l = some { stopTimers c with
      remembered := some c.phase, phase := .held, reasons := { speed := true } }
  quiet : PortsQuiet s t
  only : Only (.body :: liftParts) s t

/-- A lifter that no revocation reaches, before the hold for speed. -/
theorem vehicleHanded_unit (law : FlowLaw s)
    (kept : v.engine ≠ .off ∨ isGranted (s.flow.records.get (.lifter l)) = false) :
    UnitSeen (s.lifter l) ((vehicleHanded v s).lifter l) := by
  have handed := vehicleHanded_handed (v := v) law
  by_cases off : v.engine = .off
  · have none := kept.resolve_left fun on => on off
    rw [handed.lifters off l, if_neg (ne_true_of_eq_false (by exact none))]
    exact .refl _
  · exact (handed.seen off).lifters l (by simp)

theorem vehicleHanded_revoked (law : FlowLaw s) (off : v.engine = .off) (context : s.context l = some c)
    (holdable : isHoldable c.phase = true) (granted : isGranted (s.flow.records.get (.lifter l)) = true) :
    (vehicleHanded v s).lifter l = heldUnit (s.lifter l) .flow c := by
  rw [(vehicleHanded_handed law).lifters off l, if_pos (by exact granted)]
  exact holdUnit_holdable .flow context holdable

theorem vehicleHanded_packer (law : FlowLaw s) (off : v.engine = .off) {ph : StrokePhase}
    (stroke : (s.packer st).state = .stroke ph) (granted : isGranted (s.flow.records.get (.packer st)) = true) :
    (vehicleHanded v s).packer st = { stopPacker (s.packer st) with state := .held ph ⟨false, true⟩ } := by
  rw [(vehicleHanded_handed law).packers off st, if_pos (by exact granted)]
  have state : ((vehicleTaken v s).packer st).state = .stroke ph := stroke
  simp only [holdPackUnit, state]
  rfl

theorem vehicleHanded_packers (law : FlowLaw s) (off : v.engine = .off)
    (none : isGranted (s.flow.records.get (.packer st)) = false) : (vehicleHanded v s).packer st = s.packer st
      ∧ (vehicleHanded v s).flow.records.get (.packer st) = s.flow.records.get (.packer st) := by
  have handed := vehicleHanded_handed (v := v) law
  refine ⟨(handed.packers off st).trans (if_neg (ne_true_of_eq_false (by exact none))), ?_⟩
  rw [handed.records off]
  change revokeRecord (s.flow.records.get (.packer st)) = _
  cases record : s.flow.records.get (.packer st) with
  | granted units => rw [record] at none; cases none
  | none => rfl
  | waiting w since => rfl

theorem acceptVehicle_slow_effect (law : FlowLaw s) (slow : v.speed ≤ 50) :
    VehicleEffect v s (acceptVehicle v s) := by
  rw [acceptVehicle_slow slow]
  have handed := vehicleHanded_handed (v := v) law
  have fast (h : 50 < v.speed) : False := absurd slow (Nat.not_le.mpr h)
  exact
    { body := handed.only.same .body (by decide)
      engine := handed.engine
      speeding := fun h => (fast h).elim
      windows := fun h => (fast h).elim
      none := handed.none
      revoked := fun off l c context holdable granted => by
        rw [State.context, vehicleHanded_revoked law off context holdable granted, decide_eq_false fast]
        exact ⟨rfl, rfl, rfl, handed.event off l c granted context holdable⟩
      packer := fun off st ph => vehicleHanded_packer law off
      packers := fun off st => vehicleHanded_packers law off
      granted := fun on _ => handed.granted on
      still := fun on falls _ grants => handEngineChange_blocked (s := vehicleTaken v s) (FlowLaw.fed law) on falls
        grants.blocked
      held := fun h => (fast h).elim
      quiet := handed.quiet.after (s := s) rfl
      only := (withBody_only s _).both handed.only (by decide) (by decide) }

theorem acceptVehicle_fast_effect (law : FlowLaw s) (fast : 50 < v.speed) :
    VehicleEffect v s (acceptVehicle v s) := by
  rw [acceptVehicle_fast fast]
  have handed := vehicleHanded_handed (v := v) law
  have only := holdBoth_only .speed (vehicleHanded v s)
  have supply := holdBoth_supply .speed (vehicleHanded v s)
  have slow (h : v.speed ≤ 50) : False := absurd fast (Nat.not_lt.mpr h)
  have drained (off : v.engine = .off) := holdBoth_drained .speed (handed.starved off)
  have packer (off : v.engine = .off) (st : Stream) :
      (holdBoth .speed (vehicleHanded v s)).packer st = (vehicleHanded v s).packer st := by
    rw [State.packer, (drained off).packers]
    rfl
  exact
    { body := (only.same .body (by decide)).trans (handed.only.same .body (by decide))
      engine := ⟨supply.1.trans handed.engine.1, supply.2.trans handed.engine.2⟩
      speeding := fun _ l c context => by
        rw [holdBoth_context] at context
        obtain ⟨d, -, rfl⟩ := Option.map_eq_some_iff.mp context
        exact holdContext_phase .speed d
      windows := fun _ once =>
        ((vehicleHanded_windows law once).holdBoth once .speed).windowsGone (holdBoth_rests .speed _)
      none := fun off x => (drained off).granted x (handed.none off x)
      revoked := fun off l c context holdable granted => by
        have unit := vehicleHanded_revoked (v := v) law off context holdable granted
        have valves := holdUnit_held_valves .speed (s.lifter l) c
        refine ⟨?_, ?_, ?_, LatchedAll.of_quiet (handed.event off l c granted context holdable) (holdBoth_quiet _ _)⟩
        · rw [holdBoth_context, State.context, unit, decide_eq_true fast, ← holdContext_speed_flow holdable,
            holdContext_holdable .flow holdable]
          rfl
        · rw [holdBoth_lifter, unit]
          exact valves.1
        · rw [holdBoth_lifter, unit]
          exact valves.2
      packer := fun off st ph stroke granted => (packer off st).trans (vehicleHanded_packer law off stroke granted)
      packers := fun off st none =>
        have kept := vehicleHanded_packers (v := v) law off none
        ⟨(packer off st).trans kept.1, ((drained off).packRecords st).trans kept.2⟩
      granted := fun _ h => (slow h).elim
      still := fun _ _ h => (slow h).elim
      held := fun _ l c context holdable kept => by
        rw [State.context, holdBoth_lifter, holdUnit_seen .speed (vehicleHanded_unit law kept),
          holdUnit_holdable .speed context holdable]
        rfl
      quiet := (handed.quiet.trans (holdBoth_quiet .speed _)).after (s := s) rfl
      only := (withBody_only s _).both (handed.only.step only) (by decide) (by decide) }

theorem acceptVehicle_effect (law : FlowLaw s) (v : VehicleData) : VehicleEffect v s (acceptVehicle v s) := by
  rcases Nat.lt_or_ge 50 v.speed with fast | slow
  · exact acceptVehicle_fast_effect law fast
  · exact acceptVehicle_slow_effect law slow

theorem decideVehicleData_none (arg : vehicleArg d = none) : decideVehicleData d s = declined .badArgument s := by
  simp only [decideVehicleData, arg]

theorem decideVehicleData_some (arg : vehicleArg d = some v) : decideVehicleData d s = taken (acceptVehicle v s) := by
  simp only [decideVehicleData, arg]

theorem acceptVehicle_plain (same : effectiveEngine s.body = v.engine) (slow : v.speed ≤ 50) :
    acceptVehicle v s = vehicleTaken v s :=
  (acceptVehicle_slow slow).trans (handEngineChange_same (s := vehicleTaken v s) same.symm)

theorem FlowLaw.withPorts (law : FlowLaw s) (P : PerPort PortState) : FlowLaw (s.withPorts P) :=
  ⟨law.listed, law.once, law.demands, law.engine, law.supply, law.units, law.stopped, law.line⟩

theorem GrantLaw.withPorts (law : GrantLaw s) (P : PerPort PortState) : GrantLaw (s.withPorts P) :=
  ⟨law.blocked, law.starting⟩

/-! ### The freshness of the vehicle data (R42) -/

/-- The vehicle data gone stale and the lifters held for speed (R42). -/
def vehicleStale (s : State) : State :=
  holdBoth .speed (latchAll .vehicleDataStale (s.withBody { s.body with fresh := false }))

theorem expireVehicle_eq (s : State) :
    expireVehicle s = handEngineChange (effectiveEngine s.body) (vehicleStale s) := rfl

theorem vehicleFreshnessExpiry_due (h : due s (if s.body.fresh then s.body.lastAccepted else none) 500 = true) :
    exec .vehicleFreshnessExpiry s = .next (expireVehicle s) ∧ s.body.fresh = true := by
  refine ⟨congrArg Host.Outcome.next (if_pos ((expired_eq_due ..).trans h)), ?_⟩
  by_contra stale
  rw [if_neg stale] at h
  cases h

theorem vehicleStale_body (s : State) : (vehicleStale s).body = { s.body with fresh := false } :=
  ((holdBoth_only .speed (latchAll .vehicleDataStale (s.withBody { s.body with fresh := false }))).same .body
    (by decide) :)

/-- The engine state that stale data leaves is never OFF where it differs (R40). -/
theorem effectiveEngine_stale {b : Body} (fresh : b.fresh = true) :
    effectiveEngine { b with fresh := false } = effectiveEngine b
      ∨ effectiveEngine { b with fresh := false } = .idle := by
  cases vehicle : b.vehicle with
  | none => simp [effectiveEngine, vehicle]
  | some v =>
    simp only [effectiveEngine, vehicle, fresh]
    cases v.engine <;> simp [cappedEngine]

/-- What the stale data's engine state leaves of the rest (R42, R51, R59). -/
structure StaleHanded (s t : State) : Prop where
  seen : Seen [] s t
  quiet : PortsQuiet s t
  only : Only flowParts s t

theorem handEngineChange_stale (fresh : s.body.fresh = true) :
    StaleHanded (vehicleStale s) (expireVehicle s) := by
  have set (e : EngineState) (n : Nat) : Seen [] (vehicleStale s)
      ((vehicleStale s).withFlow { (vehicleStale s).flow with engine := e, supply := n }) :=
    ⟨fun _ _ => .refl _, fun _ _ => .refl _, fun o => ⟨o, fun _ h => h⟩⟩
  rw [expireVehicle_eq, handEngineChange, vehicleStale_body]
  split
  · exact ⟨.refl _, .refl _, .refl _ _⟩
  · next changed =>
    rcases effectiveEngine_stale fresh with same | idle
    · exact absurd same changed
    · rw [idle, handEngine]
      split
      · exact ⟨set .idle (vehicleStale s).flow.supply, .of_ports_eq rfl, (withFlow_only _ _).mono (by decide)⟩
      · dsimp only
        rw [if_neg (by decide)]
        exact ⟨(set _ _).trans (evaluateGrants_seen _), (Operates.evaluateGrants (Operates.refl.flow _)).quiet,
          (withFlow_only _ _).both (evaluateGrants_only _) (by decide) (by decide)⟩

theorem expireVehicle_engine (law : FlowLaw s) (fresh : s.body.fresh = true) (vehicle : s.body.vehicle = some v) :
    (expireVehicle s).flow.engine = (if v.engine = .high then .idle else v.engine)
      ∧ (expireVehicle s).flow.supply = (if v.engine = .off then 0 else 8) := by
  have before : effectiveEngine s.body = v.engine := by simp only [effectiveEngine, vehicle, fresh]; rfl
  have after : effectiveEngine { s.body with fresh := false } = cappedEngine v.engine := by
    simp only [effectiveEngine, vehicle]; rfl
  have old := holdBoth_supply .speed (latchAll .vehicleDataStale (s.withBody { s.body with fresh := false }))
  have engine : (vehicleStale s).flow.engine = v.engine := old.1.trans (law.engine.trans before)
  have supply : (vehicleStale s).flow.supply = supplyOf v.engine :=
    old.2.trans (law.supply.trans (congrArg supplyOf (law.engine.trans before)))
  rw [expireVehicle_eq, handEngineChange, vehicleStale_body, before, after]
  cases state : v.engine with
  | high =>
    have set := evaluateGrants_supply ((vehicleStale s).withFlow
      { (vehicleStale s).flow with engine := .idle, supply := 8 })
    rw [if_neg (by decide), handEngine, if_neg (by rw [supply, state]; decide)]
    exact set
  | idle =>
    rw [if_pos (by decide), engine, supply, state]
    exact ⟨rfl, rfl⟩
  | off =>
    rw [if_pos (by decide), engine, supply, state]
    exact ⟨rfl, rfl⟩

/-! ### O30 -/

/-- Settles O30: an accepted Vehicle Data by `acceptVehicle_effect`, the expiry by the holds for speed
(`holdBoth_context`) and the engine state handed over after them. -/
theorem vehicleDataTaken : Obligations.VehicleDataTaken := by
  intro p n d v s
  refine ⟨fun h bad => exec_decided h rfl (decideVehicleData_none bad), fun h arg same slow => ?_,
    fun h arg law => ?_, fun out => ?_, fun early => congrArg Host.Outcome.next (if_neg ?_), fun awake full => ?_,
    fun early => ?_⟩
  · refine exec_decided h rfl ((decideVehicleData_some arg).trans ?_)
    rw [acceptVehicle_plain (by exact same) slow]
    rfl
  · have effect := acceptVehicle_effect (s := takeRequest p n Kind.vehicleData.code s) (FlowLaw.withPorts law _) v
    obtain ⟨Q, run, answered, latches⟩ := exec_taken_latches (i := .vehicleData p n d) h rfl
      (decideVehicleData_some arg) effect.quiet
    have only := effect.only
    refine ⟨_, run, answered, effect.body, effect.engine.1, effect.engine.2, effect.speeding, fun fast once => ?_,
      effect.none, fun off l c context holdable granted => ?_, effect.packer, effect.packers,
      fun on falls slow => ⟨effect.granted on slow, fun grants => ?_⟩, effect.held,
      only.same .compartments (by decide), only.same .journal (by decide), only.same .tags (by decide),
      only.same .integrity (by decide),
      ⟨only.same .pending (by decide), only.same .resetHeld (by decide), only.same .bodyTimer (by decide),
        only.same .freeIndex (by decide), only.same .banks (by decide), only.same .bodyLimit (by decide),
        only.same .calib (by decide), only.same .access (by decide), only.same .loader (by decide)⟩⟩
    · have gone := effect.windows fast once
      exact ⟨gone.buffers, gone.queue, gone.going, gone.next, gone.results, gone.scan⟩
    · obtain ⟨held, raise, lower, event⟩ := effect.revoked off l c context holdable granted
      exact ⟨held, raise, lower, fun q => by rw [latches q]; exact event q⟩
    · have still := effect.still on falls slow (GrantLaw.withPorts grants _)
      have port (q : Port) := congrArg (fun x : State => (x.port q).latched) still
      exact ⟨(congrArg (fun x : State => x.flow.records) still :), (congrArg (fun x : State => x.flow.waiting) still :),
        (congrArg State.lifters still :), (congrArg State.packers still :), (congrArg State.scan still :),
        (congrArg State.weigh still :), fun q => (latches q).trans ((port q).trans (takeRequest_latched p n _ s q))⟩
  · obtain ⟨run, fresh⟩ := vehicleFreshnessExpiry_due out
    have stale := handEngineChange_stale fresh
    have before : PortsQuiet s (latchAll .vehicleDataStale (s.withBody { s.body with fresh := false })) :=
      (latchAll_quiet _ _).after (s := s) rfl
    have held : PortsQuiet s (vehicleStale s) := before.trans (holdBoth_quiet _ _)
    have only : Only (.body :: liftParts) s (expireVehicle s) :=
      ((((withBody_only s _).both (latchAll_only _ _) (c := .body :: liftParts) (by decide) (by decide)).both
        (holdBoth_only .speed _) (fun _ h => h) (by decide)).both stale.only (fun _ h => h) (by decide) :)
    have context (l : Lifter) : (expireVehicle s).context l = (s.context l).map (holdContext .speed) := by
      have unit : (vehicleStale s).lifter l = holdUnit .speed (s.lifter l) := holdBoth_lifter .speed _ l
      have seen := stale.seen.lifters l (by simp)
      rw [State.context, seen.2 (by rw [unit]; exact holdUnit_resting _ _), unit, holdUnit_context]
      rfl
    refine ⟨_, run, held.trans stale.quiet, ?_, ?_, fun l c new => ?_, fun l => ?_, fun l c old holdable => ?_,
      fun once => ?_, fun law v vehicle => expireVehicle_engine law fresh vehicle, only.same .compartments (by decide),
      only.same .journal (by decide), only.same .tags (by decide), only.same .integrity (by decide),
      ⟨only.same .pending (by decide), only.same .resetHeld (by decide), only.same .bodyTimer (by decide),
        only.same .freeIndex (by decide), only.same .banks (by decide), only.same .bodyLimit (by decide),
        only.same .calib (by decide), only.same .access (by decide), only.same .loader (by decide)⟩⟩
    · exact LatchedAll.of_quiet (latchAll_latchedAll _ _) ((holdBoth_quiet .speed _).trans stale.quiet)
    · exact (stale.only.same .body (by decide) : _).trans (vehicleStale_body s)
    · rw [context] at new
      obtain ⟨e, -, rfl⟩ := Option.map_eq_some_iff.mp new
      exact holdContext_phase .speed e
    · rw [context]
      exact Option.isSome_map
    · rw [context, old]
      exact congrArg some (holdContext_holdable .speed holdable)
    · have follow : WindowsFollow s (vehicleStale s) :=
        ((WindowsFollow.refl s).still (u := latchAll .vehicleDataStale (s.withBody { s.body with fresh := false }))
          rfl rfl rfl rfl fun _ => rfl).holdBoth once _
      have only := stale.only
      refine (follow.still (only.same .scan (by decide)) (only.same .weigh (by decide))
        (only.same .bodyTimer (by decide)) (only.same .calib (by decide))
        fun l => (stale.seen.lifters l (by simp)).1).windowsGone fun l => ?_
      exact (weighing_congr (stale.seen.lifters l (by simp)).1.context).trans (holdBoth_rests _ _ l)
  · exact ne_true_of_eq_false ((expired_eq_due ..).trans early)
  · exact congrArg Host.Outcome.next (if_pos (by rw [awake]; exact decide_eq_true full))
  · refine congrArg Host.Outcome.next (if_neg ?_)
    have less : secondFull s.body = false := decide_eq_false (Nat.not_le.mpr early)
    rw [less, Bool.and_false]
    exact Bool.false_ne_true

end Sys2Proof.Safety
end

section
/-! PROOFS. Unload Complete, the parts of the load and the end of a body-reset pass (O24, O53). -/

namespace Sys2Proof.Safety

open Sys2Proof.Machine

variable {s t : State} {st : Stream} {p : Port} {n : Byte} {d : List Byte}

/-! ### Unload Complete (R85) -/

theorem firstFailure_cons (b : Bool) (r : Reason) (checks : List (Bool × Reason)) :
    firstFailure ((b, r) :: checks) = if b then firstFailure checks else some r := by
  cases b <;> rfl

theorem firstFailure_nil : firstFailure [] = none := rfl

theorem speedAbove_fresh (limit : Nat) (fresh : s.body.fresh = true) : speedAbove limit s = !slowEnough limit s := by
  unfold speedAbove slowEnough
  cases s.body.vehicle with
  | none => rfl
  | some v =>
    change (!s.body.fresh || decide (limit < v.speed)) = !decide (v.speed ≤ limit)
    rw [fresh, Bool.not_true, Bool.false_or, ← decide_not]
    exact decide_eq_decide.mpr Nat.not_le.symm

theorem parkBrakeOn_fresh (fresh : s.body.fresh = true) :
    parkBrakeOn s.body = s.body.vehicle.any fun v => v.parkBrake := by
  unfold parkBrakeOn
  cases s.body.vehicle with
  | none => rfl
  | some v => simp [fresh]

theorem unloadRefusal_eq (st : Stream) (s : State) : unloadRefusal st s = firstFailure (unloadChecks st s) := by
  unfold unloadRefusal unloadChecks
  simp only [firstFailure_cons, firstFailure_nil]
  cases fresh : s.body.fresh with
  | false => rfl
  | true =>
    rw [speedAbove_fresh 0 fresh, parkBrakeOn_fresh fresh]
    generalize slowEnough 0 s = slow, s.body.vehicle.any (fun v => v.parkBrake) = parked
    simp only [State.lifterIdle, Bool.not_eq_true', ite_not, Bool.not_eq_true, decide_eq_true_eq, Bool.and_eq_true]
    generalize (s.context .left).isNone = left, (s.context .right).isNone = right, s.body.tailgateCycled.get st = gate
    revert slow parked left right gate
    by_cases idle : (s.packer st).state = .idle <;> simp only [idle] <;> decide

theorem decideUnloadComplete_none (arg : streamArg (byteAt d 0) = none) :
    decideUnloadComplete d s = declined .badArgument s := by simp only [decideUnloadComplete, arg]

theorem decideUnloadComplete_refused {r : Reason} (arg : streamArg (byteAt d 0) = some st)
    (fails : firstFailure (unloadChecks st s) = some r) : decideUnloadComplete d s = declined (.refused r) s := by
  simp only [decideUnloadComplete, arg, unloadRefusal_eq, fails]

theorem decideUnloadComplete_taken (arg : streamArg (byteAt d 0) = some st)
    (passes : firstFailure (unloadChecks st s) = none) : decideUnloadComplete d s = taken (unload st s) := by
  simp only [decideUnloadComplete, arg, unloadRefusal_eq, passes]

/-- A compartment emptied, its packer's and its tailgate's marks cleared, the flags not yet re-evaluated (R85). -/
def unloaded (st : Stream) (s : State) : State :=
  ((s.withCompartment st
    { s.compartment st with
      payload := 0
      fill := .opened
      loadNumber := if (s.compartment st).loadNumber = 4294967295 then 1
        else (s.compartment st).loadNumber + 1 }).withPacker st { s.packer st with shortStrokes := 0 }).withBody
    { s.body with tailgateCycled := s.body.tailgateCycled.set st false }

theorem unload_eq (st : Stream) (s : State) : unload st s = evaluateLimits (unloaded st s) := rfl

/-- A flag that stands as its limit gives it turns from no to yes only when a payload or a limit changed upwards. -/
theorem evaluateLimits_ports (falls : ∀ st, limitReachedNow st s = true → (s.compartment st).limitReached = true) :
    (evaluateLimits s).ports = s.ports := by
  have residual := falls .residual
  have recycle := falls .recycle
  have quiet : ((limitReachedNow .residual s && !s.compartments.residual.limitReached)
      || (limitReachedNow .recycle s && !s.compartments.recycle.limitReached)) = false := by
    rw [Bool.or_eq_false_iff]
    constructor
    · cases now : limitReachedNow .residual s
      · rfl
      · rw [show s.compartments.residual.limitReached = true from residual now]; rfl
    · cases now : limitReachedNow .recycle s
      · rfl
      · rw [show s.compartments.recycle.limitReached = true from recycle now]; rfl
  unfold evaluateLimits
  dsimp only
  rw [quiet]
  rfl

theorem limitReached_of_law (law : LimitLaw s) (st : Stream) :
    (s.compartment st).limitReached = true ↔ limitReachedNow st s = true := by
  rw [law st, limitReachedNow, Bool.or_eq_true, decide_eq_true_eq, decide_eq_true_eq]
  rfl

theorem unloaded_falls (law : LimitLaw s) (su : Stream) (reached : limitReachedNow su (unloaded st s) = true) :
    ((unloaded st s).compartment su).limitReached = true := by
  have flag : ((unloaded st s).compartment su).limitReached = (s.compartment su).limitReached := by
    cases st <;> cases su <;> rfl
  rw [flag, limitReached_of_law law]
  have less : bodyPayload (unloaded st s) ≤ bodyPayload s := by
    cases st with
    | residual => exact Nat.add_le_add_right (Nat.zero_le _) _
    | recycle => exact Nat.add_le_add_left (Nat.zero_le _) _
  have limit : ((unloaded st s).compartment su).limit = (s.compartment su).limit := by cases st <;> cases su <;> rfl
  have payload : ((unloaded st s).compartment su).payload ≤ (s.compartment su).payload := by
    cases st <;> cases su <;> first | exact Nat.zero_le _ | exact Nat.le_refl _
  simp only [limitReachedNow, Bool.or_eq_true, decide_eq_true_eq] at reached ⊢
  rw [limit] at reached
  exact reached.imp (fun h => h.trans payload) fun h => Nat.le_trans h less

theorem replied_latched (k : Kind) (r : Reply) (q : Port) :
    ((replied p n k r s).port q).latched = (s.port q).latched := by
  by_cases hq : q = p
  · rw [hq, replied, sent, port_withPort_self]
  · rw [replied, sent, port_withPort_of_ne _ _ _ _ hq]

theorem unloadComplete_taken (h : Accepts .unloadComplete p d s) (arg : streamArg (byteAt d 0) = some st)
    (passes : firstFailure (unloadChecks st s) = none) : exec (.unloadComplete p n d) s =
      .next (replied p n .unloadComplete (.ok []) (evaluateLimits (unloaded st s))) := by
  refine exec_decided h rfl ((decideUnloadComplete_taken arg (by exact passes)).trans ?_)
  exact congrArg (fun x => (x, some (Reply.ok []))) (evaluateLimits_takeRequest p n Kind.unloadComplete.code
    (unloaded st s))

/-- Settles O24: by the first failing check (`unloadRefusal_eq`); no flag turns to yes (`unloaded_falls`). -/
theorem unloadCompleteEmpties : Obligations.UnloadCompleteEmpties := by
  intro p n d st r s h
  refine ⟨fun bad => exec_decided h rfl (decideUnloadComplete_none bad),
    fun arg fails => exec_decided h rfl (decideUnloadComplete_refused arg (by exact fails)),
    fun arg passes => unloadComplete_taken h arg passes,
    fun arg passes law => ⟨_, unloadComplete_taken h arg passes, fun q => ?_⟩⟩
  rw [replied_latched, State.port, evaluateLimits_ports (unloaded_falls law)]
  rfl

/-! ### The settings read (R212) -/

theorem evaluateLimits_settings (s : State) : currentSettings (evaluateLimits s) = currentSettings s := by
  unfold evaluateLimits latchWhen
  dsimp only
  split <;> rfl

theorem applySettings_current (x : Settings) (s : State) : currentSettings (applySettings x s) = x := by
  rw [applySettings, evaluateLimits_settings]
  rfl

/-- What the settings handed to their owners leave and make besides `currentSettings` (R105, R212). -/
structure SettingsApplied (x : Settings) (s t : State) : Prop where
  current : currentSettings t = x
  selection : ∀ l, (t.lifter l).selection = (x.lifters.get l).initialSelection
  ring : t.scan.converter = .ring ∧ t.scan.ringPos = x.ringStart
  table : t.tags.table = s.tags.table
  locked : t.access.locked = s.access.locked
  calib : t.calib = s.calib
  body : t.body = s.body
  flow : t.flow = s.flow
  journal : t.journal = s.journal
  weigh : t.weigh = s.weigh
  loader : t.loader = s.loader

theorem applySettings_applied (x : Settings) (s : State) : SettingsApplied x s (applySettings x s) := by
  have only := applySettings_only x s
  have scan (y : State) : (evaluateLimits y).scan = y.scan := (evaluateLimits_only y).same .scan (by decide)
  have tags (y : State) : (evaluateLimits y).tags = y.tags := (evaluateLimits_only y).same .tags (by decide)
  have access (y : State) : (evaluateLimits y).access = y.access := (evaluateLimits_only y).same .access (by decide)
  have flow (y : State) : (evaluateLimits y).flow = y.flow := (evaluateLimits_only y).same .flow (by decide)
  have weigh (y : State) : (evaluateLimits y).weigh = y.weigh := (evaluateLimits_only y).same .weigh (by decide)
  obtain ⟨calib, loader⟩ := applySettings_store x s
  refine ⟨applySettings_current x s, fun l => ?_, ?_, ?_, ?_, calib, applySettings_body x s, ?_,
    only.same .journal (by decide), ?_, loader⟩
  · rw [State.lifter, applySettings_lifters]
    cases l <;> rfl
  · simp only [applySettings, scan, withAccess_scan, withPorts_scan, withScan_scan]
    exact ⟨rfl, rfl⟩
  · simp only [applySettings, tags, withAccess_tags, withPorts_tags, withScan_tags, withTags_tags]
  · simp only [applySettings, access, withAccess_access]
  · simp only [applySettings, flow, withAccess_flow, withPorts_flow, withScan_flow, withTags_flow, withBodyLimit_flow,
      withCompartments_flow, withPackers_flow, withBanks_flow, withLifters_flow]
  · simp only [applySettings, weigh, withAccess_weigh, withPorts_weigh, withScan_weigh, withTags_weigh,
      withBodyLimit_weigh, withCompartments_weigh, withPackers_weigh, withBanks_weigh, withLifters_weigh]

/-- Settings handed over with an event latched or not, the next part then in turn. -/
theorem SettingsApplied.latch {x : Settings} (h : SettingsApplied x s t) (e : Event) :
    SettingsApplied x s (latchAll e t) :=
  ⟨h.current, h.selection, h.ring, h.table, h.locked, h.calib, h.body, h.flow, h.journal, h.weigh, h.loader⟩

theorem loadSettings_applied (ok : Bool) (s : State) :
    SettingsApplied (if ok then s.loader.eeprom.settings.content else defaultSettings) s (loadSettings ok s)
      ∧ (ok = false → LatchedAll .settingsFallback (loadSettings ok s)) := by
  cases ok with
  | true => exact ⟨applySettings_applied _ s, fun h => (by cases h)⟩
  | false => exact ⟨(applySettings_applied _ s).latch _, fun _ => latchAll_latchedAll _ _⟩

theorem loadPartRead_awake (awake : s.resetHeld = false) (ok : Bool) :
    exec (.loadPartRead ok) s = .next (readPart ok s) :=
  congrArg Host.Outcome.next (if_neg (ne_true_of_eq_false awake))

theorem loadPartRead_settings (awake : s.resetHeld = false) (ok : Bool) (load : s.loader.load = .reading .settings) :
    exec (.loadPartRead ok) s = .next ((loadSettings (ok && s.loader.eeprom.settings.good) s).withLoad
      (.reading (.calibration .left))) := by
  rw [loadPartRead_awake awake, readPart, load]

/-! ### The calibration parts (R129) -/

/-- The part that follows a calibration part (R212). -/
def afterCalibration : Lifter → LoadPart
  | .left => .calibration .right
  | .right => .identity

theorem loadPartRead_calibration (awake : s.resetHeld = false) (ok : Bool) {l : Lifter}
    (load : s.loader.load = .reading (.calibration l)) :
    exec (.loadPartRead ok) s = .next ((loadCalibration l (ok && (s.loader.eeprom.calibration.get l).good) s).withLoad
      (.reading (afterCalibration l))) := by
  rw [loadPartRead_awake awake, readPart, load]
  cases l <;> rfl

theorem loadCalibration_taken (l : Lifter) (ok : Bool) (s : State) :
    (loadCalibration l ok s).calib.cal = s.calib.cal.set l
        (if ok then ⟨(s.loader.eeprom.calibration.get l).content, true, true, false⟩
        else ⟨defaultCalItems, false, true, false⟩)
      ∧ (ok = false → LatchedAll .calibrationInvalid (loadCalibration l ok s))
      ∧ (loadCalibration l ok s).loader = s.loader
      ∧ ((loadCalibration l ok s).withCalib s.calib).withPorts s.ports = s := by
  cases ok with
  | true => exact ⟨rfl, fun h => (by cases h), rfl, rfl⟩
  | false => exact ⟨rfl, fun _ => latchAll_latchedAll _ _, rfl, rfl⟩

theorem withLoader_cancel (loader : t.loader = s.loader) (x : LoadState) : (t.withLoad x).withLoader s.loader = t := by
  rw [← loader]
  rfl

/-! ### The body leaves STARTING (R32, R35, R213) -/

theorem leaveStarting_runs (released : s.body.estop.reading = false) : leaveStarting s =
    (s.withLoader { s.loader with load := .none }).withBody { s.body with state := .running } :=
  if_neg (ne_true_of_eq_false released)

/-- The body that leaves STARTING with the stop read ACTIVE (R35). -/
structure LeftHalted (s t : State) : Prop where
  body : t.body = { s.body with state := .halted }
  calib : t.calib = s.calib
  event : LatchedAll .estop t
  loader : t.loader = { s.loader with load := .none }
  records : t.flow.records = ⟨.none, .none, .none, .none⟩
  packers : ∀ st, (s.packer st).state ≠ .fault → (t.packer st).state = .halted

theorem leaveStarting_halts (active : s.body.estop.reading = true) : LeftHalted s (leaveStarting s) := by
  have halts : leaveStarting s = enterHalted (s.withLoader { s.loader with load := .none }) := if_pos active
  have only := enterHalted_only (s.withLoader { s.loader with load := .none })
  rw [halts]
  refine ⟨enterHalted_state _, only.same .calib (by decide), (enterHalted_quiet _).2, only.same .loader (by decide),
    (enterHalted_flow _).1, fun st other => ?_⟩
  rw [enterHalted_packer, if_neg (by exact other)]

theorem loadPartRead_counter (awake : s.resetHeld = false) (ok : Bool) (load : s.loader.load = .reading .counter) :
    exec (.loadPartRead ok) s =
      .next (leaveStarting (loadCounter (ok && s.loader.eeprom.counter.good) s)) := by
  rw [loadPartRead_awake awake, readPart, load]

theorem bodyResetPassEnd_due {since : Nat} (awake : s.resetHeld = false) (load : s.loader.load = .pass since)
    (out : since + 20 ≤ s.bodyTimer) : exec .bodyResetPassEnd s = .next (leaveStarting s) := by
  refine congrArg Host.Outcome.next (if_pos ⟨ne_true_of_eq_false awake, ?_⟩)
  rw [expired_eq_due, passTimer, load]
  exact decide_eq_true out

/-- Settles O53: each part by what its owner takes (`loadSettings_applied`, `loadCalibration_taken`), and the two ways
out of STARTING. -/
theorem loadPartsTaken : Obligations.LoadPartsTaken := by
  intro ok l x since s awake
  refine ⟨fun load settings => ?_, fun load => ?_, fun load => ?_, fun load released => ?_, fun load active => ?_,
    fun load out released => ?_, fun load out active => ?_, fun load early => ?_⟩
  · obtain ⟨applied, event⟩ := loadSettings_applied (ok && s.loader.eeprom.settings.good) s
    rw [← settings] at applied
    exact ⟨_, loadPartRead_settings awake ok load, applied.current, applied.selection, applied.ring.1, applied.ring.2,
      event, congrArg (fun y : Loader => { y with load := .reading (.calibration .left) }) applied.loader,
      applied.calib, applied.body, applied.flow, applied.journal, applied.table, applied.weigh, applied.locked⟩
  · obtain ⟨cal, event, loader, rest⟩ := loadCalibration_taken l (ok && (s.loader.eeprom.calibration.get l).good) s
    refine ⟨_, loadPartRead_calibration awake ok load, cal, event, ?_, ?_⟩
    · refine (congrArg (fun y : Loader => { y with load := .reading (afterCalibration l) }) loader).trans ?_
      cases l <;> rfl
    · exact (congrArg (fun y : State => (y.withCalib s.calib).withPorts s.ports)
        (withLoader_cancel loader (.reading (afterCalibration l))) :).trans rest
  · rw [loadPartRead_awake awake, readPart, load]
    rfl
  · rw [loadPartRead_counter awake ok load, leaveStarting_runs (by exact released)]
    rfl
  · have halted := leaveStarting_halts (s := loadCounter (ok && s.loader.eeprom.counter.good) s) active
    exact ⟨_, loadPartRead_counter awake ok load, halted.body, halted.calib, halted.event, halted.loader,
      halted.records, halted.packers⟩
  · rw [bodyResetPassEnd_due awake load out, leaveStarting_runs released]
  · have halted := leaveStarting_halts active
    exact ⟨_, bodyResetPassEnd_due awake load out, halted.body, halted.event, halted.loader, halted.records,
      halted.packers⟩
  · refine congrArg Host.Outcome.next (if_neg fun ⟨_, out⟩ => ?_)
    rw [expired_eq_due, passTimer, load] at out
    exact absurd (of_decide_eq_true out) (Nat.not_le.mpr early)

end Sys2Proof.Safety
end

section
/-! SUPPORT. Lift start and resume: the checks as lists, the lookup of check 6 around a port's request, and what an
accepted start does (R3 to R8, R21, R53). -/

namespace Sys2Proof.Safety

open Sys2Proof.Machine

variable {s t u : State} {l m : Lifter} {c : LiftContext} {x : Consumer} {p : Port} {n kb : Byte} {d : List Byte}
  {arg : Option Stream} {tag : Option Nat} {entry : Option AccountEntry}

/-! ### The checks in their order -/

/-- One check of a chain: it fails exactly when its condition is false, and else the rest decides. -/
theorem check_step {fails : Prop} [Decidable fails] {b : Bool} {r : Reason} {x y : Option Reason}
    (when : fails ↔ b = false) (next : b = true → x = y) : (if fails then some r else x) = if b then y else some r := by
  cases b with
  | false => rw [if_pos (when.mpr rfl)]; rfl
  | true =>
    rw [if_neg fun h => by cases when.mp h]
    exact next rfl

theorem earlyChecks_eq (l : Lifter) (s : State) : earlyChecks l s = firstFailure (startChecks l s) := by
  unfold earlyChecks startChecks
  simp only [firstFailure_cons, firstFailure_nil]
  refine check_step (by simp) fun _ => check_step (by simp) fun _ => check_step (by simp) fun _ =>
    check_step (by simp) fun fresh => check_step ?_ fun _ => check_step (by simp) fun _ => rfl
  rw [speedAbove_fresh startSpeed fresh, Bool.not_eq_true']
  rfl

theorem lateChecks_eq (st : Stream) (s : State) : lateChecks st s = firstFailure (settleChecks st s) := by
  unfold lateChecks settleChecks
  simp only [firstFailure_cons, firstFailure_nil]
  refine check_step (by simp) fun _ => check_step ?_ fun _ => check_step ?_ fun _ => rfl
  · rw [Bool.and_eq_false_iff, decide_eq_false_iff_not, decide_eq_false_iff_not, Nat.not_lt, Nat.not_lt]
    rfl
  · rw [decide_eq_false_iff_not, Nat.not_lt]
    rfl

theorem unclearedReason_eq (l : Lifter) (r : HoldReasons) (s : State) :
    unclearedReason l r s = firstFailure (resumeChecks l r s) := by
  unfold unclearedReason resumeChecks
  simp only [firstFailure_cons, firstFailure_nil]
  refine check_step (by simp) fun _ => check_step (by simp) fun _ => check_step (by simp) fun _ =>
    check_step ?_ fun _ => rfl
  cases fresh : s.body.fresh with
  | true =>
    rw [speedAbove_fresh holdSpeed fresh, show slowEnough holdSpeed s = slowEnough 50 s from rfl]
    simp
  | false =>
    have above : speedAbove holdSpeed s = true := by
      unfold speedAbove
      split
      · rfl
      · rw [fresh]; rfl
    simp [above]

/-! ### The lookup around a port's request -/

/-- An operation with a result that does not look at ports and leaves a port's request as it is. -/
def PortBlind {α : Type} (f : State → α × State) : Prop :=
  ∀ p n kb s, f (takeRequest p n kb s) = ((f s).1, takeRequest p n kb (f s).2)

theorem readEntry_blind (i : Nat) : PortBlind (readEntry i) := fun p n kb s => by
  have same : (takeRequest p n kb s).tags.table[i]? = s.tags.table[i]? := rfl
  unfold readEntry
  rw [same]
  cases s.tags.table[i]? with
  | none => rfl
  | some w =>
    obtain ⟨content, health⟩ := w
    cases health with
    | single => exact congrArg (Prod.mk _) (latchWhen_takeRequest p n kb (State.withIntegrity (s.withTable _) _) _ _)
    | _ => rfl

theorem removeDamaged_takeRequest (i : Nat) (s : State) :
    removeDamaged i (takeRequest p n kb s) = takeRequest p n kb (removeDamaged i s) :=
  latchAll_takeRequest p n kb (s.withTable (s.tags.table.eraseIdx i)) _

theorem searchFrom_blind (k low high tag : Nat) : PortBlind (searchFrom k low high tag) := fun p n kb s => by
  induction k generalizing low high s with
  | zero => rfl
  | succ k ih =>
    have read := readEntry_blind ((low + (high - 1)) / 2) p n kb s
    unfold searchFrom
    split
    · dsimp only
      rw [read]
      generalize readEntry ((low + (high - 1)) / 2) s = y
      obtain ⟨r, y⟩ := y
      cases r with
      | missing => rfl
      | uncorrectable => rfl
      | good e =>
        dsimp only
        split
        · rfl
        · split
          · exact ih _ _ y
          · exact ih _ _ y
    · rfl

theorem lookupFrom_blind (k tag : Nat) : PortBlind (lookupFrom k tag) := fun p n kb s => by
  induction k generalizing s with
  | zero => rfl
  | succ k ih =>
    have search := searchFrom_blind (s.tags.table.length + 1) 0 s.tags.table.length tag p n kb s
    have same : (takeRequest p n kb s).tags.table.length = s.tags.table.length := rfl
    unfold lookupFrom
    rw [same, search]
    generalize searchFrom (s.tags.table.length + 1) 0 s.tags.table.length tag s = y
    obtain ⟨r, y⟩ := y
    cases r with
    | found i e => rfl
    | absent i => rfl
    | damaged i =>
      dsimp only
      rw [removeDamaged_takeRequest]
      exact ih _

theorem tagPermission_blind (l : Lifter) : PortBlind (tagPermission l) := fun p n kb s => by
  have same : usableTag l (takeRequest p n kb s) = usableTag l s := rfl
  unfold tagPermission
  rw [same]
  cases usableTag l s with
  | none => rfl
  | some x =>
    have lookup : lookupTag x.tag (takeRequest p n kb s) = _ :=
      lookupFrom_blind (s.tags.table.length + 1) x.tag p n kb s
    dsimp only
    rw [lookup, lookupTag]
    generalize lookupFrom (s.tags.table.length + 1) x.tag s = y
    obtain ⟨r, y⟩ := y
    cases r <;> rfl

end Sys2Proof.Safety
end

section
/-! PROOFS. Lift start (R3 to R8): refused by its first failing check (O11), or accepted (O10). -/

namespace Sys2Proof.Safety

open Sys2Proof.Machine

variable {s t u s1 : State} {l m : Lifter} {c : LiftContext} {x : Consumer} {p : Port} {n kb : Byte} {d : List Byte}
  {arg : Option Stream} {tag : Option Nat} {entry : Option AccountEntry} {r : Reason} {source : StartSource}

/-! ### What a lift start decides -/

theorem startLifter_early (early : firstFailure (startChecks l s) = some r) :
    startLifter l arg source s = (some r, refuseStart l source r s) := by
  rw [← earlyChecks_eq] at early
  simp only [startLifter, early]

theorem startLifter_refused (early : firstFailure (startChecks l s) = none)
    (permission : tagPermission l s = (.refused r, s1)) :
    startLifter l arg source s = (some r, refuseStart l source r s1) := by
  rw [← earlyChecks_eq] at early
  simp only [startLifter, early, permission]

theorem startLifter_late (early : firstFailure (startChecks l s) = none)
    (permission : tagPermission l s = (.granted tag entry, s1))
    (late : firstFailure (settleChecks (startStream l arg entry s1) s1) = some r) :
    startLifter l arg source s = (some r, refuseStart l source r s1) := by
  rw [← earlyChecks_eq] at early
  rw [← lateChecks_eq] at late
  simp only [startLifter, early, permission, late]

theorem startLifter_accepted (early : firstFailure (startChecks l s) = none)
    (permission : tagPermission l s = (.granted tag entry, s1))
    (late : firstFailure (settleChecks (startStream l arg entry s1) s1) = none) :
    startLifter l arg source s = (none, acceptStart l arg tag entry s1) := by
  rw [← earlyChecks_eq] at early
  rw [← lateChecks_eq] at late
  simp only [startLifter, early, permission, late]

theorem startStream_eq (l : Lifter) (arg : Option Stream) (entry : Option AccountEntry) (s : State) :
    startStream l arg entry s = streamFor (s.lifter l) arg entry := by
  cases entry <;> cases arg <;> rfl

theorem newContext_eq (l : Lifter) (arg : Option Stream) (tag : Option Nat) (entry : Option AccountEntry) (s : State) :
    newContext l arg tag entry s = contextAtStart (s.lifter l) arg tag entry s.body.clockSeconds := by
  unfold newContext contextAtStart
  rw [startStream_eq]
  congr 1
  unfold startBank bankFor
  cases (s.lifter l).selection <;> cases entry <;> rfl

/-- The lookup of check 6 leaves the lifters, and with them the stream of the lift. -/
theorem permission_lifters {a : Permission} (permission : tagPermission l s = (a, s1)) : s1.lifters = s.lifters := by
  have same := (tagPermission_only l s).same .lifters (by decide)
  rw [permission] at same
  exact same

theorem permission_takeRequest {a : Permission} (permission : tagPermission l s = (a, s1)) :
    tagPermission l (takeRequest p n kb s) = (a, takeRequest p n kb s1) := by
  rw [tagPermission_blind l p n kb s, permission]

theorem refuseStart_takeRequest (l : Lifter) (source : StartSource) (r : Reason) (s : State) :
    refuseStart l source r (takeRequest p n kb s) = takeRequest p n kb (refuseStart l source r s) :=
  latchAll_takeRequest p n kb (s.withLifter l _) _

/-! ### What a Start Lift decides -/

theorem decideStartLift_refused (lifter : lifterArg (byteAt d 0) = some l)
    (stream : optionalStreamArg (byteAt d 1) (byteAt d 2) = some arg) (idle : s.context l = none)
    (refused : startLifter l arg (.port p) s = (some r, t)) : decideStartLift p d s = (t, some (.refused r)) := by
  simp only [decideStartLift, lifter, stream, lifterIdle_eq_true.mpr idle, if_true, refused]

theorem decideStartLift_accepted (lifter : lifterArg (byteAt d 0) = some l)
    (stream : optionalStreamArg (byteAt d 1) (byteAt d 2) = some arg) (idle : s.context l = none)
    (accepted : startLifter l arg (.port p) s = (none, t)) : decideStartLift p d s = taken t := by
  simp only [decideStartLift, lifter, stream, lifterIdle_eq_true.mpr idle, if_true, accepted]

theorem decideStartLift_busy (lifter : lifterArg (byteAt d 0) = some l)
    (stream : optionalStreamArg (byteAt d 1) (byteAt d 2) = some arg) (busy : s.context l ≠ none) :
    decideStartLift p d s = declined .busy s := by
  simp only [decideStartLift, lifter, stream, lifterIdle_eq_false.mpr busy, Bool.false_eq_true, if_false]

theorem decideStartLift_bad
    (bad : lifterArg (byteAt d 0) = none ∨ optionalStreamArg (byteAt d 1) (byteAt d 2) = none) :
    decideStartLift p d s = declined .badArgument s := by
  unfold decideStartLift
  split
  · next lifter stream =>
    rw [lifter, stream] at bad
    rcases bad with h | h <;> cases h
  · rfl

/-- A refused Start Lift answers with its reason and leaves the refusal (R6). -/
theorem exec_startRefused (accepts : Accepts .startLift p d s) (lifter : lifterArg (byteAt d 0) = some l)
    (stream : optionalStreamArg (byteAt d 1) (byteAt d 2) = some arg) (idle : s.context l = none)
    (refused : startLifter l arg (.port p) (takeRequest p n Kind.startLift.code s) =
      (some r, refuseStart l (.port p) r (takeRequest p n Kind.startLift.code s1))) :
    exec (.startLift p n d) s = .next (replied p n .startLift (.refused r) (refuseStart l (.port p) r s1)) := by
  rw [refuseStart_takeRequest] at refused
  exact exec_decided accepts rfl (decideStartLift_refused lifter stream (by exact idle) refused)

/-- Settles O11: the first check that fails decides, through the lists of checks (`earlyChecks_eq`, `lateChecks_eq`). -/
theorem startLiftRefused : Obligations.StartLiftRefused := by
  unfold Obligations.StartLiftRefused
  intro p n d l arg tag entry r s s1 accepts
  refine ⟨fun lifter stream idle early => ?_, fun lifter stream idle early permission => ?_,
    fun lifter stream idle early permission late => ?_, fun lifter stream busy => ?_, fun bad => ?_⟩
  · exact exec_startRefused accepts lifter stream idle
      (startLifter_early (s := takeRequest p n Kind.startLift.code s) (by exact early))
  · exact exec_startRefused accepts lifter stream idle
      (startLifter_refused (s := takeRequest p n Kind.startLift.code s) (by exact early)
        (permission_takeRequest permission))
  · have same : startStream l arg entry s1 = streamFor (s.lifter l) arg entry := by
      rw [startStream_eq, State.lifter, permission_lifters permission]; rfl
    rw [← same] at late
    exact exec_startRefused accepts lifter stream idle
      (startLifter_late (s := takeRequest p n Kind.startLift.code s) (by exact early)
        (permission_takeRequest permission) (by exact late))
  · exact exec_decided accepts rfl (decideStartLift_busy lifter stream (by exact busy))
  · exact exec_decided accepts rfl (decideStartLift_bad bad)

end Sys2Proof.Safety
end

section
/-! PROOFS. A lift start accepted (R7, R8, R53): its reservation, binding and inhibit line, and the request of RAISE_WEIGH
granted at once or waiting (O10). -/

namespace Sys2Proof.Safety

open Sys2Proof.Machine

variable {s t u s1 : State} {l m : Lifter} {c k : LiftContext} {x : Consumer} {p : Port} {n kb : Byte} {d : List Byte}
  {arg : Option Stream} {tag : Option Nat} {entry : Option AccountEntry} {ph : Phase} {P Q : PerPort PortState}

/-! ### A motion entered, whatever the ports do -/

theorem MotionOwn.around (h : MotionOwn (s.withPorts P) t l c ph) : MotionOwn s (t.withPorts Q) l c ph :=
  ⟨h.context, h.timers, h.request, h.raise, h.lower, h.unit, h.fault⟩

theorem FaultOwn.around {a : LiftFaultCause} (h : FaultOwn (s.withPorts P) t l c a ph)
    (latched : LatchedAll .liftFault t → LatchedAll .liftFault (t.withPorts Q)) : FaultOwn s (t.withPorts Q) l c a ph :=
  ⟨h.context, h.raiseOff, h.lowerOff, h.flow, h.fault, latched h.event, h.unit⟩

theorem MovesOrFaults.around (h : MovesOrFaults (s.withPorts P) t l c ph)
    (latched : LatchedAll .liftFault t → LatchedAll .liftFault (t.withPorts Q)) :
    MovesOrFaults s (t.withPorts Q) l c ph :=
  ⟨fun live => (h.moves live).around, fun motion aged => (h.faults motion aged).around latched⟩

/-- A motion entered looks at a context without its phase and its timers. -/
theorem MotionOwn.ofContext (h : MotionOwn s t l c ph)
    (same : { stopTimers k with phase := ph } = { stopTimers c with phase := ph }) : MotionOwn s t l k ph :=
  ⟨by rw [same]; exact h.context, h.timers, h.request, h.raise, h.lower, h.unit, h.fault⟩

theorem FaultOwn.ofContext {a : LiftFaultCause} (h : FaultOwn s t l c a ph)
    (same : { stopTimers k with phase := ph } = { stopTimers c with phase := ph }) : FaultOwn s t l k a ph := by
  have fault : ({ stopTimers k with remembered := some ph, phase := .fault } : LiftContext) =
      { stopTimers c with remembered := some ph, phase := .fault } :=
    congrArg (fun y : LiftContext => { y with remembered := some ph, phase := .fault }) same
  exact ⟨by rw [fault]; exact h.context, h.raiseOff, h.lowerOff, h.flow, h.fault, h.event, h.unit⟩

theorem MovesOrFaults.ofContext (h : MovesOrFaults s t l c ph)
    (same : { stopTimers k with phase := ph } = { stopTimers c with phase := ph }) : MovesOrFaults s t l k ph :=
  ⟨fun live => (h.moves live).ofContext same, fun motion aged => (h.faults motion aged).ofContext same⟩

/-! ### The request of a lifter, granted or waiting (R53) -/

theorem grantLoop_blocked (n : Nat) (blocked : ∀ y, (grantOrder s.flow).head? = some y →
    s.flow.supply < grantedUnits s.flow + demandOf s.flow y) : grantLoop n s = s := by
  cases n with
  | zero => rfl
  | succ n =>
    unfold grantLoop
    split
    · rfl
    · next y head =>
      rw [headRequest_eq] at head
      exact if_neg (Nat.not_le.mpr (blocked y head))

theorem evaluateGrants_records_blocked (blocked : s.body.state = .running → ∀ y, (grantOrder s.flow).head? = some y →
    s.flow.supply < grantedUnits s.flow + demandOf s.flow y) : (evaluateGrants s).flow.records = s.flow.records := by
  unfold evaluateGrants
  rw [testLine_flow]
  split
  · next running => rw [grantLoop_blocked _ (blocked running)]
  · rfl

/-- A request newly placed takes no units. -/
theorem requested_units (free : s.flow.records.get x = .none) (d : Nat) :
    grantedUnits (requested x d s).flow = grantedUnits s.flow := by
  have moved := grantedUnits_set s.flow x (.waiting d s.bodyTimer)
  rw [free] at moved
  exact moved

theorem requested_demand (x : Consumer) (d : Nat) (s : State) : demandOf (requested x d s).flow x = d := by
  rw [demandOf, requested, withFlow_flow, PerConsumer.get_set_self]
  rfl

theorem requested_demand_of_ne {y : Consumer} (h : y ≠ x) (d : Nat) :
    demandOf (requested x d s).flow y = demandOf s.flow y := by
  rw [demandOf, requested, withFlow_flow, PerConsumer.get_set_of_ne _ _ _ _ h]
  rfl

/-- The first in the order of grants, after a lifter has placed its request: a lifter that waited before, or itself. -/
theorem requested_head (l : Lifter) (d : Nat) (s : State) :
    (grantOrder (requested (.lifter l) d s).flow).head? =
      some ((s.flow.waiting.find? isLifter).getD (.lifter l)) := by
  have waiting : (requested (.lifter l) d s).flow.waiting = s.flow.waiting ++ [.lifter l] := rfl
  rw [← headRequest_eq, headRequest, waiting, List.find?_append]
  cases s.flow.waiting.find? isLifter <;> rfl

/-- A lifter's request that fits, with no other lifter waiting, is granted at once. -/
theorem placeRequest_granted {d : Nat} (free : s.flow.records.get (.lifter l) = .none) (fits : lifterFits s d = true) :
    (placeRequest (.lifter l) d s).flow.records.get (.lifter l) = .granted d := by
  simp only [lifterFits, Bool.and_eq_true, decide_eq_true_eq, Bool.not_eq_true'] at fits
  obtain ⟨⟨running, alone⟩, room⟩ := fits
  have head := requested_head l d s
  rw [List.find?_eq_none.mpr (by simpa using alone), ← headRequest_eq] at head
  have room' : grantedUnits (requested (.lifter l) d s).flow + demandOf (requested (.lifter l) d s).flow (.lifter l) ≤
      (requested (.lifter l) d s).flow.supply := by
    rw [requested_units free, requested_demand]
    exact room
  have granted : (grantOne (.lifter l) (requested (.lifter l) d s)).flow.records.get (.lifter l) = .granted d := by
    rw [grantOne_flow, PerConsumer.get_set_self, requested_demand]
  have unlisted : Consumer.lifter l ∉ (grantOne (.lifter l) (requested (.lifter l) d s)).flow.waiting := by
    simp [grantOne_flow]
  have length : (requested (.lifter l) d s).flow.waiting.length = s.flow.waiting.length + 1 := by
    simp [requested]
  rw [placeRequest_requested free, evaluateGrants, testLine_flow,
    if_pos (show (requested (.lifter l) d s).body.state = .running from running), length]
  unfold grantLoop
  simp only [head, Option.getD_none, if_pos room']
  exact (grantLoop_unasked _ unlisted).1.trans granted

/-- A lifter's request that does not fit, or that stands behind another lifter's, waits. -/
theorem placeRequest_waits {d : Nat} (free : s.flow.records.get (.lifter l) = .none) (full : lifterFits s d = false)
    (unlisted : Consumer.lifter l ∉ s.flow.waiting)
    (blocked : s.body.state = .running → ∀ y, (grantOrder s.flow).head? = some y →
      s.flow.supply < grantedUnits s.flow + demandOf s.flow y) :
    (placeRequest (.lifter l) d s).flow.records.get (.lifter l) = .waiting d s.bodyTimer := by
  rw [placeRequest_requested free, evaluateGrants_records_blocked]
  · rw [requested, withFlow_flow, PerConsumer.get_set_self]
  · intro running y head
    rw [requested_head] at head
    rw [requested_units free]
    cases waits : s.flow.waiting.find? isLifter with
    | some z =>
      rw [waits] at head
      cases head
      have listed := List.mem_of_find?_eq_some waits
      have other : z ≠ .lifter l := fun same => unlisted (same ▸ listed)
      rw [Option.getD_some, requested_demand_of_ne other]
      refine blocked running z ?_
      rw [← headRequest_eq, headRequest, waits]
    | none =>
      rw [waits] at head
      cases head
      have alone : s.flow.waiting.any isLifter = false := by simpa using List.find?_eq_none.mp waits
      have beyond : s.flow.supply < grantedUnits s.flow + d := by
        have state : s.body.state = .running := running
        simpa [lifterFits, state, alone] using full
      rw [Option.getD_none, requested_demand]
      exact beyond

/-! ### The acceptance (R7, R8) -/

theorem makeReservation_events (l : Lifter) (s : State) (free : s.journal.reservations.get l = false) :
    (claimed s + 1 = 960 → LatchedAll .journalHigh (makeReservation l s))
      ∧ (claimed s + 1 = 1024 → LatchedAll .journalFull (makeReservation l s)) := by
  have moved := reservationCount_set s.journal.reservations l true
  rw [free] at moved
  have before : journalCount s.journal = claimed s := rfl
  have after : journalCount { s.journal with reservations := s.journal.reservations.set l true } = claimed s + 1 := by
    simp only [journalCount, reservationCount, claimed, Bool.toNat_true, Bool.toNat_false] at moved ⊢
    omega
  unfold makeReservation
  dsimp only
  rw [withJournal_journal, before, after]
  constructor
  · intro high
    rw [high]
    exact LatchedAll.of_quiet (latchAll_latchedAll _ _) (latchWhen_quiet _ _ _)
  · intro full
    rw [full]
    exact latchAll_latchedAll _ _

theorem emptyPending_quiet (l : Lifter) (s : State) : PortsQuiet s (emptyPending l s) :=
  ⟨fun _ => rfl, fun _ _ latched => latched⟩

/-- An admission is a reservation made for the new context and, besides the ports' latches, the tag taken. -/
theorem admitted_made (l : Lifter) (arg : Option Stream) (tag : Option Nat) (entry : Option AccountEntry) (s : State) :
    PortsQuiet (makeReservation l (evaluateInhibit (s.withContext l (some (newContext l arg tag entry s)))))
      (admitted l arg tag entry s) := by
  unfold admitted
  dsimp only
  split
  · exact emptyPending_quiet l _
  · exact .refl _

theorem makeReservation_quiet (l : Lifter) (s : State) : PortsQuiet s (makeReservation l s) := by
  have set : PortsQuiet s (s.withJournal { s.journal with reservations := s.journal.reservations.set l true }) :=
    ⟨fun _ => rfl, fun _ _ latched => latched⟩
  exact (set.trans (latchWhen_quiet _ _ _)).trans (latchWhen_quiet _ _ _)

theorem admitted_quiet (l : Lifter) (arg : Option Stream) (tag : Option Nat) (entry : Option AccountEntry) (s : State) :
    PortsQuiet s (admitted l arg tag entry s) :=
  (show PortsQuiet s (evaluateInhibit (s.withContext l (some (newContext l arg tag entry s)))) from
    ⟨fun _ => rfl, fun _ _ latched => latched⟩).trans
    ((makeReservation_quiet l _).trans (admitted_made l arg tag entry s))

theorem admitted_body (l : Lifter) (arg : Option Stream) (tag : Option Nat) (entry : Option AccountEntry) (s : State) :
    (admitted l arg tag entry s).body =
      (evaluateInhibit (s.withContext l (some (newContext l arg tag entry s)))).body := by
  have made := (makeReservation_only l (evaluateInhibit (s.withContext l (some (newContext l arg tag entry s))))).same
    .body (by decide)
  unfold admitted
  dsimp only
  split
  · exact made
  · exact made

theorem admitted_lifter (l : Lifter) (arg : Option Stream) (tag : Option Nat) (entry : Option AccountEntry) (s : State)
    (m : Lifter) : (admitted l arg tag entry s).lifter m =
      (s.withContext l (some (newContext l arg tag entry s))).lifter m :=
  congrArg (fun y => PerLifter.get y m) ((admitted_only l arg tag entry s).same .lifters (by decide))

/-- A frame that leaves lifters, packers, scan and weighing. -/
theorem OthersKept.of_only {f : List Field} (h : Only f s t) (lifters : Field.lifters ∉ f) (packers : Field.packers ∉ f)
    (scan : Field.scan ∉ f) (weigh : Field.weigh ∉ f) (l : Lifter) : OthersKept s t l where
  lifter := by rw [State.lifter, State.lifter, show t.lifters = s.lifters from h.same .lifters lifters]; rfl
  packers st := by rw [State.packer, State.packer, show t.packers = s.packers from h.same .packers packers]; rfl
  scan := by rw [show t.scan = s.scan from h.same .scan scan, PerLifter.set_get_self]
  drift := congrArg Weigh.drift (h.same .weigh weigh : t.weigh = s.weigh)
  last := congrArg Weigh.last (h.same .weigh weigh : t.weigh = s.weigh)

/-- A frame that leaves the ground. -/
theorem sameGround_of_only {f : List Field} (h : Only f s t)
    (apart : ∀ q ∈ [Field.pending, .resetHeld, .bodyTimer, .freeIndex, .banks, .bodyLimit, .calib, .access, .loader],
      q ∉ f) : SameGround s t where
  pending := h.same .pending (apart _ (by decide))
  resetHeld := h.same .resetHeld (apart _ (by decide))
  bodyTimer := h.same .bodyTimer (apart _ (by decide))
  freeIndex := h.same .freeIndex (apart _ (by decide))
  banks := h.same .banks (apart _ (by decide))
  bodyLimit := h.same .bodyLimit (apart _ (by decide))
  calib := h.same .calib (apart _ (by decide))
  access := h.same .access (apart _ (by decide))
  loader := h.same .loader (apart _ (by decide))

/-- What an accepted start does before its first phase is entered. -/
theorem admitted_accepted (l : Lifter) (arg : Option Stream) (tag : Option Nat) (entry : Option AccountEntry) (s : State) :
    StartAccepted s (admitted l arg tag entry s) l tag := by
  have only := admitted_only l arg tag entry s
  have entered := withLifter_others (s := s) (l := l)
    { s.lifter l with context := some (newContext l arg tag entry s) }
  have events := makeReservation_events l (evaluateInhibit (s.withContext l (some (newContext l arg tag entry s))))
  have made := admitted_made l arg tag entry s
  have conditions : (admitted l arg tag entry s).body.inhibitLine = true := by
    have own : (s.withContext l (some (newContext l arg tag entry s))).context l ≠ none := by
      rw [context_withContext_self]; exact Option.some_ne_none _
    have busy := lifterIdle_eq_false.mpr own
    rw [admitted_body]
    cases l <;> simp [evaluateInhibit, inhibitConditions, InhibitReasons.any, busy]
  refine ⟨admitted_journal .., admitted_tags .., fun high free => ?_, fun full free => ?_, conditions, ?_,
    only.same .compartments (by decide), only.same .integrity (by decide),
    entered.trans (OthersKept.of_only only (by decide) (by decide) (by decide) (by decide) l),
    (withLifter_books _).toSameGround.trans (sameGround_of_only only (by decide))⟩
  · exact LatchedAll.of_quiet ((events free).1 high) made
  · exact LatchedAll.of_quiet ((events free).2 full) made
  · rw [admitted_body]
    rfl

/-- What follows an acceptance and changes flow and units only. -/
theorem StartAccepted.then (h : StartAccepted s u l tag) (others : OthersKept u t l) (books : SameBooks u t)
    (quiet : PortsQuiet u t) : StartAccepted s t l tag where
  reserved := books.journal.trans h.reserved
  slot := books.tags.trans h.slot
  high count free := LatchedAll.of_quiet (h.high count free) quiet
  full count free := LatchedAll.of_quiet (h.full count free) quiet
  inhibit := by rw [books.body]; exact h.inhibit
  body := by rw [books.body]; exact h.body
  compartments := books.compartments.trans h.compartments
  integrity := books.integrity.trans h.integrity
  others := h.others.trans others
  ground := h.ground.trans books.toSameGround

theorem SameGround.around (h : SameGround (s.withPorts P) t) : SameGround s (t.withPorts Q) :=
  ⟨h.pending, h.resetHeld, h.bodyTimer, h.freeIndex, h.banks, h.bodyLimit, h.calib, h.access, h.loader⟩

theorem StartAccepted.around (h : StartAccepted (s.withPorts P) t l tag)
    (latched : ∀ e, LatchedAll e t → LatchedAll e (t.withPorts Q)) : StartAccepted s (t.withPorts Q) l tag where
  reserved := h.reserved
  slot := h.slot
  high count free := latched _ (h.high count free)
  full count free := latched _ (h.full count free)
  inhibit := h.inhibit
  body := h.body
  compartments := h.compartments
  integrity := h.integrity
  others := h.others.around
  ground := h.ground.around

/-- An accepted start: its context in RAISE_WEIGH, and the rest (R7, R8, R9, R11). -/
theorem acceptStart_accepted (free : s.flow.records.get (.lifter l) = .none) :
    StartAccepted s (acceptStart l arg tag entry s) l tag
      ∧ MovesOrFaults s (acceptStart l arg tag entry s) l
          (contextAtStart (s.lifter l) arg tag entry s.body.clockSeconds) .raiseWeigh
      ∧ PortsQuiet s (acceptStart l arg tag entry s) := by
  have only := admitted_only l arg tag entry s
  have free' : (admitted l arg tag entry s).flow.records.get (.lifter l) = .none := by
    rw [show (admitted l arg tag entry s).flow = s.flow from only.same .flow (by decide)]
    exact free
  have context : (admitted l arg tag entry s).context l = some (newContext l arg tag entry s) := by
    rw [admitted_context, if_pos rfl]
  have entered := enterMotion_entered (ph := .raiseWeigh) context free' (.inl rfl)
  have unit : (admitted l arg tag entry s).lifter l =
      { s.lifter l with context := some (newContext l arg tag entry s) } := by
    rw [admitted_lifter, State.withContext, lifter_withLifter_self]
  have sight : SameSight s (admitted l arg tag entry s) l := by
    refine ⟨?_, ?_, only.same .bodyTimer (by decide), ?_⟩
    · rw [unit]; exact ⟨rfl, rfl, rfl, rfl, rfl⟩
    · rw [unit]
    · rw [admitted_body]; rfl
  rw [acceptStart_eq, ← newContext_eq]
  exact ⟨(admitted_accepted l arg tag entry s).then entered.others entered.books entered.quiet,
    entered.own.after sight (channelFresh_congr (only.same .scan (by decide)) _),
    (admitted_quiet l arg tag entry s).trans entered.quiet⟩

/-- With the angle channel FRESH, the request of an accepted start is placed in a state with the body's flow (R9). -/
theorem acceptStart_placed (fresh : channelFresh s (armAngle l) = true) :
    ∃ y, acceptStart l arg tag entry s = placeRequest (.lifter l) 6 y ∧ y.flow = s.flow ∧ y.body.state = s.body.state
      ∧ y.bodyTimer = s.bodyTimer := by
  have only := admitted_only l arg tag entry s
  have context : (admitted l arg tag entry s).context l = some (newContext l arg tag entry s) := by
    rw [admitted_context, if_pos rfl]
  have fresh' : channelFresh (admitted l arg tag entry s) (armAngle l) = true := by
    rw [channelFresh_congr (only.same .scan (by decide))]
    exact fresh
  refine ⟨setPhase l .raiseWeigh (admitted l arg tag entry s), ?_, ?_⟩
  · rw [acceptStart_eq]
    exact if_neg fun stale => stale.2 fresh'
  · rw [setPhase_some _ context]
    exact ⟨only.same .flow (by decide), admitted_state l arg tag entry s, only.same .bodyTimer (by decide)⟩

theorem lifterFits_congr {k : Nat} (flow : t.flow = s.flow) (state : t.body.state = s.body.state) :
    lifterFits t k = lifterFits s k := by
  simp only [lifterFits, flow, state]

/-- Settles O10: what an acceptance does to the ports' state (`acceptStart_accepted`), with the request of RAISE_WEIGH
granted or waiting as R53 has it. -/
theorem startLiftAccepted : Obligations.StartLiftAccepted := by
  unfold Obligations.StartLiftAccepted
  intro p n d l arg tag entry s s1 accepts lifter stream idle free early permission late
  have lookup := tagPermission_only l s
  rw [permission] at lookup
  have same : startStream l arg entry s1 = streamFor (s.lifter l) arg entry := by
    rw [startStream_eq, State.lifter, permission_lifters permission]; rfl
  rw [← same] at late
  have unit : s1.lifter l = s.lifter l := congrArg (fun y => PerLifter.get y l) (permission_lifters permission)
  have flow : s1.flow = s.flow := lookup.same .flow (by decide)
  have body : s1.body = s.body := lookup.same .body (by decide)
  have timer : s1.bodyTimer = s.bodyTimer := lookup.same .bodyTimer (by decide)
  have free1 : (takeRequest p n Kind.startLift.code s1).flow.records.get (.lifter l) = .none := by
    rw [show (takeRequest p n Kind.startLift.code s1).flow = s.flow from flow]
    exact free
  obtain ⟨accepted, motion, quiet⟩ := acceptStart_accepted (arg := arg) (tag := tag) (entry := entry) free1
  have looked : PortsQuiet (takeRequest p n Kind.startLift.code s) (takeRequest p n Kind.startLift.code s1) := by
    have reads := (tagPermission_reads l (takeRequest p n Kind.startLift.code s)).quiet
    rw [permission_takeRequest permission] at reads
    exact reads
  obtain ⟨Q, run, answered, latched⟩ := exec_taken (i := .startLift p n d) accepts rfl
    (decideStartLift_accepted lifter stream (by exact idle)
      (startLifter_accepted (s := takeRequest p n Kind.startLift.code s) (by exact early)
        (permission_takeRequest permission) (by exact late))) (looked.trans quiet)
  refine ⟨_, run, answered, StartAccepted.around (P := (takeRequest p n Kind.startLift.code s1).ports) accepted latched,
    ?_, fun fresh fits => ?_, fun fresh full law unlisted => ?_⟩
  · rw [← unit, ← body]
    exact MovesOrFaults.around (P := (takeRequest p n Kind.startLift.code s1).ports) motion (latched _)
  · obtain ⟨y, placed, flow', state', -⟩ := acceptStart_placed (s := takeRequest p n Kind.startLift.code s1) (l := l)
      (arg := arg) (tag := tag) (entry := entry)
      ((channelFresh_congr (lookup.same .scan (by decide)) _).trans fresh)
    rw [withPorts_flow, placed]
    refine placeRequest_granted (by rw [flow']; exact free1) ?_
    rw [lifterFits_congr (s := s) (flow'.trans flow) (state'.trans (congrArg Body.state body))]
    exact fits
  · obtain ⟨y, placed, flow', state', timer'⟩ := acceptStart_placed (s := takeRequest p n Kind.startLift.code s1) (l := l)
      (arg := arg) (tag := tag) (entry := entry)
      ((channelFresh_congr (lookup.same .scan (by decide)) _).trans fresh)
    have flowY : y.flow = s.flow := flow'.trans flow
    have stateY : y.body.state = s.body.state := state'.trans (congrArg Body.state body)
    rw [withPorts_flow, placed, ← timer, show s1.bodyTimer = y.bodyTimer from timer'.symm]
    refine placeRequest_waits (by rw [flow']; exact free1) ?_ (by rw [flowY]; exact unlisted) ?_
    · rw [lifterFits_congr flowY stateY]
      exact full
    · rw [flowY, stateY]
      exact law.blocked

end Sys2Proof.Safety
end

section
/-! PROOFS. A held lifter that resumes (R21), by request (O14) and by a rear start press (O12). -/

namespace Sys2Proof.Safety

open Sys2Proof.Machine

variable {s t u s1 : State} {l m : Lifter} {c k : LiftContext} {p : Port} {n kb : Byte} {d : List Byte}
  {tag : Option Nat} {entry : Option AccountEntry} {ph : Phase} {r : Reason}

/-! ### A motion entered from another context of the same lifter -/

theorem SameSight.unitSet (v : LifterUnit) (unit : SameUnit (s.lifter l) v) (fault : v.lastFault = (s.lifter l).lastFault) :
    SameSight s (s.withLifter l v) l :=
  ⟨by rw [lifter_withLifter_self]; exact unit, by rw [lifter_withLifter_self]; exact fault, rfl, rfl⟩

/-- A motion entered after a change of the lifter's own unit. -/
theorem MotionEntered.afterUnit {v : LifterUnit} (h : MotionEntered (s.withLifter l v) t l c ph)
    (unit : SameUnit (s.lifter l) v) (fault : v.lastFault = (s.lifter l).lastFault) : MotionEntered s t l c ph where
  own := h.own.after (.unitSet v unit fault) rfl
  others := (withLifter_others v).trans h.others
  books := (withLifter_books v).trans h.books
  scan := h.scan
  weigh := h.weigh
  quiet := (show PortsQuiet s (s.withLifter l v) from ⟨fun _ => rfl, fun _ _ latched => latched⟩).trans h.quiet

theorem MotionEntered.ofContext (h : MotionEntered s t l c ph)
    (same : { stopTimers k with phase := ph } = { stopTimers c with phase := ph }) : MotionEntered s t l k ph :=
  { h with own := h.own.ofContext same }

/-- A lifter given the context k, and a phase that moves entered from it. -/
theorem enterMotion_withContext (k : LiftContext) (free : s.flow.records.get (.lifter l) = .none) (moving : moves ph) :
    MotionEntered s (enterMotion l ph (s.withLifter l { s.lifter l with context := some k })) l k ph :=
  (enterMotion_entered (s := s.withLifter l { s.lifter l with context := some k })
    (by rw [State.context, lifter_withLifter_self]) free moving).afterUnit ⟨rfl, rfl, rfl, rfl, rfl⟩ rfl

/-- A request of a lifter that ends in a motion phase or RETURNING. -/
theorem exec_motion {kind : Kind} {i : Instr} {owner : State → Decision} (accepts : Accepts kind p d s)
    (serves : exec i s = .next (serve kind p n d owner s)) (decides : owner (takeRequest p n kind.code s) = taken u)
    (entered : MotionEntered (takeRequest p n kind.code s) u l c ph) :
    ∃ t, exec i s = .next t ∧ Answered s t p n kind (.ok []) ∧ MovesOrFaults s t l c ph ∧ OthersKept s t l
      ∧ SameBooks s t := by
  obtain ⟨Q, run, answered, latched⟩ := exec_taken accepts serves decides entered.quiet
  exact ⟨_, run, answered, MovesOrFaults.around (P := (takeRequest p n kind.code s).ports) entered.own (latched _),
    OthersKept.around (P := (takeRequest p n kind.code s).ports) entered.others, entered.books.withPorts⟩

/-! ### A phase re-entered (R21) -/

/-- A lifter's unit in a weigh phase entered without drift (R12), and in DUMP_DWELL entered (R16). -/
def unitWeighing (s : State) (l : Lifter) (c : LiftContext) (ph : Phase) : LifterUnit :=
  { s.lifter l with
    raiseValve := false
    lowerValve := false
    context := some
      { stopTimers c with
        phase := ph
        settleTimer := some s.bodyTimer
        limitTimer := some s.bodyTimer } }

def unitDwelling (s : State) (l : Lifter) (c : LiftContext) : LifterUnit :=
  { s.lifter l with
    raiseValve := false
    lowerValve := false
    context := some
      { stopTimers c with
        phase := .dumpDwell
        dumped := true
        dwellTimer := some s.bodyTimer } }

theorem enterWeigh_resumed (context : s.context l = some c) (steady : (s.weigh.drift.get l).disabled = false) :
    enterWeigh l ph false s = s.withLifter l (unitWeighing s l c ph) := by
  have own : (s.withLifter l (unitEntering (s.lifter l) c ph)).context l = some { stopTimers c with phase := ph } := by
    rw [State.context, lifter_withLifter_self]; rfl
  unfold enterWeigh
  simp only [setPhase_some ph context, steady, Bool.false_eq_true, if_false]
  rw [mapContext_some _ own, withLifter_withLifter, mapContext_some _ (by rw [State.context, lifter_withLifter_self]),
    withLifter_withLifter, lifter_withLifter_self, lifter_withLifter_self]
  rfl

theorem enterDumpDwell_entered (context : s.context l = some c) :
    enterDumpDwell l s = s.withLifter l (unitDwelling s l c) := by
  have own : (s.withLifter l (unitEntering (s.lifter l) c .dumpDwell)).context l =
      some { stopTimers c with phase := .dumpDwell } := by
    rw [State.context, lifter_withLifter_self]; rfl
  rw [enterDumpDwell, setPhase_some _ context, mapContext_some _ own, withLifter_withLifter, lifter_withLifter_self]
  rfl

theorem afterWeigh_moves (ph : Phase) : moves (afterWeigh ph) := by cases ph <;> exact .inl rfl

/-- A weigh phase of a lifter that drift has disabled ends at its entry, resumed or afresh (R124). -/
theorem enterWeigh_disabled (afresh : Bool) (context : s.context l = some c)
    (disabled : (s.weigh.drift.get l).disabled = true) (free : s.flow.records.get (.lifter l) = .none) :
    MotionEntered s (enterWeigh l ph afresh s) l
      { c with retry := if afresh then 0 else c.retry, outcome := .zeroDrift } (afterWeigh ph) := by
  have own : (s.withLifter l (unitEntering (s.lifter l) c ph)).context l = some { stopTimers c with phase := ph } := by
    rw [State.context, lifter_withLifter_self]; rfl
  unfold enterWeigh
  simp only [setPhase_some ph context, disabled, if_true]
  rw [mapContext_some _ own, withLifter_withLifter, mapContext_some _ (by rw [State.context, lifter_withLifter_self]),
    withLifter_withLifter, lifter_withLifter_self, lifter_withLifter_self]
  have entered (k : LiftContext) := (enterMotion_entered
    (s := s.withLifter l { unitEntering (s.lifter l) c ph with context := some k })
    (by rw [State.context, lifter_withLifter_self]) free (afterWeigh_moves ph)).afterUnit ⟨rfl, rfl, rfl, rfl, rfl⟩ rfl
  cases afresh
  · exact (entered _).ofContext rfl
  · exact (entered _).ofContext rfl

/-! ### What a resume decides (R21) -/

theorem resumeLifter_notHeld (other : s.phase l ≠ some .held) : resumeLifter l s = .notHeld := by
  unfold resumeLifter
  split
  · rfl
  · next c context =>
    split
    · next held => exact absurd (by rw [State.phase, context]; exact congrArg some held) other
    · rfl

theorem resumeLifter_refused (context : s.context l = some c) (held : c.phase = .held)
    (uncleared : firstFailure (resumeChecks l c.reasons s) = some r) : resumeLifter l s = .refused r := by
  rw [← unclearedReason_eq] at uncleared
  simp only [resumeLifter, context, held, uncleared]

theorem resumeLifter_taken (context : s.context l = some c) (held : c.phase = .held)
    (cleared : firstFailure (resumeChecks l c.reasons s) = none) (back : c.remembered = some ph) :
    resumeLifter l s =
      .taken (reenterPhase l ph (s.withLifter l { s.lifter l with context := some (clearHold c) })) := by
  rw [← unclearedReason_eq] at cleared
  simp only [resumeLifter, context, held, cleared, back, Option.getD_some, mapContext_some clearHold context]

theorem reenterPhase_moves (moving : moves ph) (s : State) : reenterPhase l ph s = enterMotion l ph s := by
  cases ph <;> simp_all [moves, isMotion, reenterPhase]

theorem reenterPhase_weigh (weighs : isWeigh ph = true) (s : State) : reenterPhase l ph s = enterWeigh l ph false s := by
  cases ph <;> simp_all [isWeigh, reenterPhase]

/-- The phase a resume re-enters, from the held context. -/
theorem resumed_moves (free : s.flow.records.get (.lifter l) = .none) (moving : moves ph) :
    MotionEntered s (reenterPhase l ph (s.withLifter l { s.lifter l with context := some (clearHold c) })) l
      (clearHold c) ph := by
  rw [reenterPhase_moves moving]
  exact enterMotion_withContext _ free moving

theorem resumed_weighs (weighs : isWeigh ph = true) (steady : (s.weigh.drift.get l).disabled = false) :
    reenterPhase l ph (s.withLifter l { s.lifter l with context := some (clearHold c) }) =
      s.withLifter l (unitWeighing s l (clearHold c) ph) := by
  rw [reenterPhase_weigh weighs, enterWeigh_resumed (c := clearHold c) (by rw [State.context, lifter_withLifter_self])
    (by exact steady), withLifter_withLifter]
  simp only [unitWeighing, lifter_withLifter_self, withLifter_bodyTimer]

theorem resumed_disabled (free : s.flow.records.get (.lifter l) = .none) (weighs : isWeigh ph = true)
    (disabled : (s.weigh.drift.get l).disabled = true) :
    MotionEntered s (reenterPhase l ph (s.withLifter l { s.lifter l with context := some (clearHold c) })) l
      { clearHold c with outcome := .zeroDrift } (afterWeigh ph) := by
  rw [reenterPhase_weigh weighs]
  have entered := enterWeigh_disabled (s := s.withLifter l { s.lifter l with context := some (clearHold c) }) (ph := ph)
    (c := clearHold c) false (by rw [State.context, lifter_withLifter_self]) disabled free
  exact entered.afterUnit ⟨rfl, rfl, rfl, rfl, rfl⟩ rfl

theorem resumed_dwells :
    reenterPhase l .dumpDwell (s.withLifter l { s.lifter l with context := some (clearHold c) }) =
      s.withLifter l (unitDwelling s l (clearHold c)) := by
  change enterDumpDwell l _ = _
  rw [enterDumpDwell_entered (c := clearHold c) (by rw [State.context, lifter_withLifter_self]), withLifter_withLifter]
  simp only [unitDwelling, lifter_withLifter_self, withLifter_bodyTimer]

/-! ### Resume Lift (R21, R24) -/

theorem decideResumeLift_taken (lifter : lifterArg (byteAt d 0) = some l) (taken : resumeLifter l s = .taken t) :
    decideResumeLift d s = Machine.taken t := by
  simp only [decideResumeLift, lifter, taken]

theorem decideResumeLift_refused (lifter : lifterArg (byteAt d 0) = some l) (refused : resumeLifter l s = .refused r) :
    decideResumeLift d s = declined (.refused r) s := by
  simp only [decideResumeLift, lifter, refused]

theorem decideResumeLift_notHeld (lifter : lifterArg (byteAt d 0) = some l) (other : s.phase l ≠ some .held) :
    decideResumeLift d s = declined .busy s := by
  simp only [decideResumeLift, lifter, resumeLifter_notHeld other]

theorem decideResumeLift_bad (bad : lifterArg (byteAt d 0) = none) :
    decideResumeLift d s = declined .badArgument s := by
  simp only [decideResumeLift, bad]

/-- Settles O14: each remembered phase re-entered as its entry says (`resumed_moves`, `resumed_weighs`,
`resumed_disabled`, `resumed_dwells`). -/
theorem resumeLiftDecided : Obligations.ResumeLiftDecided := by
  unfold Obligations.ResumeLiftDecided
  intro p n d l c ph r s accepts
  refine ⟨fun lifter other => ?_, fun bad => ?_, fun lifter context held uncleared => ?_,
    fun lifter context held back cleared free moving => ?_, fun lifter context held back cleared weighs steady => ?_,
    fun lifter context held back cleared free weighs disabled => ?_, fun lifter context held back cleared => ?_⟩
  · exact exec_decided accepts rfl (decideResumeLift_notHeld lifter (by exact other))
  · exact exec_decided accepts rfl (decideResumeLift_bad bad)
  · exact exec_decided accepts rfl (decideResumeLift_refused lifter
      (resumeLifter_refused (s := takeRequest p n Kind.resumeLift.code s) (by exact context) held (by exact uncleared)))
  · exact exec_motion (i := .resumeLift p n d) accepts rfl (decideResumeLift_taken lifter
      (resumeLifter_taken (s := takeRequest p n Kind.resumeLift.code s) (by exact context) held (by exact cleared) back))
      (resumed_moves (by exact free) moving)
  · exact exec_decided accepts rfl ((decideResumeLift_taken lifter
      (resumeLifter_taken (s := takeRequest p n Kind.resumeLift.code s) (by exact context) held (by exact cleared) back)).trans
      (congrArg taken (resumed_weighs (s := takeRequest p n Kind.resumeLift.code s) weighs (by exact steady))))
  · exact exec_motion (i := .resumeLift p n d) accepts rfl (decideResumeLift_taken lifter
      (resumeLifter_taken (s := takeRequest p n Kind.resumeLift.code s) (by exact context) held (by exact cleared) back))
      (resumed_disabled (by exact free) weighs (by exact disabled))
  · exact exec_decided accepts rfl ((decideResumeLift_taken lifter
      (resumeLifter_taken (s := takeRequest p n Kind.resumeLift.code s) (by exact context) held (by exact cleared) back)).trans
      (congrArg taken resumed_dwells))

/-! ### A rear start press (R26) -/

/-- s with the start button of a lifter pressed. -/
def startHeld (l : Lifter) (s : State) : State := s.withLifter l { s.lifter l with startPressed := true }

theorem exec_rearStart_again (pressed : (s.lifter l).startPressed = true) : exec (.rearStartPress l) s = .next s :=
  congrArg Host.Outcome.next (if_pos pressed)

theorem exec_rearStart_stopped (first : (s.lifter l).startPressed = false) (stop : (s.lifter l).stopPressed = true) :
    exec (.rearStartPress l) s = .next (startHeld l s) :=
  congrArg Host.Outcome.next ((if_neg (by rw [first]; exact Bool.false_ne_true)).trans (if_pos (.inr stop)))

theorem exec_rearStart (awake : s.resetHeld = false) (first : (s.lifter l).startPressed = false)
    (free : (s.lifter l).stopPressed = false) : exec (.rearStartPress l) s = .next (startPress l (startHeld l s)) :=
  congrArg Host.Outcome.next ((if_neg (by rw [first]; exact Bool.false_ne_true)).trans
    (if_neg (by rw [awake, free]; exact fun h => by rcases h with h | h <;> cases h)))

theorem startHeld_context (l m : Lifter) (s : State) : (startHeld l s).context m = s.context m := by
  cases l <;> cases m <;> rfl

theorem startHeld_startChecks (l : Lifter) (s : State) : startChecks l (startHeld l s) = startChecks l s := by
  cases l <;> rfl

theorem startPress_idle (idle : s.context l = none) : startPress l s = (startLifter l none .rear s).2 := by
  simp only [startPress, State.phase, idle, Option.map_none]

theorem startPress_held (context : s.context l = some c) (held : c.phase = .held) :
    startPress l s = resumeFromRear l s := by
  simp only [startPress, State.phase, context, Option.map_some, held]

theorem startPress_ignored (context : s.context l = some c) (other : c.phase ≠ .held) : startPress l s = s := by
  simp only [startPress, State.phase, context, Option.map_some]

theorem resumeFromRear_taken (taken : resumeLifter l s = .taken t) : resumeFromRear l s = t := by
  simp only [resumeFromRear, taken]

theorem resumeFromRear_refused (refused : resumeLifter l s = .refused r) : resumeFromRear l s = s := by
  simp only [resumeFromRear, refused]

theorem startHeld_others (l : Lifter) (s : State) : OthersKept s (startHeld l s) l := withLifter_others _
theorem startHeld_books (l : Lifter) (s : State) : SameBooks s (startHeld l s) := withLifter_books _
theorem startHeld_quiet (l : Lifter) (s : State) : PortsQuiet s (startHeld l s) :=
  ⟨fun _ => rfl, fun _ _ latched => latched⟩

/-- Settles O12: in IDLE a start (`startLifter_accepted` and the refusals), in HELD a resume (`resumed_moves` and the
like), and otherwise the press alone. -/
theorem rearStartPressActs : Obligations.RearStartPressActs := by
  unfold Obligations.RearStartPressActs
  intro l tag entry r c ph s s0 s1 awake pressed
  have start : s0 = startHeld l s := pressed
  subst start
  have runs (first : (s.lifter l).startPressed = false) (free : (s.lifter l).stopPressed = false) :=
    exec_rearStart awake first free
  have idle {l : Lifter} (h : s.context l = none) : (startHeld l s).context l = none := by rw [startHeld_context, h]
  have context (h : s.context l = some c) : (startHeld l s).context l = some c := by rw [startHeld_context, h]
  have checks (h : firstFailure (startChecks l s) = none) : firstFailure (startChecks l (startHeld l s)) = none := by
    rw [startHeld_startChecks, h]
  have unit : streamFor ((startHeld l s).lifter l) none entry = streamFor (s.lifter l) none entry := by
    cases l <;> rfl
  have stream {a : Permission} (permission : tagPermission l (startHeld l s) = (a, s1)) :
      startStream l none entry s1 = streamFor (s.lifter l) none entry := by
    rw [startStream_eq, State.lifter, permission_lifters permission]
    exact unit
  have clock {a : Permission} (permission : tagPermission l (startHeld l s) = (a, s1)) :
      s1.body.clockSeconds = s.body.clockSeconds := by
    have same := (tagPermission_only l (startHeld l s)).same .body (by decide)
    rw [permission] at same
    exact congrArg Body.clockSeconds same
  have resumes (h : s.context l = some c) (held : c.phase = .held)
      (cleared : firstFailure (resumeChecks l c.reasons s) = none) {x : Phase} (back : c.remembered = some x) :=
    (startPress_held (context h) held).trans (resumeFromRear_taken
      (resumeLifter_taken (s := startHeld l s) (context h) held (by exact cleared) back))
  refine ⟨exec_rearStart_again, exec_rearStart_stopped, fun first free none flow early permission late => ?_,
    fun first free none early => ?_, fun first free none early permission => ?_,
    fun first free none early permission late => ?_, fun first free some held uncleared => ?_,
    fun first free some held cleared back flow moving => ?_, fun first free some held cleared back weighs steady => ?_,
    fun first free some held cleared back flow weighs disabled => ?_, fun first free some held cleared back => ?_,
    fun first free some other => ?_, fun stop => congrArg Host.Outcome.next (if_pos stop)⟩
  · rw [← stream permission] at late
    have lookup := tagPermission_only l (startHeld l s)
    have reads := (tagPermission_reads l (startHeld l s)).quiet
    rw [permission] at lookup reads
    have flow1 : s1.flow.records.get (.lifter l) = .none := by
      rw [show s1.flow = s.flow from lookup.same .flow (by decide)]
      exact flow
    obtain ⟨accepted, motion, quiet⟩ := acceptStart_accepted (arg := Option.none) (tag := tag) (entry := entry) flow1
    have from0 : contextAtStart (s1.lifter l) Option.none tag entry s1.body.clockSeconds =
        contextAtStart (s.lifter l) Option.none tag entry s.body.clockSeconds := by
      rw [clock permission, State.lifter, permission_lifters permission]
      cases l <;> rfl
    rw [from0] at motion
    refine ⟨_, (runs first free).trans ?_, ((startHeld_quiet l s).trans reads).trans quiet, accepted, motion⟩
    rw [startPress_idle (idle none), startLifter_accepted (checks early) permission late]
  · rw [runs first free, startPress_idle (idle none),
      startLifter_early (r := r) (by rw [startHeld_startChecks]; exact early)]
    rfl
  · rw [runs first free, startPress_idle (idle none), startLifter_refused (checks early) permission, ← clock permission]
    rfl
  · rw [← stream permission] at late
    rw [runs first free, startPress_idle (idle none), startLifter_late (checks early) permission late, ← clock permission]
    rfl
  · rw [runs first free, startPress_held (context some) held, resumeFromRear_refused
      (resumeLifter_refused (s := startHeld l s) (context some) held (by exact uncleared))]
  · have entered := resumed_moves (s := startHeld l s) (c := c) (by exact flow) moving
    exact ⟨_, (runs first free).trans (congrArg Host.Outcome.next (resumes some held cleared back)),
      (startHeld_quiet l s).trans entered.quiet, entered.own, (startHeld_others l s).trans entered.others,
      (startHeld_books l s).trans entered.books⟩
  · rw [runs first free, resumes some held cleared back, resumed_weighs weighs (by exact steady)]
    rfl
  · have entered := resumed_disabled (s := startHeld l s) (c := c) (by exact flow) weighs (by exact disabled)
    exact ⟨_, (runs first free).trans (congrArg Host.Outcome.next (resumes some held cleared back)),
      (startHeld_quiet l s).trans entered.quiet, entered.own, (startHeld_others l s).trans entered.others,
      (startHeld_books l s).trans entered.books⟩
  · rw [runs first free, resumes some held cleared back, resumed_dwells]
    rfl
  · rw [runs first free, startPress_ignored (context some) other]

end Sys2Proof.Safety
end

section
/-! SUPPORT. The lift-triggered cycles of a lift (R75) and what they leave of the lifters, and a lifter's phase that ends:
its window withdrawn, its flow given back. -/

namespace Sys2Proof.Safety

open Sys2Proof.Machine

variable {s t u : State} {l m : Lifter} {st : Stream} {c k : LiftContext} {ph : Phase}

/-! ### A lifter that asks for nothing while others' requests are decided -/

/-- A lifter without a place in the waiting list: neither its record nor its unit changes. -/
def Bystands (l : Lifter) (s t : State) : Prop :=
  Consumer.lifter l ∉ s.flow.waiting → Consumer.lifter l ∉ t.flow.waiting
    ∧ t.flow.records.get (.lifter l) = s.flow.records.get (.lifter l) ∧ t.lifter l = s.lifter l

theorem Bystands.refl (l : Lifter) (s : State) : Bystands l s s := fun h => ⟨h, rfl, rfl⟩

theorem Bystands.trans (h : Bystands l s t) (k : Bystands l t u) : Bystands l s u := fun away => by
  obtain ⟨away', record, unit⟩ := h away
  obtain ⟨away'', record', unit'⟩ := k away'
  exact ⟨away'', record'.trans record, unit'.trans unit⟩

theorem Bystands.withPacker (st : Stream) (k : Packer) (s : State) : Bystands l s (s.withPacker st k) :=
  fun h => ⟨h, rfl, rfl⟩

theorem evaluateGrants_bystands (l : Lifter) (s : State) : Bystands l s (evaluateGrants s) := fun away =>
  have grants := evaluateGrants_grantsOnly s
  ⟨fun listed => away (grants.list _ listed), grants.records _ away, grants.unasked _ away⟩

theorem placeRequest_bystands (l : Lifter) (st : Stream) (d : Nat) (s : State) :
    Bystands l s (placeRequest (.packer st) d s) := by
  unfold placeRequest
  split
  · refine Bystands.trans (t := requested (.packer st) d s) (fun away => ⟨?_, ?_, rfl⟩) (evaluateGrants_bystands l _)
    · simpa [requested] using away
    · exact PerConsumer.get_set_of_ne _ _ _ _ (by simp)
  · exact .refl l s

theorem giveBackFlow_bystands (l : Lifter) (st : Stream) (s : State) :
    Bystands l s (giveBackFlow (.packer st) s) := by
  obtain ⟨-, same⟩ | dropped := giveBackFlow_cases (.packer st) s
  · rw [same]
    exact .refl l s
  · rw [dropped]
    refine Bystands.trans (t := dropRecord (.packer st) s) (fun away => ⟨?_, ?_, rfl⟩) (evaluateGrants_bystands l _)
    · simpa [dropRecord] using away
    · exact PerConsumer.get_set_of_ne _ _ _ _ (by simp)

theorem enterStroke_bystands (l : Lifter) (st : Stream) (ph : StrokePhase) (s : State) :
    Bystands l s (enterStroke st ph s) := by
  unfold enterStroke
  split
  · exact ((Bystands.withPacker st _ s).trans (giveBackFlow_bystands l st _)).trans fun away => ⟨away, rfl, rfl⟩
  · exact (Bystands.withPacker st _ s).trans (placeRequest_bystands l st _ _)

theorem tryStart_bystands (l : Lifter) (st : Stream) (s : State) : Bystands l s (tryStart st s) := by
  unfold tryStart
  split
  · exact (Bystands.withPacker st _ s).trans (enterStroke_bystands l st _ _)
  · exact .refl l s

theorem addCycles_bystands (l : Lifter) (n : Nat) (st : Stream) (s : State) : Bystands l s (addCycles n st s) := by
  induction n generalizing s with
  | zero => exact .refl l s
  | succ n ih =>
    refine Bystands.trans ?_ (ih _)
    unfold addCycle
    split
    · exact (Bystands.withPacker st _ s).trans (tryStart_bystands l st _)
    · exact .withPacker st _ s

/-! ### Lift-triggered cycles (R75) -/

/-- A packer with n cycles asked for, none of them started. -/
def withAsked (n : Nat) (k : Packer) : Packer :=
  { k with
    pending := max k.pending (min 3 (k.pending + n))
    dropped := max k.dropped (min 65535 (k.dropped + (k.pending + n - max 3 k.pending))) }

theorem withAsked_zero (k : Packer) : withAsked 0 k = k := by
  have pending : max k.pending (min 3 (k.pending + 0)) = k.pending := by omega
  have dropped : max k.dropped (min 65535 (k.dropped + (k.pending + 0 - max 3 k.pending))) = k.dropped := by omega
  unfold withAsked
  rw [pending, dropped]

theorem withAsked_room {k : Packer} (n : Nat) (room : k.pending < 3) :
    withAsked n (oneMore k) = withAsked (n + 1) k := by
  unfold withAsked oneMore
  congr 1
  · dsimp only; omega
  · dsimp only; congr 3; omega

theorem withAsked_full {k : Packer} (n : Nat) (full : 3 ≤ k.pending) :
    withAsked n { k with dropped := saturatingSucc top16 k.dropped } = withAsked (n + 1) k := by
  unfold withAsked saturatingSucc top16
  congr 1
  · dsimp only; omega
  · dsimp only; split <;> omega

theorem cycleStarts_withPacker {k : Packer} (state : k.state = (s.packer st).state) (mode : k.mode = (s.packer st).mode) :
    CycleStarts (s.withPacker st k) st ↔ CycleStarts s st := by
  simp only [CycleStarts, packer_withPacker_self, state, mode, withPacker_body]

/-- Cycles asked of a packer that starts none are counted. -/
theorem addCycles_stays (n : Nat) (stays : ¬ CycleStarts s st) :
    addCycles n st s = s.withPacker st (withAsked n (s.packer st)) := by
  induction n generalizing s with
  | zero =>
    rw [withAsked_zero]
    cases st <;> rfl
  | succ n ih =>
    by_cases room : (s.packer st).pending < 3
    · rw [addCycles, addCycle_stays room stays, ih ((cycleStarts_withPacker (k := oneMore (s.packer st)) rfl rfl).not.mpr stays),
        packer_withPacker_self, withPacker_withPacker, withAsked_room n room]
    · have full : 3 ≤ (s.packer st).pending := Nat.le_of_not_lt room
      rw [addCycles, addCycle_full full, ih ((cycleStarts_withPacker
        (k := { s.packer st with dropped := saturatingSucc top16 (s.packer st).dropped }) rfl rfl).not.mpr stays),
        packer_withPacker_self, withPacker_withPacker, withAsked_full n full]

theorem addCycles_packOthers (n : Nat) (st : Stream) (s : State) : PackOthersKept s (addCycles n st s) st := by
  induction n generalizing s with
  | zero => exact .refl
  | succ n ih =>
    refine PackOthersKept.trans ?_ (ih _)
    unfold addCycle
    split
    · exact (withPacker_others _).trans tryStart_packOthers
    · exact withPacker_others _

theorem PackerUpToGrant.dropped {k m : Packer} (h : PackerUpToGrant k m) : m.dropped = k.dropped :=
  (congrArg Packer.dropped h : (barePacker m).dropped = (barePacker k).dropped)
theorem PackerUpToGrant.settings {k m : Packer} (h : PackerUpToGrant k m) : m.settings = k.settings :=
  (congrArg Packer.settings h : (barePacker m).settings = (barePacker k).settings)

theorem startCycle_dropped (fresh : PackFresh s st) : ((startCycle st s).packer st).dropped = (s.packer st).dropped := by
  have live : staleCause st (s.withPacker st { s.packer st with pending := (s.packer st).pending - 1 }) = none :=
    Option.eq_none_iff_forall_ne_some.mpr fun a stale => staleCause_some_iff.mp ⟨a, stale⟩ (by exact fresh)
  have unit := placeRequest_unit (.packer st) 8
    ((s.withPacker st { s.packer st with pending := (s.packer st).pending - 1 }).withPacker st
      { stopPacker ((s.withPacker st { s.packer st with pending := (s.packer st).pending - 1 }).packer st) with
        state := .stroke .extending }) st
  rw [startCycle, enterStroke, live]
  refine unit.dropped.trans ?_
  rw [packer_withPacker_self, packer_withPacker_self]
  rfl

/-- The first of the cycles asked for is started by an IDLE packer, the others are counted (R69, R75). -/
theorem addCycles_started {n : Nat} (starts : CycleStarts s st) (fresh : PackFresh s st)
    (empty : (s.packer st).pending = 0) (few : n + 1 ≤ 3) :
    ((addCycles (n + 1) st s).packer st).state = .stroke .extending
      ∧ ((addCycles (n + 1) st s).packer st).pending = n
      ∧ ((addCycles (n + 1) st s).packer st).dropped = (s.packer st).dropped := by
  have room : (s.packer st).pending < 3 := by omega
  obtain ⟨state, pending⟩ := startCycle_unit (s := s.withPacker st (oneMore (s.packer st))) (st := st) fresh
  have dropped := startCycle_dropped (s := s.withPacker st (oneMore (s.packer st))) (st := st) fresh
  rw [packer_withPacker_self] at pending dropped
  change _ = (s.packer st).pending + 1 - 1 at pending
  change _ = (s.packer st).dropped at dropped
  have stays : ¬ CycleStarts (startCycle st (s.withPacker st (oneMore (s.packer st)))) st := fun ⟨idle, _⟩ => by
    rw [state] at idle
    cases idle
  rw [addCycles, addCycle_starts room starts, addCycles_stays n stays, packer_withPacker_self]
  refine ⟨state, ?_, ?_⟩
  · simp only [withAsked, pending]
    omega
  · simp only [withAsked, pending, dropped]
    omega

theorem liftTriggeredCycles_given : CyclesGiven s (liftTriggeredCycles st s) st where
  counted stays := by
    rw [liftTriggeredCycles, addCycles_stays _ stays, packer_withPacker_self]
    rfl
  started starts fresh empty some few := by
    obtain ⟨n, same⟩ := Nat.exists_eq_succ_of_ne_zero (Nat.ne_of_gt some)
    rw [same] at few
    rw [liftTriggeredCycles, same]
    exact addCycles_started starts fresh empty few
  others su hne := (addCycles_packOthers _ st s).packer su hne

/-- Cycles given, seen from a state before that differs by grants, and to one after that differs by grants. -/
theorem CyclesGiven.between (h : CyclesGiven u t st) (before : ∀ su, PackerUpToGrant (s.packer su) (u.packer su))
    (body : u.body = s.body) (fresh : PackFresh s st → PackFresh u st) : CyclesGiven s t st where
  counted stays := by
    have same : PackerUpToGrant (withCycles (s.packer st)) (withCycles (u.packer st)) := by
      have bare := before st
      simp only [PackerUpToGrant, barePacker, Packer.mk.injEq] at bare ⊢
      obtain ⟨mode, settings, state, pending, dropped, stopping, short, fault, rest⟩ := bare
      simp only [withCycles, mode, settings, state, pending, dropped, stopping, short, fault, and_self]
    refine same.trans (h.counted fun starts => stays ?_)
    obtain ⟨idle, mode, running, closed⟩ := starts
    exact ⟨(before st).state.symm.trans idle, (before st).mode ▸ mode, body ▸ running, body ▸ closed⟩
  started starts live empty some few := by
    obtain ⟨idle, mode, running, closed⟩ := starts
    have settings := (before st).settings
    have begun := h.started ⟨(before st).state.trans idle, by rw [(before st).mode]; exact mode,
      by rw [body]; exact running, by rw [body]; exact closed⟩ (fresh live) ((before st).pending.trans empty)
      (by rw [settings]; exact some) (by rw [settings]; exact few)
    rw [settings, (before st).dropped] at begun
    exact begun
  others su hne := (before su).trans (h.others su hne)

theorem CyclesGiven.then (h : CyclesGiven s u st) (after : ∀ su, PackerUpToGrant (u.packer su) (t.packer su)) :
    CyclesGiven s t st where
  counted stays := (h.counted stays).trans (after st)
  started starts live empty some few := by
    obtain ⟨state, pending, dropped⟩ := h.started starts live empty some few
    exact ⟨(after st).state.trans state, (after st).pending.trans pending, (after st).dropped.trans dropped⟩
  others su hne := (h.others su hne).trans (after su)

/-- The cycles of a lift given (R16, R22): its context keeps that they were. -/
theorem giveLiftCycles_some (context : s.context l = some c) : giveLiftCycles l s =
    liftTriggeredCycles c.stream (s.withLifter l { s.lifter l with context := some { c with cyclesGiven := true } }) := by
  simp only [giveLiftCycles, context, mapContext_some _ context]

/-- What giving a lift's cycles leaves: its own lifter, without a request, but for the mark; the rest up to grants. -/
structure LiftCyclesGiven (s t : State) (l : Lifter) (c : LiftContext) : Prop where
  unit : t.lifter l = { s.lifter l with context := some { c with cyclesGiven := true } }
  record : t.flow.records.get (.lifter l) = s.flow.records.get (.lifter l)
  other : LifterUpToGrant (s.lifter (otherLifter l)) (t.lifter (otherLifter l))
  given : CyclesGiven s t c.stream
  only : Only flowParts s t
  quiet : PortsQuiet s t

theorem giveLiftCycles_given (context : s.context l = some c) (away : Consumer.lifter l ∉ s.flow.waiting) :
    LiftCyclesGiven s (giveLiftCycles l s) l c := by
  have only := giveLiftCycles_only l s
  have quiet : PortsQuiet s (giveLiftCycles l s) := (Operates.refl.giveLiftCycles l).quiet
  rw [giveLiftCycles_some context] at only quiet ⊢
  obtain ⟨-, record, unit⟩ := addCycles_bystands l
    ((s.withLifter l { s.lifter l with context := some { c with cyclesGiven := true } }).packer c.stream).settings.liftCycles
    c.stream (s.withLifter l { s.lifter l with context := some { c with cyclesGiven := true } }) away
  rw [lifter_withLifter_self] at unit
  refine ⟨unit, record, ?_, liftTriggeredCycles_given.between (fun _ => rfl) rfl id, only, quiet⟩
  have others := addCycles_packOthers
    ((s.withLifter l { s.lifter l with context := some { c with cyclesGiven := true } }).packer c.stream).settings.liftCycles
    c.stream (s.withLifter l { s.lifter l with context := some { c with cyclesGiven := true } })
  have kept := others.lifters (otherLifter l)
  rw [lifter_withLifter_of_ne _ _ _ _ (otherLifter_ne l)] at kept
  exact kept

/-! ### A lifter's flow and window given up -/

theorem giveBackFlow_away (x : Consumer) (listed : s.flow.records.get x = .none → x ∉ s.flow.waiting) :
    x ∉ (giveBackFlow x s).flow.waiting := by
  obtain ⟨none, same⟩ | dropped := giveBackFlow_cases x s
  · rw [same]
    exact listed none
  · rw [dropped]
    exact fun waits => dropRecord_not_waiting x s ((evaluateGrants_grantsOnly _).list x waits)

theorem FlowLaw.away (law : FlowLaw s) {x : Consumer} (none : s.flow.records.get x = .none) : x ∉ s.flow.waiting := by
  rw [law.listed, none]
  exact Bool.false_ne_true

theorem withdrawWindow_others (l : Lifter) (s : State) : OthersKept s (withdrawWindow l s) l where
  lifter := by
    simp only [State.lifter, show (withdrawWindow l s).lifters = s.lifters from (withdrawWindow_only l s).same .lifters (by decide)]
    rfl
  packers st := by
    simp only [State.packer, show (withdrawWindow l s).packers = s.packers from (withdrawWindow_only l s).same .packers (by decide)]
    rfl
  scan := by rw [withdrawWindow_scan, PerLifter.get_set_self]
  drift := (withdrawWindow_keeps l s).1
  last := (withdrawWindow_keeps l s).2

theorem withdrawWindow_books (l : Lifter) (s : State) : SameBooks s (withdrawWindow l s) :=
  sameBooks_of_only ((withdrawWindow_only l s).mono (by decide))

theorem withdrawWindow_quiet (l : Lifter) (s : State) : PortsQuiet s (withdrawWindow l s) :=
  (Operates.refl.withdrawWindow l).quiet

/-- A window gone stays so while scan and weighing stand. -/
theorem WindowGone.then (h : WindowGone s u l) (scan : t.scan = u.scan) (weigh : t.weigh = u.weigh) :
    WindowGone s t l where
  buffer := by rw [scan]; exact h.buffer
  unqueued held := weigh.trans (h.unqueued held)
  waiting held head := by rw [weigh]; exact h.waiting held head
  computing held head tail := by
    obtain ⟨queue, begun⟩ := h.computing held head tail
    refine ⟨by rw [weigh]; exact queue, ?_⟩
    revert begun
    unfold Begun
    rw [weigh]
    exact id
  results := by rw [weigh]; exact h.results

theorem WindowGone.withPorts {Q : PerPort PortState} (h : WindowGone s t l) : WindowGone s (t.withPorts Q) l :=
  h.then rfl rfl

theorem SameUnit.refl (a : LifterUnit) : SameUnit a a := ⟨rfl, rfl, rfl, rfl, rfl⟩

/-- A state with the same unit of a lifter and the same clocks. -/
theorem SameSight.ofUnit {v : LifterUnit} (set : u.lifter l = v) (unit : SameUnit (s.lifter l) v)
    (fault : v.lastFault = (s.lifter l).lastFault) (timer : u.bodyTimer = s.bodyTimer) (body : u.body = s.body) :
    SameSight s u l :=
  ⟨by rw [set]; exact unit, by rw [set]; exact fault, timer, by rw [body]⟩

end Sys2Proof.Safety
end

section
/-! PROOFS. Abort Lift (O15), the timers of a lifter (O19), and the dump dwell with the shake pulses (O20). -/

namespace Sys2Proof.Safety

open Sys2Proof.Machine

variable {s t u : State} {l m : Lifter} {st : Stream} {c k : LiftContext} {ph : Phase} {p : Port} {n : Byte}
  {d : List Byte} {P Q : PerPort PortState} {x : Nat}

/-! ### An abort (R22) -/

/-- The context of an aborted lift as it enters RETURNING. -/
def abortedContext (c : LiftContext) : LiftContext :=
  { clearHold (stopTimers c) with abortPhase := some (abortPhaseOf c) }

theorem abortPhaseOf_eq (from_ : if c.phase = .held ∨ c.phase = .fault then c.remembered = some ph else c.phase = ph) :
    abortPhaseOf c = c.abortPhase.getD ph := by
  unfold abortPhaseOf
  cases c.abortPhase with
  | some first => rfl
  | none =>
    cases phase : c.phase <;> simp_all

/-- The unit of an aborted lifter before RETURNING. -/
def abortedUnit (a : LifterUnit) (c : LiftContext) : LifterUnit :=
  { a with raiseValve := false, lowerValve := false, context := some (abortedContext c) }

theorem aborted_eq (l : Lifter) (c : LiftContext) (s : State) :
    (s.withValves l false false).withContext l (some (abortedContext c)) = s.withLifter l (abortedUnit (s.lifter l) c) := by
  rw [State.withContext, State.withValves, withLifter_withLifter, lifter_withLifter_self]
  rfl

/-- An abort as far as the flow given back. -/
def abortGivesBack (l : Lifter) (c : LiftContext) (s : State) : State :=
  giveBackFlow (.lifter l) (s.withLifter l (abortedUnit (s.lifter l) c))

/-- An abort with the window of a weigh phase withdrawn. -/
def abortWithdraws (l : Lifter) (c : LiftContext) (s : State) : State :=
  if isWeigh c.phase then withdrawWindow l (abortGivesBack l c s) else abortGivesBack l c s

theorem takeAbort_eq (l : Lifter) (c : LiftContext) (s : State) : takeAbort l c s =
    enterMotion l .returning
      (if c.dumped ∧ ¬ c.cyclesGiven then giveLiftCycles l (abortWithdraws l c s) else abortWithdraws l c s) := by
  unfold takeAbort abortWithdraws abortGivesBack
  rw [← aborted_eq]
  rfl

theorem abortGivesBack_only (l : Lifter) (c : LiftContext) (s : State) : Only flowParts s (abortGivesBack l c s) :=
  (withLifter_only s l _).both (giveBackFlow_only _ _) (by decide) (fun _ h => h)

theorem abortWithdraws_only (l : Lifter) (c : LiftContext) (s : State) :
    Only [.scan, .weigh] (abortGivesBack l c s) (abortWithdraws l c s) :=
  Only.ite (withdrawWindow_only l _) (Only.refl _ _)

theorem abortGivesBack_unit (l : Lifter) (c : LiftContext) (s : State) :
    (abortGivesBack l c s).lifter l = abortedUnit (s.lifter l) c :=
  (giveBackFlow_lifter_self l _).trans (lifter_withLifter_self s l _)

theorem abortGivesBack_others (l : Lifter) (c : LiftContext) (s : State) : OthersKept s (abortGivesBack l c s) l :=
  (withLifter_others _).trans (giveBackFlow_others _ _ l)

/-- A lifter before it enters RETURNING: aborted, its flow and its window given up. -/
structure Aborting (s u : State) (l : Lifter) (c : LiftContext) : Prop where
  unit : u.lifter l = abortedUnit (s.lifter l) c
  record : u.flow.records.get (.lifter l) = .none
  away : Consumer.lifter l ∉ u.flow.waiting
  window : isWeigh c.phase = true → WindowGone s u l
  buffer : isWeigh c.phase = false → u.scan = s.scan ∧ u.weigh = s.weigh
  others : OthersKept s u l
  books : SameBooks s u
  quiet : PortsQuiet s u

theorem abortWithdraws_aborting (c : LiftContext) (law : FlowLaw s) : Aborting s (abortWithdraws l c s) l c := by
  have only := abortWithdraws_only l c s
  have flow : (abortWithdraws l c s).flow = (abortGivesBack l c s).flow := only.same .flow (by decide)
  have given : PortsQuiet s (abortGivesBack l c s) :=
    (show PortsQuiet s (s.withLifter l (abortedUnit (s.lifter l) c)) from
      ⟨fun _ => rfl, fun _ _ latched => latched⟩).trans (giveBackFlow_quiet _ _)
  refine ⟨?_, ?_, ?_, fun weighs => ?_, fun rests => ?_, ?_, ?_, ?_⟩
  · rw [← abortGivesBack_unit]
    exact congrArg (fun y => PerLifter.get y l) (only.same .lifters (by decide))
  · rw [flow]
    exact giveBackFlow_record _ _
  · rw [flow]
    exact giveBackFlow_away _ fun none => law.away none
  · rw [abortWithdraws, if_pos weighs]
    refine withdrawWindow_windowGone (abortGivesBack_only l c s) fun m other => LifterUpToGrant.bank ?_
    have kept := giveBackFlow_lifters (.lifter l) (s.withLifter l (abortedUnit (s.lifter l) c)) m
    rwa [lifter_withLifter_of_ne _ _ _ _ other] at kept
  · rw [abortWithdraws, if_neg (by rw [rests]; exact Bool.false_ne_true)]
    exact ⟨(abortGivesBack_only l c s).same .scan (by decide), (abortGivesBack_only l c s).same .weigh (by decide)⟩
  · unfold abortWithdraws
    split
    · exact (abortGivesBack_others l c s).trans (withdrawWindow_others l _)
    · exact abortGivesBack_others l c s
  · exact (flowParts_books (abortGivesBack_only l c s)).trans (sameBooks_of_only (only.mono (by decide)))
  · unfold abortWithdraws
    split
    · exact given.trans (withdrawWindow_quiet l _)
    · exact given

/-- What an Abort Lift does (R22), without the answer. -/
structure AbortTaken (s t : State) (l : Lifter) (c : LiftContext) (ph : Phase) : Prop where
  own : MotionOwn s t l
    { c with
      reasons := {}
      remembered := none
      abortPhase := some (c.abortPhase.getD ph)
      cyclesGiven := c.cyclesGiven || c.dumped } .returning
  other : LifterUpToGrant (s.lifter (otherLifter l)) (t.lifter (otherLifter l))
  window : isWeigh c.phase = true → WindowGone s t l
  buffer : isWeigh c.phase = false → t.scan = s.scan ∧ t.weigh = s.weigh
  others : c.dumped = false ∨ c.cyclesGiven = true → OthersKept s t l
  given : c.dumped = true → c.cyclesGiven = false → CyclesGiven s t c.stream
  books : SameBooks s t
  quiet : PortsQuiet s t

theorem AbortTaken.around (h : AbortTaken (s.withPorts P) t l c ph) :
    MotionOwn s (t.withPorts Q) l
        { c with
          reasons := {}
          remembered := none
          abortPhase := some (c.abortPhase.getD ph)
          cyclesGiven := c.cyclesGiven || c.dumped } .returning
      ∧ LifterUpToGrant (s.lifter (otherLifter l)) ((t.withPorts Q).lifter (otherLifter l))
      ∧ (isWeigh c.phase = true → WindowGone s (t.withPorts Q) l)
      ∧ (isWeigh c.phase = false → (t.withPorts Q).scan = s.scan ∧ (t.withPorts Q).weigh = s.weigh)
      ∧ (c.dumped = false ∨ c.cyclesGiven = true → OthersKept s (t.withPorts Q) l)
      ∧ (c.dumped = true → c.cyclesGiven = false → CyclesGiven s (t.withPorts Q) c.stream)
      ∧ SameBooks s (t.withPorts Q) := by
  refine ⟨h.own.around, h.other, fun weighs => ?_, h.buffer, fun not => (h.others not).around, fun dumped owed => ?_,
    h.books.withPorts⟩
  · obtain ⟨buffer, unqueued, waiting, computing, results⟩ := h.window weighs
    exact ⟨buffer, unqueued, waiting, computing, results⟩
  · obtain ⟨counted, started, others⟩ := h.given dumped owed
    exact ⟨counted, started, others⟩

theorem OthersKept.channelFresh (h : OthersKept s u l) (ch : Fin 12) : channelFresh u ch = channelFresh s ch := by
  have slots : u.scan.slots = s.scan.slots := (congrArg Scan.slots h.scan :)
  simp only [Machine.channelFresh, State.slot, slots]

theorem takeAbort_taken (law : FlowLaw s)
    (from_ : if c.phase = .held ∨ c.phase = .fault then c.remembered = some ph else c.phase = ph) :
    AbortTaken s (takeAbort l c s) l c ph := by
  have aborting := abortWithdraws_aborting (l := l) c law
  have phase := abortPhaseOf_eq from_
  have context : (abortWithdraws l c s).context l = some (abortedContext c) := by
    rw [State.context, aborting.unit]; rfl
  rw [takeAbort_eq]
  by_cases owed : c.dumped = true ∧ ¬ c.cyclesGiven = true
  · obtain ⟨dumped, notGiven⟩ := owed
    have notYet : c.cyclesGiven = false := by simpa using notGiven
    have given := giveLiftCycles_given (l := l) (s := abortWithdraws l c s) context aborting.away
    have fresh (ch : Fin 12) := aborting.others.channelFresh ch
    rw [if_pos ⟨dumped, notGiven⟩]
    have entered := enterMotion_entered (s := giveLiftCycles l (abortWithdraws l c s)) (l := l) (ph := .returning)
      (by rw [State.context, given.unit]) (by rw [given.record]; exact aborting.record) (.inr rfl)
    have sight : SameSight s (giveLiftCycles l (abortWithdraws l c s)) l :=
      .ofUnit given.unit (by rw [aborting.unit]; exact ⟨rfl, rfl, rfl, rfl, rfl⟩) (by rw [aborting.unit]; rfl)
        ((given.only.same .bodyTimer (by decide) : _).trans aborting.books.bodyTimer)
        ((given.only.same .body (by decide) : _).trans aborting.books.body)
    have scan := given.only.same .scan (by decide)
    have weigh := given.only.same .weigh (by decide)
    refine ⟨?_, (aborting.others.lifter.trans given.other).trans entered.others.lifter, fun weighs => ?_, fun rests => ?_,
      fun paid => ?_, fun _ _ => ?_, (aborting.books.trans (flowParts_books given.only)).trans entered.books,
      (aborting.quiet.trans given.quiet).trans entered.quiet⟩
    · refine ((entered.own.moves (by exact fun h => by cases h)).after sight).ofContext ?_
      simp only [abortedContext, clearHold, stopTimers, phase, dumped, Bool.or_true]
    · exact (aborting.window weighs).then (entered.scan.trans scan) (entered.weigh.trans weigh)
    · obtain ⟨scan', weigh'⟩ := aborting.buffer rests
      exact ⟨(entered.scan.trans scan).trans scan', (entered.weigh.trans weigh).trans weigh'⟩
    · rcases paid with h | h
      · rw [dumped] at h; cases h
      · exact absurd h notGiven
    · refine (given.given.between aborting.others.packers aborting.books.body fun live => ?_).then entered.others.packers
      obtain ⟨pressure, stroke⟩ := live
      exact ⟨(fresh _).trans pressure, (fresh _).trans stroke⟩
  · rw [if_neg owed]
    have entered := enterMotion_entered (ph := .returning) context aborting.record (.inr rfl)
    have sight : SameSight s (abortWithdraws l c s) l :=
      .ofUnit aborting.unit ⟨rfl, rfl, rfl, rfl, rfl⟩ rfl aborting.books.bodyTimer aborting.books.body
    refine ⟨?_, aborting.others.lifter.trans entered.others.lifter, fun weighs => ?_, fun rests => ?_,
      fun _ => aborting.others.trans entered.others, fun dumped notYet => ?_, aborting.books.trans entered.books,
      aborting.quiet.trans entered.quiet⟩
    · refine ((entered.own.moves (by exact fun h => by cases h)).after sight).ofContext ?_
      have kept : (c.cyclesGiven || c.dumped) = c.cyclesGiven := by
        cases given : c.cyclesGiven with
        | true => rfl
        | false => cases dumped : c.dumped with
          | false => rfl
          | true => exact absurd ⟨dumped, by rw [given]; exact Bool.false_ne_true⟩ owed
      simp only [abortedContext, clearHold, stopTimers, phase, kept]
    · exact (aborting.window weighs).then entered.scan entered.weigh
    · obtain ⟨scan', weigh'⟩ := aborting.buffer rests
      exact ⟨entered.scan.trans scan', entered.weigh.trans weigh'⟩
    · exact absurd ⟨dumped, by rw [notYet]; exact Bool.false_ne_true⟩ owed

theorem decideAbortLift_idle (lifter : lifterArg (byteAt d 0) = some l) (idle : s.context l = none) :
    decideAbortLift d s = taken s := by
  simp only [decideAbortLift, lifter, abortLifter, idle]

theorem decideAbortLift_bad (bad : lifterArg (byteAt d 0) = none) : decideAbortLift d s = declined .badArgument s := by
  simp only [decideAbortLift, bad]

theorem decideAbortLift_refused (lifter : lifterArg (byteAt d 0) = some l) (context : s.context l = some c)
    (halted : s.body.state = .halted ∧ (c.phase = .held ∨ c.phase = .fault)) :
    decideAbortLift d s = declined (.refused .bodyNotRunning) s := by
  simp only [decideAbortLift, lifter, abortLifter, context, if_pos halted]

theorem decideAbortLift_taken (lifter : lifterArg (byteAt d 0) = some l) (context : s.context l = some c)
    (may : ¬ (s.body.state = .halted ∧ (c.phase = .held ∨ c.phase = .fault))) :
    decideAbortLift d s = taken (takeAbort l c s) := by
  simp only [decideAbortLift, lifter, abortLifter, context, if_neg may]

theorem phase_eq_some (h : s.phase l = some ph) : ∃ c, s.context l = some c ∧ c.phase = ph := by
  rw [State.phase, Option.map_eq_some_iff] at h
  exact h

/-- Settles O15: RETURNING entered from the aborted context (`takeAbort_taken`). -/
theorem abortLiftReturns : Obligations.AbortLiftReturns := by
  unfold Obligations.AbortLiftReturns
  intro p n d l c ph s accepts
  refine ⟨fun lifter idle => ?_, fun bad => ?_, fun lifter halted still => ?_, fun lifter context law may from_ => ?_⟩
  · exact exec_decided accepts rfl (decideAbortLift_idle lifter (by exact idle))
  · exact exec_decided accepts rfl (decideAbortLift_bad bad)
  · obtain ⟨x, context, phase⟩ : ∃ x, s.context l = some x ∧ (x.phase = .held ∨ x.phase = .fault) := by
      rcases still with h | h
      · obtain ⟨x, context, phase⟩ := phase_eq_some h
        exact ⟨x, context, .inl phase⟩
      · obtain ⟨x, context, phase⟩ := phase_eq_some h
        exact ⟨x, context, .inr phase⟩
    exact exec_decided accepts rfl (decideAbortLift_refused lifter (by exact context) ⟨halted, phase⟩)
  · have aborted := takeAbort_taken (s := takeRequest p n Kind.abortLift.code s) (l := l) (FlowLaw.withPorts law _) from_
    obtain ⟨Q, run, answered, -⟩ := exec_taken (i := .abortLift p n d) accepts rfl
      (decideAbortLift_taken lifter (by exact context) (by exact may)) aborted.quiet
    obtain ⟨own, other, window, buffer, others, given, books⟩ :=
      AbortTaken.around (P := (takeRequest p n Kind.abortLift.code s).ports) (Q := Q) aborted
    exact ⟨_, run, answered, own, other, window, buffer, others, given, books⟩

/-! ### The timers of a lifter (R11, R12, R14, R15) -/

theorem onContext_some (context : s.context l = some c) (f : LiftContext → State → State) : onContext l f s = f c s := by
  simp only [onContext, context]

theorem isTimed_iff : isTimed c.phase = true ↔ isMotion c.phase = true ∧ c.phase ≠ .shake := by
  simp [isTimed]

/-- The time limit of a motion phase that has one (R9). -/
theorem phaseLimit_eq (motion : isMotion c.phase = true) (other : c.phase ≠ .shake) : phaseLimit s c =
    if c.phase = .raiseWeigh ∨ c.phase = .raiseDump then (s.banks.get c.bank).raiseTimeout
    else (s.banks.get c.bank).lowerTimeout := by
  unfold phaseLimit
  cases phase : c.phase <;> simp_all [isMotion]

theorem exec_liftPhaseTimeout (context : s.context l = some c) : exec (.liftPhaseTimeout l) s =
    .next (if isTimed c.phase ∧ expired s c.phaseTimer (phaseLimit s c) then faultLifter l .phaseTimeout s else s) :=
  congrArg Host.Outcome.next (onContext_some context _)

theorem exec_settleExpiry (context : s.context l = some c) : exec (.settleExpiry l) s =
    .next (if expired s c.settleTimer settleMs then armWindow l (s.mapContext l fun c => { c with settleTimer := none })
      else s) := congrArg Host.Outcome.next (onContext_some context _)

theorem exec_weighPhaseLimitExpiry (context : s.context l = some c) : exec (.weighPhaseLimitExpiry l) s =
    .next (if expired s c.limitTimer weighLimitMs then
      endWeigh l ((withdrawWindow l s).mapContext l fun c => { c with outcome := .timeout }) else s) :=
  congrArg Host.Outcome.next (onContext_some context _)

/-- A window armed where none was (R98). -/
theorem armWindow_empty (empty : s.scan.buffers.get l = .empty) :
    armWindow l s = s.withBuffer l (.filling (armingSize l s) []) := by
  have gone : withdrawWindow l s = s := by simp only [withdrawWindow, empty]
  rw [armWindow, gone]

theorem faultLifter_books (a : LiftFaultCause) (s : State) : SameBooks s (faultLifter l a s) :=
  flowParts_books (faultLifter_only l a s)

/-- The context of a lifter whose window has just been withdrawn. -/
theorem withdrawWindow_lifters (l : Lifter) (s : State) : (withdrawWindow l s).lifters = s.lifters :=
  (withdrawWindow_only l s).same .lifters (by decide)

/-- A weigh phase that runs out of its time (R14, R15). -/
theorem weighTimeout_entered (context : s.context l = some c) (free : s.flow.records.get (.lifter l) = .none) :
    MovesOrFaults s (endWeigh l ((withdrawWindow l s).mapContext l fun c => { c with outcome := .timeout })) l
        { c with outcome := .timeout } (afterWeigh c.phase)
      ∧ OthersKept s (endWeigh l ((withdrawWindow l s).mapContext l fun c => { c with outcome := .timeout })) l
      ∧ SameBooks s (endWeigh l ((withdrawWindow l s).mapContext l fun c => { c with outcome := .timeout }))
      ∧ WindowGone s (endWeigh l ((withdrawWindow l s).mapContext l fun c => { c with outcome := .timeout })) l
      ∧ PortsQuiet s (endWeigh l ((withdrawWindow l s).mapContext l fun c => { c with outcome := .timeout })) := by
  have gone : WindowGone s (withdrawWindow l s) l := withdrawWindow_windowGone (.refl _ s) fun _ _ => rfl
  have others := withdrawWindow_others l s
  have books := withdrawWindow_books l s
  have unit : (withdrawWindow l s).lifter l = s.lifter l :=
    congrArg (fun y => PerLifter.get y l) (withdrawWindow_lifters l s)
  have context' : (withdrawWindow l s).context l = some c := (congrArg LifterUnit.context unit).trans context
  have free' : (withdrawWindow l s).flow.records.get (.lifter l) = .none := by
    rw [show (withdrawWindow l s).flow = s.flow from (withdrawWindow_only l s).same .flow (by decide)]
    exact free
  have entered := enterMotion_withContext { c with outcome := .timeout } free' (afterWeigh_moves c.phase)
  have ends : endWeigh l ((withdrawWindow l s).mapContext l fun c => { c with outcome := .timeout }) =
      enterMotion l (afterWeigh c.phase) ((withdrawWindow l s).withLifter l
        { (withdrawWindow l s).lifter l with context := some { c with outcome := .timeout } }) := by
    have phase : ((withdrawWindow l s).withLifter l
        { (withdrawWindow l s).lifter l with context := some { c with outcome := .timeout } }).phase l = some c.phase := by
      rw [State.phase, State.context, lifter_withLifter_self]; rfl
    rw [mapContext_some _ context']
    simp only [endWeigh, phase]
  rw [ends]
  exact ⟨entered.own.after (.ofUnit unit (.refl _) rfl books.bodyTimer books.body) (others.channelFresh _),
    others.trans entered.others, books.trans entered.books, gone.then entered.scan entered.weigh,
    (withdrawWindow_quiet l s).trans entered.quiet⟩

/-- Settles O19: each timer's expiry through the operation it stands for, and none before its time (`expired_eq_due`). -/
theorem lifterTimersExpire : Obligations.LifterTimersExpire := by
  unfold Obligations.LifterTimersExpire
  intro l c s context
  refine ⟨fun motion other out => ?_, fun not => ?_, fun out empty => ?_, fun early => ?_, fun out weighs free => ?_,
    fun early => ?_⟩
  · rw [exec_liftPhaseTimeout context, if_pos ⟨isTimed_iff.mpr ⟨motion, other⟩, by
      rw [expired_eq_due, phaseLimit_eq motion other]; exact out⟩]
    have only := faultLifter_only l .phaseTimeout s
    exact ⟨_, rfl, faultLifter_quiet _ s, faultLifter_own _ context, faultLifter_others _ context,
      faultLifter_books _ s, only.same .scan (by decide), only.same .weigh (by decide)⟩
  · rw [exec_liftPhaseTimeout context, if_neg]
    rintro ⟨timed, out⟩
    obtain ⟨motion, other⟩ := isTimed_iff.mp timed
    rw [expired_eq_due, phaseLimit_eq motion other] at out
    rcases not with rests | shake | early
    · rw [rests] at motion; cases motion
    · exact other shake
    · rw [early] at out; cases out
  · rw [exec_settleExpiry context, if_pos (by rw [expired_eq_due]; exact out),
      armWindow_empty (by exact empty)]
    rw [mapContext_some _ context]
    rfl
  · rw [exec_settleExpiry context, if_neg (by rw [expired_eq_due]; exact fun h => absurd (early.symm.trans h) Bool.false_ne_true)]
  · rw [exec_weighPhaseLimitExpiry context, if_pos (by rw [expired_eq_due]; exact out)]
    obtain ⟨own, others, books, gone, quiet⟩ := weighTimeout_entered context free
    exact ⟨_, rfl, quiet, gone, own, others, books⟩
  · rw [exec_weighPhaseLimitExpiry context,
      if_neg (by rw [expired_eq_due]; exact fun h => absurd (early.symm.trans h) Bool.false_ne_true)]

/-! ### The dump dwell and the shake pulses (R16, R17) -/

/-- The phase after the dwell (R16, R17). -/
def afterDwellPhase (s : State) (c : LiftContext) : Phase :=
  if 0 < (s.banks.get c.bank).shakeCount then .shake else if c.gross.isSome then .lowerWeigh else .lowerRest

theorem enterShake_some (context : s.context l = some c) : enterShake l s = enterMotion l (afterDwellPhase s c) s := by
  simp only [enterShake, context]
  unfold afterDwellPhase
  by_cases none : (s.banks.get c.bank).shakeCount = 0
  · rw [if_pos none, if_neg (by rw [none]; exact Nat.lt_irrefl 0)]
    rfl
  · rw [if_neg none, if_pos (Nat.pos_of_ne_zero none)]

theorem afterDwellPhase_moves (s : State) (c : LiftContext) : moves (afterDwellPhase s c) := by
  unfold afterDwellPhase
  split
  · exact .inl rfl
  · split <;> exact .inl rfl

theorem exec_dumpDwellExpiry (context : s.context l = some c) : exec (.dumpDwellExpiry l) s =
    .next (if expired s c.dwellTimer (s.banks.get c.bank).dumpDwell then
      enterShake l (giveLiftCycles l (s.mapContext l fun c => { c with dwellTimer := none })) else s) :=
  congrArg Host.Outcome.next (onContext_some context _)

/-- The end of the dwell: the lift's cycles given, and the next phase entered (R16). -/
theorem dwellEnd_entered (context : s.context l = some c) (away : Consumer.lifter l ∉ s.flow.waiting)
    (free : s.flow.records.get (.lifter l) = .none) :
    ∃ t, enterShake l (giveLiftCycles l (s.mapContext l fun c => { c with dwellTimer := none })) = t
      ∧ PortsQuiet s t ∧ MovesOrFaults s t l { c with cyclesGiven := true } (afterDwellPhase s c)
      ∧ LifterUpToGrant (s.lifter (otherLifter l)) (t.lifter (otherLifter l)) ∧ CyclesGiven s t c.stream
      ∧ t.scan = s.scan ∧ t.weigh = s.weigh ∧ SameBooks s t := by
  have stopped := giveLiftCycles_given (l := l) (c := { c with dwellTimer := none })
    (s := s.withLifter l { s.lifter l with context := some { c with dwellTimer := none } })
    (by rw [State.context, lifter_withLifter_self]) away
  rw [mapContext_some _ context]
  refine ⟨_, rfl, ?_⟩
  have books := (withLifter_books _).trans (flowParts_books stopped.only)
  have unit := stopped.unit
  have other := stopped.other
  have record := stopped.record
  have scan := stopped.only.same .scan (by decide)
  have weigh := stopped.only.same .weigh (by decide)
  have given := stopped.given.between (s := s) (fun _ => rfl) rfl id
  have quiet := (show PortsQuiet s (s.withLifter l { s.lifter l with context := some { c with dwellTimer := none } }) from
    ⟨fun _ => rfl, fun _ _ latched => latched⟩).trans stopped.quiet
  rw [lifter_withLifter_self] at unit
  rw [lifter_withLifter_of_ne _ _ _ _ (otherLifter_ne l)] at other
  clear stopped
  generalize giveLiftCycles l (s.withLifter l { s.lifter l with context := some { c with dwellTimer := none } }) = y at *
  have own : y.context l = some { c with dwellTimer := none, cyclesGiven := true } := congrArg LifterUnit.context unit
  have same : afterDwellPhase y { c with dwellTimer := none, cyclesGiven := true } = afterDwellPhase s c := by
    simp only [afterDwellPhase, books.banks]
  rw [enterShake_some own, same]
  have entered := enterMotion_entered own (record.trans free) (afterDwellPhase_moves s c)
  exact ⟨quiet.trans entered.quiet,
    (entered.own.after (.ofUnit unit ⟨rfl, rfl, rfl, rfl, rfl⟩ rfl books.bodyTimer books.body)
      (channelFresh_congr scan _)).ofContext rfl,
    other.trans entered.others.lifter, given.then entered.others.packers, entered.scan.trans scan,
    entered.weigh.trans weigh, books.trans entered.books⟩

theorem exec_shakePulseEnd (context : s.context l = some c) :
    exec (.shakePulseEnd l) s = .next (pulseExpiry l c s) := congrArg Host.Outcome.next (onContext_some context _)

theorem pulseExpiry_out {v : Valve} (pulse : c.pulse = some (v, x)) (out : x + 150 ≤ s.bodyTimer) :
    pulseExpiry l c s = endPulse l c v s := by
  have expires : expired s (some x) shakePulseMs = true := by
    rw [expired_eq_due]
    exact decide_eq_true out
  simp only [pulseExpiry, pulse, expires, if_true]

theorem pulseExpiry_early (early : due s (c.pulse.map Prod.snd) 150 = false) : pulseExpiry l c s = s := by
  cases pulse : c.pulse with
  | none => simp only [pulseExpiry, pulse]
  | some y =>
    rw [pulse] at early
    have runs : expired s (some y.2) shakePulseMs = false := by rw [expired_eq_due]; exact early
    simp only [pulseExpiry, pulse, runs, Bool.false_eq_true, if_false]

/-- A lifter's valves set and its context changed. -/
theorem withValves_mapContext (context : s.context l = some c) (a b : Bool) (f : LiftContext → LiftContext) :
    (s.withValves l a b).mapContext l f =
      s.withLifter l { s.lifter l with raiseValve := a, lowerValve := b, context := some (f c) } := by
  rw [mapContext_some (c := c) _ (by rw [context_withValves]; exact context), State.withValves, withLifter_withLifter,
    lifter_withLifter_self]

/-- The last lower pulse ends SHAKE: the grant is released and the next phase entered (R17). -/
theorem endShake_entered (k : Nat) (context : s.context l = some c)
    (granted : isGranted (s.flow.records.get (.lifter l)) = true) :
    MotionEntered s (endShake l k s) l { c with shakesDone := k }
      (if c.gross.isSome then .lowerWeigh else .lowerRest) := by
  have stopped := withValves_mapContext context false false fun c => { stopTimers c with shakesDone := k }
  have unit := giveBackFlow_lifter_self l (s.withLifter l
    { s.lifter l with raiseValve := false, lowerValve := false, context := some { stopTimers c with shakesDone := k } })
  have others := (withLifter_others (s := s) (l := l) { s.lifter l with
      raiseValve := false, lowerValve := false, context := some { stopTimers c with shakesDone := k } }).trans
    (giveBackFlow_others (.lifter l) _ l)
  have books := (withLifter_books (s := s) (l := l) { s.lifter l with
      raiseValve := false, lowerValve := false, context := some { stopTimers c with shakesDone := k } }).trans
    (giveBackFlow_books (.lifter l) _)
  have quiet := (show PortsQuiet s (s.withLifter l { s.lifter l with
      raiseValve := false, lowerValve := false, context := some { stopTimers c with shakesDone := k } }) from
    ⟨fun _ => rfl, fun _ _ latched => latched⟩).trans (giveBackFlow_quiet (.lifter l) _)
  have only := (giveBackFlow_only (.lifter l) (s.withLifter l { s.lifter l with
      raiseValve := false, lowerValve := false, context := some { stopTimers c with shakesDone := k } }))
  have scan := only.same .scan (by decide)
  have weigh := only.same .weigh (by decide)
  have free := giveBackFlow_record (.lifter l) (s.withLifter l { s.lifter l with
      raiseValve := false, lowerValve := false, context := some { stopTimers c with shakesDone := k } })
  rw [lifter_withLifter_self] at unit
  unfold endShake
  dsimp only
  rw [stopped, releaseGrant_granted (by exact granted)]
  clear stopped only
  generalize giveBackFlow (.lifter l) (s.withLifter l { s.lifter l with
      raiseValve := false, lowerValve := false, context := some { stopTimers c with shakesDone := k } }) = y at *
  have own : y.context l = some { stopTimers c with shakesDone := k } := congrArg LifterUnit.context unit
  have moving : moves (if c.gross.isSome then .lowerWeigh else .lowerRest) := by split <;> exact .inl rfl
  simp only [own]
  have entered := enterMotion_entered own free moving
  exact ⟨(entered.own.after (.ofUnit unit ⟨rfl, rfl, rfl, rfl, rfl⟩ rfl books.bodyTimer books.body)
      (channelFresh_congr scan _)).ofContext rfl, others.trans entered.others, books.trans entered.books,
    entered.scan.trans scan, entered.weigh.trans weigh, quiet.trans entered.quiet⟩

/-- Settles O20: the dwell's end (`dwellEnd_entered`), the pulses by their valve, and the last of them
(`endShake_entered`). -/
theorem dumpDwellAndShake : Obligations.DumpDwellAndShake := by
  unfold Obligations.DumpDwellAndShake
  intro l c x s context
  refine ⟨fun out law free => ?_, fun early => ?_, fun pulse out => ?_, fun pulse out more => ?_,
    fun pulse out last granted => ?_, fun early => ?_⟩
  · rw [exec_dumpDwellExpiry context, if_pos (by rw [expired_eq_due]; exact out)]
    obtain ⟨t, rfl, quiet, own, other, given, scan, weigh, books⟩ := dwellEnd_entered context (law.away free) free
    exact ⟨_, rfl, quiet, own, other, given, scan, weigh, books⟩
  · rw [exec_dumpDwellExpiry context,
      if_neg (by rw [expired_eq_due]; exact fun h => absurd (early.symm.trans h) Bool.false_ne_true)]
  · rw [exec_shakePulseEnd context, pulseExpiry_out pulse out]
    exact congrArg Host.Outcome.next (withValves_mapContext context false true _)
  · rw [exec_shakePulseEnd context, pulseExpiry_out pulse out, endPulse, if_neg more]
    exact congrArg Host.Outcome.next (withValves_mapContext context true false _)
  · rw [exec_shakePulseEnd context, pulseExpiry_out pulse out, endPulse, if_pos last]
    have entered := endShake_entered (c.shakesDone + 1) context granted
    exact ⟨_, rfl, entered.quiet, entered.own, entered.others, entered.books⟩
  · rw [exec_shakePulseEnd context, pulseExpiry_early early]

end Sys2Proof.Safety
end

section
/-! SUPPORT. The end of a lift in a table in order and without error (R18, R156, R157, R164 to R169): its record
(`endRecord_recordOf`) and what it leaves (`endLift_ended`). -/

namespace Sys2Proof.Safety

open Sys2Proof.Machine

variable {s t u : State} {l m : Lifter} {st : Stream} {c k : LiftContext} {how : Ending} {i : Nat} {e : AccountEntry}
  {found : Option (Nat × AccountEntry)} {r : Record}

/-! ### The completion lookup (R156) -/

theorem entryAtEnd_none (account : c.account = none) : entryAtEnd s c = none := by
  simp only [entryAtEnd, account, Option.isSome_none, Bool.false_eq_true, if_false]

theorem entryAtEnd_some {a : AccountPart} {n : Nat} (account : c.account = some a) (tag : c.tag = some n) :
    entryAtEnd s c = (s.tags.table.map Stored.content).find? fun e => decide (e.tag = n) := by
  simp only [entryAtEnd, account, Option.isSome_some, if_true, tag, Option.some.injEq]
  congr 1
  funext e
  exact decide_eq_decide.mpr eq_comm

/-- What a completion lookup finds in a table in order and without error. -/
structure LookedUp (s : State) (c : LiftContext) (found : Option (Nat × AccountEntry)) : Prop where
  lookup : completionLookup c s = (found, s)
  entry : entryAtEnd s c = found.map Prod.snd
  here : ∀ i e, found = some (i, e) → s.tags.table[i]? = some ⟨e, .clean⟩ ∧ c.account.isSome = true ∧ c.tag = some e.tag

theorem completionLookup_ordered (law : TableLaw s) (clean : CleanTable s) (c : LiftContext) :
    ∃ found, LookedUp s c found := by
  cases account : c.account with
  | none => exact ⟨none, by simp only [completionLookup, account], entryAtEnd_none account, fun _ _ h => (by cases h)⟩
  | some a =>
    cases tag : c.tag with
    | none =>
      refine ⟨none, by simp only [completionLookup, account, tag], ?_, fun _ _ h => (by cases h)⟩
      simp only [entryAtEnd, account, tag, Option.isSome_some, if_true]
      exact List.find?_eq_none.mpr fun _ _ => by simp
    | some n =>
      have entry := entryAtEnd_some (s := s) account tag
      by_cases present : ∃ w ∈ s.tags.table, w.content.tag = n
      · obtain ⟨i, e, here, same⟩ := exists_entry clean present
        subst same
        refine ⟨some (i, e), ?_, entry.trans (find?_eq_some_of_ordered law here), ?_⟩
        · simp only [completionLookup, account, tag, lookupTag_present law clean here]
        · rintro _ _ ⟨⟩
          exact ⟨here, by rw [account]; rfl, tag⟩
      · have missing : ∀ w ∈ s.tags.table, w.content.tag ≠ n := fun w hw same => present ⟨w, hw, same⟩
        obtain ⟨i, lookup, -⟩ := lookupTag_missing law clean missing
        refine ⟨none, ?_, entry.trans (find?_eq_none_of_missing missing), fun _ _ h => (by cases h)⟩
        simp only [completionLookup, account, tag, lookup]

theorem LookedUp.record_eq (h : LookedUp s c found) (how : Ending) (l : Lifter) :
    endRecord how l c s = buildRecord how l c found s := by rw [endRecord, h.lookup]

/-! ### The record (R164 to R169) -/

theorem contextNet_eq (l : Lifter) (c : LiftContext) (s : State) : contextNet l c s = netIn s l c := rfl

theorem accountChanged_eq (h : LookedUp s c found) : accountChanged c found = accountMoved s c := by
  unfold accountChanged accountMoved
  rw [h.entry]
  cases c.account with
  | none => rfl
  | some a =>
    cases found with
    | none => rfl
    | some x => simp

theorem handedAllowance_eq (h : LookedUp s c found) : handedAllowance found = allowanceAtEnd s c := by
  rw [allowanceAtEnd, h.entry]
  cases found <;> rfl

/-- The flags of a record before its charge (R18, R45, R120, R121, R156). -/
theorem flags_eq (h : LookedUp s c found) (l : Lifter) :
    ({ flagsWithNet l c s with
        accountChanged := (flagsWithNet l c s).accountChanged || accountChanged c found } : RecordFlags) =
      flagsAtEnd s l c := by
  rw [accountChanged_eq h]
  unfold flagsWithNet flagsAtEnd netIn
  cases c.gross with
  | none => simp
  | some g =>
    cases c.tare with
    | none => simp
    | some t =>
      simp only [netFlags, Option.any_some, RecordFlags.mk.injEq, true_and, and_true]
      refine ⟨?_, rfl⟩
      congr 1
      exact decide_eq_decide.mpr (by omega)

theorem chargePart_billed (h : LookedUp s c found) (l : Lifter) (f : RecordFlags) (flags : f = flagsAtEnd s l c) :
    chargePart c .billed (netIn s l c) (handedAllowance found) f s = chargeAtEnd s l c := by
  rw [handedAllowance_eq h, flags]
  unfold chargePart chargeAtEnd
  cases c.account <;> cases netIn s l c <;> rfl

theorem chargePart_unbilled {status : RecordStatus} (other : status ≠ .billed) (n : Option Nat) (a : Nat)
    (f : RecordFlags) (s : State) : chargePart c status n a f s = (none, f) := by
  unfold chargePart
  split
  · exact absurd rfl other
  · rfl

theorem endRecord_status (how : Ending) (l : Lifter) (c : LiftContext) (s : State) :
    (endRecord how l c s).status = statusOf how c (identityComplete (completionLookup c s).2)
      (contextNet l c (completionLookup c s).2) := rfl

/-- The record of a lift that ends, in a table in order and without error. -/
theorem endRecord_recordOf (law : TableLaw s) (clean : CleanTable s) (how : Ending) (l : Lifter) (c : LiftContext) :
    RecordOf s l c (endRecord how l c s) := by
  obtain ⟨found, looked⟩ := completionLookup_ordered law clean c
  have flags := flags_eq looked l
  have status := endRecord_status how l c s
  rw [looked.record_eq] at status ⊢
  rw [looked.lookup] at status
  refine ⟨rfl, ⟨rfl, rfl, rfl⟩, rfl, ⟨rfl, rfl⟩, ⟨rfl, rfl, rfl, rfl⟩, rfl, fun billed => ?_, fun other => ?_, rfl,
    ⟨rfl, rfl⟩, rfl⟩
  · rw [status] at billed
    change chargePart c (statusOf how c (identityComplete s) (contextNet l c s)) (contextNet l c s) _ _ s = _
    rw [billed]
    exact chargePart_billed looked l _ flags
  · rw [status] at other
    have none := chargePart_unbilled (c := c) other (contextNet l c s) (handedAllowance found) (flagsAtEnd s l c) s
    rw [← flags] at none ⊢
    exact ⟨congrArg Prod.fst none, congrArg Prod.snd none⟩

theorem identityComplete_not (s : State) : (!identityComplete s) = s.calib.identity.toList.any Option.isNone := by
  rw [identityComplete, List.not_all_eq_any_not]
  congr 1
  funext x
  cases x <;> rfl

/-- The status of a record at rest (R164). -/
theorem statusOf_atRest (c : LiftContext) (s : State) (net : Option Nat) :
    statusOf .atRest c (identityComplete s) net = restStatus s c net := by
  unfold statusOf restStatus
  simp only [identityComplete_not, Option.isNone_iff_eq_none]

theorem endRecord_atRest (law : TableLaw s) (clean : CleanTable s) (l : Lifter) (c : LiftContext) :
    (endRecord .atRest l c s).status = restStatus s c (endRecord .atRest l c s).net := by
  obtain ⟨found, looked⟩ := completionLookup_ordered law clean c
  rw [looked.record_eq]
  exact statusOf_atRest c s _

/-! ### The write-back (R157) -/

theorem backTable_of_not {used : Nat} {table : List (Stored AccountEntry)}
    (h : ∀ w ∈ table, ¬ (c.account.isSome = true ∧ c.tag = some w.content.tag)) : backTable c used table = table :=
  (List.map_congr_left fun w hw => if_neg (h w hw)).trans (List.map_id _)

/-- The entry after a write-back. -/
theorem backEntry_eq (dumped : Bool) (used : Nat) (e : AccountEntry) :
    ({ e with
        lifts := if dumped then saturatingSucc top8 e.lifts else e.lifts
        allowance := e.allowance - used } : AccountEntry) = backEntry dumped used e := rfl

theorem writeBack_table (law : TableLaw s) (looked : LookedUp s c found) (used : Nat)
    (table : u.tags.table = s.tags.table) :
    (writeBack c.dumped used found u).tags.table = backTable c used s.tags.table := by
  cases found with
  | none =>
    refine table.trans (backTable_of_not fun w hw ⟨account, tag⟩ => ?_).symm
    have entry := looked.entry
    rw [entryAtEnd, if_pos account, Option.map_none, List.find?_eq_none] at entry
    exact entry w.content (List.mem_map_of_mem hw) (decide_eq_true tag)
  | some x =>
    obtain ⟨i, e⟩ := x
    obtain ⟨here, account, tag⟩ := looked.here i e rfl
    obtain ⟨a, b, parts, rfl, below, above⟩ := law.ordered.parts here
    change u.tags.table.set a.length ⟨backEntry c.dumped used e, .clean⟩ = _
    rw [table, parts, set_split, backTable, List.map_append, List.map_cons, if_pos ⟨account, tag⟩]
    have before : a.map _ = a := backTable_of_not (c := c) (used := used) fun w hw ⟨_, same⟩ => by
      rw [tag, Option.some.injEq] at same
      exact absurd same (Nat.ne_of_gt (below w hw))
    have after : b.map _ = b := backTable_of_not (c := c) (used := used) fun w hw ⟨_, same⟩ => by
      rw [tag, Option.some.injEq] at same
      exact absurd same (Nat.ne_of_lt (above w hw))
    rw [before, after]

/-! ### The payload (R83) -/

theorem evaluateLimits_compartment (st : Stream) (s : State) : (evaluateLimits s).compartment st =
    { s.compartment st with limitReached := limitReachedNow st s } := by
  unfold evaluateLimits latchWhen
  dsimp only
  split <;> cases st <;> rfl

theorem raisePayload_self (st : Stream) (mass : Nat) (s : State) :
    ((raisePayload st mass s).compartment st).payload = (s.compartment st).payload + mass := by
  rw [raisePayload, evaluateLimits_compartment, compartment_withCompartment_self]

theorem raisePayload_of_ne {su : Stream} (other : su ≠ st) (mass : Nat) (s : State) :
    ((raisePayload st mass s).compartment su).payload = (s.compartment su).payload := by
  rw [raisePayload, evaluateLimits_compartment, compartment_withCompartment_of_ne _ _ _ _ other]

/-! ### The end of a lift (R18, R30) -/

/-- The end of a lift after its lookup: record, write-back, payload, end of the context. -/
theorem LookedUp.endLift_eq (looked : LookedUp s c found) (how : Ending) (context : s.context l = some c) :
    endLift how l s = endContext l (raisePayload c.stream (endRecord how l c s).dumpedMass
      (writeBack c.dumped (usedOf (endRecord how l c s)) found (writeRecord (endRecord how l c s) s))) := by
  rw [endLift_some how context, booked, looked.lookup]

theorem usedOf_eq (r : Record) : usedOf r = usedIn r := by
  unfold usedOf usedIn
  cases r.charge <;> rfl

/-- A lift that ends, its valves off already. -/
theorem endLift_ended (law : TableLaw s) (clean : CleanTable s) (how : Ending) (context : s.context l = some c)
    (raiseOff : (s.lifter l).raiseValve = false) (lowerOff : (s.lifter l).lowerValve = false) :
    LiftEnded s (endLift how l s) l c (endRecord how l c s) := by
  obtain ⟨found, looked⟩ := completionLookup_ordered law clean c
  have sequence := (endRecord_recordOf law clean how l c).sequence
  have journal := endLift_journal how context
  have record : ({ endRecord how l c s with sequence := s.journal.nextSequence } : Record) = endRecord how l c s := by
    rw [← sequence]
  have unit := endLift_lifter how l s l
  rw [if_pos rfl] at unit
  have ended := looked.endLift_eq how context
  have compartment (st : Stream) : ((endLift how l s).compartment st).payload = ((raisePayload c.stream
      (endRecord how l c s).dumpedMass (writeBack c.dumped (usedOf (endRecord how l c s)) found
        (writeRecord (endRecord how l c s) s))).compartment st).payload := by rw [ended]; rfl
  have before (st : Stream) : (writeBack c.dumped (usedOf (endRecord how l c s)) found
      (writeRecord (endRecord how l c s) s)).compartment st = s.compartment st :=
    congrArg (fun y => PerStream.get y st) (((writeBack_only _ _ _ _).same .compartments (by decide) :
      (writeBack c.dumped (usedOf (endRecord how l c s)) found (writeRecord (endRecord how l c s) s)).compartments = _))
  refine ⟨?_, ?_, ?_, ?_, ?_, ?_, ?_, ?_, fun st other => ?_, ?_, ?_⟩
  · rw [endLift_context, if_pos rfl]
  · rw [unit]; exact raiseOff
  · rw [unit]; exact lowerOff
  · rw [journal, record]
  · rw [journal]; rfl
  · rw [journal]; rfl
  · rw [journal]
  · rw [compartment, raisePayload_self, before]
  · rw [compartment, raisePayload_of_ne other, before]
  · have tags : (endLift how l s).tags = (writeBack c.dumped (usedOf (endRecord how l c s)) found
        (writeRecord (endRecord how l c s) s)).tags := by
      rw [ended]
      exact ((endContext_only l _).same .tags (by decide) : _).trans ((raisePayload_only _ _ _).same .tags (by decide))
    rw [tags, writeBack_table law looked _ (by rfl), usedOf_eq]
  · have back : PortsQuiet (writeRecord (endRecord how l c s) s)
        (writeBack c.dumped (usedOf (endRecord how l c s)) found (writeRecord (endRecord how l c s) s)) := by
      unfold writeBack
      split <;> exact ⟨fun _ => rfl, fun _ _ latched => latched⟩
    have raised (y : State) : PortsQuiet y (raisePayload c.stream (endRecord how l c s).dumpedMass y) :=
      (latchWhen_quiet _ _ _).after rfl
    rw [ended]
    have latched := LatchedAll.of_quiet (latchAll_latchedAll .recordWritten _) (back.trans (raised _))
    exact latched

end Sys2Proof.Safety
end

section
/-! SUPPORT. A ring conversion that ends (R91, R93): the reading it hands on, and what follows it and reaches the scan
unit and the drift monitors only. -/

namespace Sys2Proof.Safety

open Sys2Proof.Machine

variable {s t u : State} {l m : Lifter} {st : Stream} {c k : LiftContext} {v : Int} {n target : Nat} {ch : Fin 12}

/-- What follows the reading of a ring conversion: the pass, the next position and the converter's next task (R93, R94,
R99; log 17). -/
def ringTail (s u : State) : State :=
  let s2 := if s.scan.ringPos = s.scan.ringEnd then endPass u else u
  afterRing (s2.withScan { s2.scan with ringPos := nextInRing s.scan s.scan.ringPos })

theorem completeRing_eq (r : Option Int) (s : State) :
    completeRing r s = ringTail s (takeRingResult s.scan.ringPos r s) := rfl

theorem exec_ring (busy : s.scan.converter = .ring) (r : Option Int) :
    exec (.ringConversionComplete r) s = .next (ringTail s (takeRingResult s.scan.ringPos r s)) :=
  congrArg Host.Outcome.next (if_pos busy)

theorem ringTail_operates (s u : State) : Operates u (ringTail s u) := by
  have passed : Operates u (if s.scan.ringPos = s.scan.ringEnd then endPass u else u) :=
    Operates.ite (fun _ => Operates.refl.endPass) fun _ => .refl
  exact (passed.scan _ (by exact id)).afterRing

theorem ringTail_only (s u : State) : Only [.scan, .weigh, .ports] u (ringTail s u) := by
  have passed : Only [.scan, .weigh, .ports] u (if s.scan.ringPos = s.scan.ringEnd then endPass u else u) :=
    Only.ite ((endPass_only u).mono (by decide)) (.refl _ u)
  exact passed.both ((withScan_only _ _).step ((afterRing_only _).mono (by decide))) (fun _ h => h) (by decide)

theorem ringTail_quiet (s u : State) : PortsQuiet u (ringTail s u) := (ringTail_operates s u).quiet

/-! ### A reading of an arm angle (R10, R91) -/

theorem validResult_angle (low : 0 ≤ v) (high : v ≤ 4095) (l : Lifter) : validResult (armAngle l) (some v) = some v := by
  have inside : inRawRange (armAngle l) v = true := by
    cases l <;> simp [inRawRange, armAngle, low, high]
  simp only [validResult, Option.filter_some, inside, if_true]

theorem handReading_angle (l : Lifter) (v : Int) (s : State) :
    handReading (armAngle l) v s = angleReading l (angleOf v) s := by
  cases l <;> rfl

theorem takeRingResult_angle (low : 0 ≤ v) (high : v ≤ 4095) (l : Lifter) (s : State) :
    takeRingResult (armAngle l) (some v) s = angleReading l (angleOf v) (writeSlot (armAngle l) v s) := by
  simp only [takeRingResult, validResult_angle low high, handReading_angle]

theorem slot_withSlot_self (ch : Fin 12) (x : Slot) (s : State) : (s.withSlot ch x).slot ch = x := by
  rw [State.slot, State.withSlot, withScan_scan, Vector.get_eq_getElem, Vector.getElem_set_self]

theorem slot_withSlot_of_ne {ch other : Fin 12} (apart : other ≠ ch) (x : Slot) (s : State) :
    (s.withSlot ch x).slot other = s.slot other := by
  rw [State.slot, State.withSlot, withScan_scan, Vector.get_eq_getElem, Vector.getElem_set_ne]
  · rfl
  · exact fun same => apart (Fin.ext same.symm)

theorem writeSlot_fresh (inside : inRing s.scan ch = true) (v : Int) : channelFresh (writeSlot ch v s) ch = true := by
  rw [channelFresh, writeSlot, slot_withSlot_self]
  exact inside

/-- A reading that ends the phase, and one that does not (R10). -/
theorem angleReading_reached (context : s.context l = some c) (goal : phaseTarget l c s = some target)
    (granted : isGranted (s.flow.records.get (.lifter l)) = true) (reached : reachesTarget c.phase target n = true) :
    angleReading l n s = endMotion l s := by
  simp only [angleReading, context, goal, granted, reached, and_self, if_true]

theorem angleReading_short (context : s.context l = some c) (goal : phaseTarget l c s = some target)
    (short : reachesTarget c.phase target n = false) : angleReading l n s = s := by
  simp only [angleReading, context, goal, short, Bool.false_eq_true, and_false, if_false]

/-- A motion phase that has ended, before the next one is entered: valves off, timers stopped, the grant released. -/
def motionStopped (l : Lifter) (c : LiftContext) (s : State) : State :=
  releaseGrant (.lifter l)
    (s.withLifter l
      { s.lifter l with raiseValve := false, lowerValve := false, context := some (stopTimers c) })

theorem endMotion_some (context : s.context l = some c) :
    endMotion l s = enterNext l c.phase (motionStopped l c s) := by
  have phase : s.phase l = some c.phase := by rw [State.phase, context]; rfl
  simp only [endMotion, phase, withValves_mapContext context]
  rfl

/-- What a stopped motion leaves. -/
structure MotionStopped (s u : State) (l : Lifter) (c : LiftContext) : Prop where
  unit : u.lifter l = { s.lifter l with raiseValve := false, lowerValve := false, context := some (stopTimers c) }
  record : isGranted (s.flow.records.get (.lifter l)) = true → u.flow.records.get (.lifter l) = .none
  others : OthersKept s u l
  only : Only flowParts s u
  quiet : PortsQuiet s u

theorem motionStopped_stopped (l : Lifter) (c : LiftContext) (s : State) :
    MotionStopped s (motionStopped l c s) l c := by
  have quiet : PortsQuiet s (s.withLifter l
      { s.lifter l with raiseValve := false, lowerValve := false, context := some (stopTimers c) }) :=
    ⟨fun _ => rfl, fun _ _ latched => latched⟩
  unfold motionStopped
  by_cases granted : isGranted (s.flow.records.get (.lifter l)) = true
  · rw [releaseGrant_granted (by exact granted)]
    exact ⟨(giveBackFlow_lifter_self l _).trans (lifter_withLifter_self s l _), fun _ => giveBackFlow_record _ _,
      (withLifter_others _).trans (giveBackFlow_others _ _ l),
      (withLifter_only s l _).both (giveBackFlow_only _ _) (by decide) (fun _ h => h),
      quiet.trans (giveBackFlow_quiet _ _)⟩
  · rw [releaseGrant, if_neg (by exact granted)]
    exact ⟨lifter_withLifter_self s l _, fun h => absurd h granted, withLifter_others _,
      (withLifter_only s l _).mono (by decide), quiet⟩

theorem MotionStopped.context (h : MotionStopped s u l c) : u.context l = some (stopTimers c) := by
  rw [State.context, h.unit]

theorem MotionStopped.books (h : MotionStopped s u l c) : SameBooks s u := flowParts_books h.only

/-- A weigh phase entered afresh without drift (R12). -/
theorem enterWeigh_afresh {ph : Phase} (context : s.context l = some c)
    (steady : (s.weigh.drift.get l).disabled = false) :
    enterWeigh l ph true s = s.withLifter l (unitWeighing s l { c with retry := 0 } ph) := by
  have own : (s.withLifter l (unitEntering (s.lifter l) c ph)).context l = some { stopTimers c with phase := ph } := by
    rw [State.context, lifter_withLifter_self]; rfl
  unfold enterWeigh
  simp only [setPhase_some ph context, steady, Bool.false_eq_true, if_false]
  rw [mapContext_some _ own, withLifter_withLifter, mapContext_some _ (by rw [State.context, lifter_withLifter_self]),
    withLifter_withLifter, lifter_withLifter_self, lifter_withLifter_self]
  rfl

end Sys2Proof.Safety
end

section
/-! PROOFS. An arm-angle reading at its target (O17), and a lift that reaches rest (O18). -/

namespace Sys2Proof.Safety

open Sys2Proof.Machine

variable {s t u y w : State} {l m : Lifter} {st : Stream} {c k : LiftContext} {v : Int} {n target : Nat} {ch : Fin 12}
  {ph : Phase} {r : Record} {how : Ending}

/-! ### Ends of lifts and the ports -/

theorem raisePayload_quiet (st : Stream) (mass : Nat) (s : State) : PortsQuiet s (raisePayload st mass s) :=
  (latchWhen_quiet _ _ _).after rfl

theorem endLift_quiet (how : Ending) (l : Lifter) (s : State) : PortsQuiet s (endLift how l s) := by
  obtain none | ⟨c, context⟩ := Option.eq_none_or_eq_some (s.context l)
  · rw [endLift_none how none]
    exact .refl s
  · have looked := (completionLookup_reads c s).quiet
    have back (y : State) : PortsQuiet y
        (writeBack c.dumped (usedOf (endRecord how l c s)) (completionLookup c s).1 y) := by
      unfold writeBack
      split <;> exact ⟨fun _ => rfl, fun _ _ latched => latched⟩
    have written (y : State) : PortsQuiet y (writeRecord (endRecord how l c s) y) := (latchAll_quiet _ _).after rfl
    have quiet := ((looked.trans (written _)).trans (back _)).trans
      (raisePayload_quiet c.stream (endRecord how l c s).dumpedMass _)
    rw [endLift_some how context]
    exact ⟨quiet.same, quiet.latches⟩

theorem Ends.quiet (h : Ends s t) : PortsQuiet s t := by
  induction h with
  | refl => exact .refl s
  | operates _ k ih => exact ih.trans k.quiet
  | ended _ how l ih => exact ih.trans (endLift_quiet how l _)

/-! ### What the rest of a ring conversion leaves of a lifter -/

theorem MotionOwn.then (h : MotionOwn s u l c ph) (lifters : t.lifters = u.lifters) (flow : t.flow = u.flow) :
    MotionOwn s t l c ph := by
  have unit : t.lifter l = u.lifter l := congrArg (fun y => PerLifter.get y l) lifters
  have context : t.context l = u.context l := congrArg LifterUnit.context unit
  refine ⟨by rw [context]; exact h.context, by rw [context, flow]; exact h.timers, ?_, by rw [unit, flow]; exact h.raise,
    by rw [unit, flow]; exact h.lower, by rw [unit]; exact h.unit, by rw [unit]; exact h.fault⟩
  obtain ⟨d, demand, asked⟩ := h.request
  exact ⟨d, demand, by simpa only [Asked, flow] using asked⟩

theorem ringTail_books (s u : State) : SameBooks u (ringTail s u) :=
  sameBooks_of_only ((ringTail_only s u).mono (by decide))

/-- A motion phase stopped and its lifter's unit set, at a ring conversion's end. -/
theorem ringTail_unit {a : LifterUnit} (written : Only [.scan] s w) (stopped : MotionStopped w y l c)
    (granted : isGranted (w.flow.records.get (.lifter l)) = true) :
    (ringTail s (y.withLifter l a)).lifter l = a
      ∧ (ringTail s (y.withLifter l a)).flow.records.get (.lifter l) = .none
      ∧ SameBooks s (ringTail s (y.withLifter l a)) := by
  have only := ringTail_only s (y.withLifter l a)
  refine ⟨?_, ?_, ?_⟩
  · rw [State.lifter, show (ringTail s (y.withLifter l a)).lifters = (y.withLifter l a).lifters from
      only.same .lifters (by decide), ← State.lifter, lifter_withLifter_self]
  · rw [show (ringTail s (y.withLifter l a)).flow = y.flow from only.same .flow (by decide)]
    exact stopped.record granted
  · exact ((sameBooks_of_only (written.mono (by decide))).trans (stopped.books.trans (withLifter_books a))).trans
      (ringTail_books s _)

/-- What an arm reading leaves of a lifter that enters a phase which needs no flow. -/
theorem armEnded_unit {a : LifterUnit} (written : Only [.scan] s w) (stopped : MotionStopped w y l c)
    (granted : isGranted (w.flow.records.get (.lifter l)) = true) (off : a.raiseValve = false ∧ a.lowerValve = false)
    (kept : SameUnit (y.lifter l) a) :
    (ringTail s (y.withLifter l a)).context l = a.context
      ∧ ((ringTail s (y.withLifter l a)).lifter l).raiseValve = false
      ∧ ((ringTail s (y.withLifter l a)).lifter l).lowerValve = false
      ∧ (ringTail s (y.withLifter l a)).flow.records.get (.lifter l) = .none
      ∧ SameUnit (s.lifter l) ((ringTail s (y.withLifter l a)).lifter l)
      ∧ SameBooks s (ringTail s (y.withLifter l a)) := by
  obtain ⟨unit, record, books⟩ := ringTail_unit (a := a) written stopped granted
  have before : w.lifter l = s.lifter l := congrArg (fun y => PerLifter.get y l) (written.same .lifters (by decide))
  refine ⟨by rw [State.context, unit], by rw [unit]; exact off.1, by rw [unit]; exact off.2, record, ?_, books⟩
  rw [unit, ← before]
  refine SameUnit.trans ?_ kept
  rw [stopped.unit]
  exact ⟨rfl, rfl, rfl, rfl, rfl⟩

/-- A motion phase that ends under its reading, with the scan unit's write before it. -/
theorem armReading_reached (context : s.context l = some c) (low : 0 ≤ v) (high : v ≤ 4095)
    (pos : s.scan.ringPos = armAngle l) (goal : phaseTarget l c s = some target)
    (granted : isGranted (s.flow.records.get (.lifter l)) = true)
    (reached : reachesTarget c.phase target (angleOf v) = true) :
    takeRingResult s.scan.ringPos (some v) s =
      enterNext l c.phase (motionStopped l c (writeSlot (armAngle l) v s)) := by
  rw [pos, takeRingResult_angle low high, angleReading_reached (c := c) (by exact context) (by exact goal) (by exact granted)
    reached, endMotion_some (c := c) (by exact context)]

theorem reachesTarget_iff : reachesTarget ph target n = true ↔
    if ph = .raiseWeigh ∨ ph = .raiseDump then target ≤ n + 15 else n ≤ target + 15 := by
  have raising : isRaising ph = decide (ph = .raiseWeigh ∨ ph = .raiseDump) := by cases ph <;> rfl
  unfold reachesTarget
  rw [raising]
  by_cases up : ph = .raiseWeigh ∨ ph = .raiseDump
  · rw [if_pos up, decide_eq_true up, if_pos rfl]
    exact decide_eq_true_iff
  · rw [if_neg up, decide_eq_false up, if_neg Bool.false_ne_true]
    exact decide_eq_true_iff

/-- A weigh phase of a disabled lifter ends at its entry: the motion phase after it is entered (R124). -/
theorem armEnded_disabled (written : Only [.scan] s w) (stopped : MotionStopped w y l c)
    (granted : isGranted (w.flow.records.get (.lifter l)) = true) (fresh : channelFresh w (armAngle l) = true)
    (disabled : (s.weigh.drift.get l).disabled = true) :
    MotionOwn s (ringTail s (enterWeigh l ph true y)) l { c with retry := 0, outcome := .zeroDrift } (afterWeigh ph)
      ∧ SameBooks s (ringTail s (enterWeigh l ph true y)) := by
  have only := ringTail_only s (enterWeigh l ph true y)
  have weigh : y.weigh = s.weigh := (stopped.only.same .weigh (by decide) : _).trans (written.same .weigh (by decide))
  have entered := enterWeigh_disabled (ph := ph) true stopped.context (by rw [weigh]; exact disabled)
    (stopped.record granted)
  have books := (sameBooks_of_only (written.mono (by decide))).trans stopped.books
  have sight : SameSight s y l := by
    have before : w.lifter l = s.lifter l := congrArg (fun y => PerLifter.get y l) (written.same .lifters (by decide))
    refine .ofUnit stopped.unit ?_ ?_ books.bodyTimer books.body
    · rw [before]; exact ⟨rfl, rfl, rfl, rfl, rfl⟩
    · rw [before]
  have live : channelFresh y (armAngle l) = true :=
    (channelFresh_congr (stopped.only.same .scan (by decide)) _).trans fresh
  refine ⟨?_, (books.trans entered.books).trans (ringTail_books s _)⟩
  have own := (entered.own.moves fun _ => live).after sight
  exact (own.ofContext (k := { c with retry := 0, outcome := .zeroDrift }) rfl).then (only.same .lifters (by decide))
    (only.same .flow (by decide))

/-- Settles O17: the reading's test (`reachesTarget_iff`), and each phase that it ends by the phase entered
(`armEnded_unit`, `armEnded_disabled`). -/
theorem armReadingEndsPhase : Obligations.ArmReadingEndsPhase := by
  unfold Obligations.ArmReadingEndsPhase
  intro l c v units target s busy pos inside low high context grant goal
  have granted : isGranted (s.flow.records.get (.lifter l)) = true := by rw [grant]; rfl
  have run := exec_ring busy (some v)
  have quiet := (completeRing_ends (some v) s).quiet
  have written := writeSlot_only (armAngle l) v s
  have stopped := motionStopped_stopped l c (writeSlot (armAngle l) v s)
  have fresh := writeSlot_fresh (s := s) inside v
  have weigh : (motionStopped l c (writeSlot (armAngle l) v s)).weigh = s.weigh :=
    (stopped.only.same .weigh (by decide) : _).trans (written.same .weigh (by decide))
  have timer : (motionStopped l c (writeSlot (armAngle l) v s)).bodyTimer = s.bodyTimer :=
    (stopped.only.same .bodyTimer (by decide) : _).trans (written.same .bodyTimer (by decide))
  have takes (reached : if c.phase = .raiseWeigh ∨ c.phase = .raiseDump then target ≤ angleOf v + 15
      else angleOf v ≤ target + 15) := armReading_reached context low high pos goal granted (reachesTarget_iff.mpr reached)
  have weighEnds {ph : Phase} (steady : (s.weigh.drift.get l).disabled = false) :
      enterWeigh l ph true (motionStopped l c (writeSlot (armAngle l) v s)) = _ :=
    enterWeigh_afresh (ph := ph) stopped.context (by rw [weigh]; exact steady)
  refine ⟨_, run, quiet, fun short => ?_, fun reached phase steady => ?_, fun reached phase => ?_,
    fun reached phase steady => ?_, fun reached phase disabled => ?_, fun reached phase disabled => ?_⟩
  · have stays : takeRingResult s.scan.ringPos (some v) s = writeSlot (armAngle l) v s := by
      rw [pos, takeRingResult_angle low high]
      exact angleReading_short (c := c) (by exact context) (by exact goal)
        (Bool.eq_false_iff.mpr fun yes => short (reachesTarget_iff.mp yes))
    rw [stays]
    have only := ringTail_only s (writeSlot (armAngle l) v s)
    exact ⟨only.same .lifters (by decide), only.same .flow (by decide), only.same .packers (by decide),
      (sameBooks_of_only (written.mono (by decide))).trans (ringTail_books s _)⟩
  · have ends := takes (by rw [phase]; exact reached)
    rw [phase] at ends
    rw [ends, enterNext]
    rw [weighEnds steady, ← timer]
    exact armEnded_unit written stopped granted ⟨rfl, rfl⟩ ⟨rfl, rfl, rfl, rfl, rfl⟩
  · have ends := takes (by rw [phase]; exact reached)
    rw [phase] at ends
    rw [ends, enterNext]
    rw [enterDumpDwell_entered stopped.context, ← timer]
    exact armEnded_unit written stopped granted ⟨rfl, rfl⟩ ⟨rfl, rfl, rfl, rfl, rfl⟩
  · have ends := takes (by rw [phase]; exact reached)
    rw [phase] at ends
    rw [ends, enterNext]
    rw [weighEnds steady, ← timer]
    exact armEnded_unit written stopped granted ⟨rfl, rfl⟩ ⟨rfl, rfl, rfl, rfl, rfl⟩
  · have ends := takes (by rw [phase]; exact reached)
    rw [phase] at ends
    rw [ends]
    exact armEnded_disabled (ph := .grossWeigh) written stopped granted fresh disabled
  · have ends := takes (by rw [phase]; exact reached)
    rw [phase] at ends
    rw [ends]
    exact armEnded_disabled (ph := .tareWeigh) written stopped granted fresh disabled

/-! ### A lift that reaches rest (R18, R23) -/

/-- The record and the end of a lift look at the account table, the journal, the calibration, the tariffs and the body. -/
theorem RecordOf.before (h : RecordOf u l (stopTimers c) r) (books : SameBooks s u) : RecordOf s l c r := by
  have net : netIn u l (stopTimers c) = netIn s l c := by simp only [netIn, books.calib]; rfl
  have entry : entryAtEnd u (stopTimers c) = entryAtEnd s c := by simp only [entryAtEnd, books.tags]; rfl
  have moved : accountMoved u (stopTimers c) = accountMoved s c := by simp only [accountMoved, entry]; rfl
  have flags : flagsAtEnd u l (stopTimers c) = flagsAtEnd s l c := by
    simp only [flagsAtEnd, moved, net, books.calib, books.body]; rfl
  have charge : chargeAtEnd u l (stopTimers c) = chargeAtEnd s l c := by
    simp only [chargeAtEnd, net, allowanceAtEnd, entry, flags, books.tags]; rfl
  obtain ⟨sequence, who, load, account, ⟨gross, tare, outcome, net'⟩, mass, billed, unbilled, sealed, times, odometer⟩ := h
  refine ⟨by rw [← books.journal]; exact sequence, who, ?_, account, ⟨gross, tare, outcome, net'.trans net⟩, ?_,
    fun is => (billed is).trans charge, fun is => ?_, sealed, ⟨times.1, by rw [← books.body]; exact times.2⟩,
    by rw [← books.body]; exact odometer⟩
  · rw [State.compartment, ← books.compartments]
    exact load
  · rw [mass, net, books.banks]
    rfl
  · rw [← flags]
    exact unbilled is

theorem LiftEnded.before (h : LiftEnded u t l (stopTimers c) r) (books : SameBooks s u) : LiftEnded s t l c r := by
  obtain ⟨context, raiseOff, lowerOff, stored, next, place, freed, payload, other, table, event⟩ := h
  rw [books.journal] at stored next place freed
  simp only [State.compartment, books.compartments] at payload other
  rw [books.tags] at table
  exact ⟨context, raiseOff, lowerOff, stored, next, place, freed, payload, other, table, event⟩

/-- What follows the end of a lift in its command reaches the scan unit and the weigh engine. -/
theorem LiftEnded.then (h : LiftEnded s u l c r) (only : Only [.scan, .weigh, .ports] u t) (quiet : PortsQuiet u t) :
    LiftEnded s t l c r := by
  obtain ⟨context, raiseOff, lowerOff, stored, next, place, freed, payload, other, table, event⟩ := h
  have unit : t.lifter l = u.lifter l := congrArg (fun y => PerLifter.get y l) (only.same .lifters (by decide))
  have journal : t.journal = u.journal := only.same .journal (by decide)
  have compartment (st : Stream) : t.compartment st = u.compartment st :=
    congrArg (fun y => PerStream.get y st) (only.same .compartments (by decide))
  have tags : t.tags = u.tags := only.same .tags (by decide)
  refine ⟨by rw [State.context, unit]; exact context, by rw [unit]; exact raiseOff, by rw [unit]; exact lowerOff, ?_, ?_, ?_,
    ?_, by rw [compartment]; exact payload, fun st apart => by rw [compartment]; exact other st apart,
    by rw [tags]; exact table, event.of_quiet quiet⟩
  · rw [journal]; exact stored
  · rw [journal]; exact next
  · rw [journal]; exact place
  · rw [journal]; exact freed

/-- A lift ended after its motion has stopped, in a table in order and without error. -/
theorem restLift_ended (law : TableLaw s) (clean : CleanTable s) (books : SameBooks s w) (stopped : MotionStopped w y l c)
    (how : Ending) :
    RecordOf s l c (endRecord how l (stopTimers c) y)
      ∧ (endRecord how l (stopTimers c) y).status = statusOf how c (identityComplete s) (endRecord how l (stopTimers c) y).net
      ∧ (endRecord how l (stopTimers c) y).abortPhase = recordAbortPhase how (stopTimers c)
      ∧ LiftEnded s (endLift how l y) l c (endRecord how l (stopTimers c) y) := by
  have before := books.trans stopped.books
  have law' : TableLaw y := law.of_kept (.of_tags before.tags)
  have clean' : CleanTable y := fun x hx => clean x (by rw [← before.tags]; exact hx)
  have record := endRecord_recordOf law' clean' how l (stopTimers c)
  have ended := endLift_ended law' clean' how stopped.context (by rw [stopped.unit]) (by rw [stopped.unit])
  refine ⟨record.before before, ?_, rfl, ended.before before⟩
  obtain ⟨found, looked⟩ := completionLookup_ordered law' clean' (stopTimers c)
  rw [looked.record_eq]
  change statusOf how (stopTimers c) (identityComplete y) _ = _
  rw [show identityComplete y = identityComplete s from by rw [identityComplete, before.calib]; rfl]
  cases how <;> rfl

/-- Settles O18: the phase's end stops the motion, the lift's end writes the record (`restLift_ended`), and the rest of
the conversion adds nothing. -/
theorem liftCompletes : Obligations.LiftCompletes := by
  unfold Obligations.LiftCompletes
  intro l c v units s law clean context
  have written := writeSlot_only (armAngle l) v s
  have stopped := motionStopped_stopped l c (writeSlot (armAngle l) v s)
  have books : SameBooks s (writeSlot (armAngle l) v s) := sameBooks_of_only (written.mono (by decide))
  refine ⟨fun busy pos low high grant phase rest => ?_, fun busy pos low high grant phase rest => ?_, fun phase out => ?_,
    fun not => ?_⟩
  · have granted : isGranted (s.flow.records.get (.lifter l)) = true := by rw [grant]; rfl
    obtain ⟨record, status, abort, ended⟩ := restLift_ended law clean books stopped .atRest
    have takes := armReading_reached (target := (s.lifter l).settings.restAngle) context low high pos
      (by rw [phaseTarget, phase]) granted (reachesTarget_iff.mpr (by rw [phase]; exact rest))
    rw [phase] at takes
    refine ⟨_, _, exec_ring busy (some v), (completeRing_ends (some v) s).quiet, record, ?_, abort, ?_⟩
    · rw [status, statusOf_atRest]
    · rw [takes]
      exact ended.then (ringTail_only s _) (ringTail_quiet s _)
  · have granted : isGranted (s.flow.records.get (.lifter l)) = true := by rw [grant]; rfl
    obtain ⟨record, status, abort, ended⟩ := restLift_ended law clean books stopped .returned
    have takes := armReading_reached (target := (s.lifter l).settings.restAngle) context low high pos
      (by rw [phaseTarget, phase]) granted (reachesTarget_iff.mpr (by rw [phase]; exact rest))
    rw [phase] at takes
    refine ⟨_, _, exec_ring busy (some v), (completeRing_ends (some v) s).quiet, record, status, abort, ?_⟩
    rw [takes]
    exact ended.then (ringTail_only s _) (ringTail_quiet s _)
  · have run : exec (.returnTimeLimit l) s = .next (enterNext l c.phase (motionStopped l c s)) := by
      have expires : c.phase = .returning ∧ expired s c.phaseTimer returnLimitMs = true :=
        ⟨phase, by rw [expired_eq_due]; exact out⟩
      refine (congrArg Host.Outcome.next (onContext_some context _)).trans ?_
      rw [if_pos expires, endMotion_some context]
    rw [phase] at run
    obtain ⟨record, status, abort, ended⟩ := restLift_ended law clean
      ⟨⟨rfl, rfl, rfl, rfl, rfl, rfl, rfl, rfl, rfl⟩, rfl, rfl, rfl, rfl, rfl⟩ (motionStopped_stopped l c s) .returned
    exact ⟨_, _, run, (returnTimeLimit_ends run).quiet, record, status, abort, ended⟩
  · refine (congrArg Host.Outcome.next (onContext_some context _)).trans ?_
    rw [if_neg]
    rintro ⟨phase, out⟩
    rw [expired_eq_due] at out
    rcases not with other | early
    · exact other phase
    · exact absurd (early.symm.trans out) Bool.false_ne_true

end Sys2Proof.Safety
end

section
/-! PROOFS. The end of a weigh computation (O49) and of an inserted conversion (O48). -/

namespace Sys2Proof.Safety

open Sys2Proof.Machine

variable {s t u y : State} {l m : Lifter} {c k : LiftContext} {v : Int} {ch : Fin 12} {ph : Phase} {rest : List Lifter}
  {x : Computation} {r : LastResult} {N : Nat} {samples : List Int}

/-! ### The end of a computation (R109) -/

/-- A computation's result taken from the weigh engine, before it is handed to the lift: the window emptied, the head of
the queue gone, the last result kept. -/
def delivered (l : Lifter) (rest : List Lifter) (r : LastResult) (s : State) : State :=
  (s.withBuffer l .empty).withWeigh
    { s.weigh with queue := rest, computation := none, last := s.weigh.last.set l (some r) }

theorem exec_computationEnd (computes : s.weigh.computation = some x) (out : x.startedAt + 2 ≤ s.bodyTimer)
    (queue : s.weigh.queue = l :: rest) :
    exec .weighComputationEnd s = .next (startComputation
      (takeResult l (computeResult x s.body.clockSeconds).outcome (computeResult x s.body.clockSeconds).mass
        (delivered l rest (computeResult x s.body.clockSeconds) s))) := by
  have expires : expired s (computationTimer s.weigh) computationMs = true := by
    rw [expired_eq_due, computationTimer, computes]
    exact decide_eq_true out
  refine (congrArg Host.Outcome.next ((if_pos expires).trans ?_))
  simp only [endComputation, computes, queue]
  rfl

/-- What the delivery of a result leaves of the rest, whatever the lift makes of it. -/
structure Delivered (s u : State) (l : Lifter) (rest : List Lifter) (r : LastResult) : Prop where
  queue : u.weigh.queue = rest
  last : u.weigh.last = s.weigh.last.set l (some r)
  drift : u.weigh.drift = s.weigh.drift
  buffers : ∀ m, m ≠ l → u.scan.buffers.get m = s.scan.buffers.get m
  scan : u.scan = { s.scan with buffers := u.scan.buffers }
  banks : ∀ m, m ≠ l → (u.context m).map LiftContext.bank = (s.context m).map LiftContext.bank
  books : SameBooks s u
  quiet : PortsQuiet s u

/-- The next computation of the queue, with its inputs as they stand (R108). -/
theorem Delivered.begun (h : Delivered s u l rest r) (away : l ∉ rest) : Begun s (startComputation u) rest := by
  refine begun_of_computation ((startComputation_computation u).trans ?_)
  rw [h.queue]
  cases rest with
  | nil => rfl
  | cons m rest =>
    have other : m ≠ l := fun same => away (same ▸ List.mem_cons_self ..)
    exact computationFor_congr (h.buffers m other) (h.banks m other) h.books.bodyTimer h.books.calib

theorem delivered_books (l : Lifter) (rest : List Lifter) (r : LastResult) (s : State) :
    SameBooks s (delivered l rest r s) :=
  ⟨⟨rfl, rfl, rfl, rfl, rfl, rfl, rfl, rfl, rfl⟩, rfl, rfl, rfl, rfl, rfl⟩

theorem delivered_quiet (l : Lifter) (rest : List Lifter) (r : LastResult) (s : State) :
    PortsQuiet s (delivered l rest r s) := ⟨fun _ => rfl, fun _ _ latched => latched⟩

/-- A result that ends the weigh phase. -/
theorem Delivered.ofMotion (h : MotionEntered (delivered l rest r s) u l k ph) : Delivered s u l rest r where
  queue := by rw [h.weigh]; rfl
  last := by rw [h.weigh]; rfl
  drift := by rw [h.weigh]; rfl
  buffers m other := by
    rw [h.scan]
    exact PerLifter.get_set_of_ne _ _ _ _ other
  scan := by rw [h.scan]; rfl
  banks m other := by
    have same : m = otherLifter l := by cases l <;> cases m <;> first | rfl | exact absurd rfl other
    subst same
    exact LifterUpToGrant.bank (s := delivered l rest r s) h.others.lifter
  books := (delivered_books l rest r s).trans h.books
  quiet := (delivered_quiet l rest r s).trans h.quiet

theorem MovesOrFaults.then (h : MovesOrFaults s u l c ph) (lifters : t.lifters = u.lifters) (flow : t.flow = u.flow)
    (ports : t.ports = u.ports) : MovesOrFaults s t l c ph := by
  refine ⟨fun live => (h.moves live).then lifters flow, fun motion aged => ?_⟩
  have unit : t.lifter l = u.lifter l := congrArg (fun y => PerLifter.get y l) lifters
  obtain ⟨context, raiseOff, lowerOff, record, fault, event, kept⟩ := h.faults motion aged
  refine ⟨by rw [State.context, unit]; exact context, by rw [unit]; exact raiseOff, by rw [unit]; exact lowerOff,
    by rw [flow]; exact record, by rw [unit]; exact fault, fun p => ?_, by rw [unit]; exact kept⟩
  rw [State.port, ports]
  exact event p

/-- A weigh phase that ends from a context of the same phase (R15). -/
theorem endWeigh_withContext (k : LiftContext) (s : State) :
    endWeigh l (s.withLifter l { s.lifter l with context := some k }) =
      enterMotion l (afterWeigh k.phase) (s.withLifter l { s.lifter l with context := some k }) := by
  have phase : (s.withLifter l { s.lifter l with context := some k }).phase l = some k.phase := by
    rw [State.phase, State.context, lifter_withLifter_self]; rfl
  simp only [endWeigh, phase]

theorem takeResult_ok (mass : Option Int) (context : s.context l = some c) (weighs : isWeigh c.phase = true) :
    takeResult l .ok mass s = endWeigh l (s.withLifter l { s.lifter l with context := some (writeMass mass c) }) := by
  simp only [takeResult, context, weighs, if_true, mapContext_some _ context]

/-- A context whose window is captured again (R13). -/
def retried (c : LiftContext) : LiftContext :=
  { c with retry := c.retry + 1, flags := { c.flags with windowRetried := true } }

theorem takeResult_retry (mass : Option Int) (context : s.context l = some c) (weighs : isWeigh c.phase = true)
    (few : c.retry < 2) : takeResult l .unstable mass s =
      armWindow l (s.withLifter l { s.lifter l with context := some (retried c) }) := by
  simp only [takeResult, context, weighs, if_true, few, mapContext_some _ context]
  rfl

theorem takeResult_spent (mass : Option Int) (context : s.context l = some c) (weighs : isWeigh c.phase = true)
    (spent : 2 ≤ c.retry) : takeResult l .unstable mass s =
      endWeigh l (s.withLifter l { s.lifter l with context := some { c with retry := 3, outcome := .unstable } }) := by
  simp only [takeResult, context, weighs, if_true, Nat.not_lt.mpr spent, if_false, mapContext_some _ context]

theorem takeResult_failed {o : WeighOutcome} (mass : Option Int) (context : s.context l = some c)
    (weighs : isWeigh c.phase = true) (notOk : o ≠ .ok) (notUnstable : o ≠ .unstable) : takeResult l o mass s =
      endWeigh l (s.withLifter l { s.lifter l with context := some { c with outcome := o } }) := by
  cases o
  case ok => exact absurd rfl notOk
  case unstable => exact absurd rfl notUnstable
  all_goals simp only [takeResult, context, weighs, if_true, mapContext_some _ context]

theorem writeMass_phase (mass : Option Int) (c : LiftContext) : (writeMass mass c).phase = c.phase := by
  unfold writeMass
  split <;> rfl

/-- A result that ends the weigh phase from the context k, and the next computation started. -/
theorem computation_ends (free : s.flow.records.get (.lifter l) = .none) (k : LiftContext) :
    ∃ u, endWeigh l ((delivered l rest r s).withLifter l { (delivered l rest r s).lifter l with context := some k }) = u
      ∧ Delivered s u l rest r ∧ MovesOrFaults s (startComputation u) l k (afterWeigh k.phase)
      ∧ (startComputation u).scan.buffers.get l = .empty := by
  have entered := enterMotion_withContext (s := delivered l rest r s) (l := l) k free (afterWeigh_moves k.phase)
  have only (z : State) := startComputation_only z
  refine ⟨_, endWeigh_withContext k _, .ofMotion entered, ?_, ?_⟩
  · refine MovesOrFaults.then (u := enterMotion l (afterWeigh k.phase) ((delivered l rest r s).withLifter l
        { (delivered l rest r s).lifter l with context := some k })) ?_ ((only _).same .lifters (by decide))
      ((only _).same .flow (by decide)) ((only _).same .ports (by decide))
    exact entered.own.after (.ofUnit rfl (.refl _) rfl rfl rfl) rfl
  · rw [(only _).same .scan (by decide), entered.scan]
    exact PerLifter.get_set_self _ _ _

/-- A result that is unstable, its window armed anew (R13). -/
theorem computation_retries (k : LiftContext) :
    ∃ u, armWindow l ((delivered l rest r s).withLifter l { (delivered l rest r s).lifter l with context := some k }) = u
      ∧ Delivered s u l rest r ∧ (startComputation u).context l = some k
      ∧ (startComputation u).scan.buffers.get l = .filling
          (if (s.calib.cal.get l).valid then (s.calib.cal.get l).items.windowSize else 32) []
      ∧ (startComputation u).flow = s.flow ∧ (startComputation u).lifter (otherLifter l) = s.lifter (otherLifter l) := by
  have empty : ((delivered l rest r s).withLifter l { (delivered l rest r s).lifter l with context := some k }).scan.buffers.get
      l = .empty := PerLifter.get_set_self _ _ _
  have only (z : State) := startComputation_only z
  refine ⟨_, armWindow_empty empty, ⟨rfl, rfl, rfl, fun m other => ?_, rfl, fun m other => ?_,
    (delivered_books l rest r s).trans ⟨⟨rfl, rfl, rfl, rfl, rfl, rfl, rfl, rfl, rfl⟩, rfl, rfl, rfl, rfl, rfl⟩,
    ⟨fun _ => rfl, fun _ _ latched => latched⟩⟩, ?_, ?_, (only _).same .flow (by decide), ?_⟩
  · exact (PerLifter.get_set_of_ne _ _ _ _ other).trans (PerLifter.get_set_of_ne _ _ _ _ other)
  · change ((((delivered l rest r s).withLifter l _).lifter m).context.map LiftContext.bank) = _
    rw [lifter_withLifter_of_ne _ _ _ _ other]
    rfl
  · rw [State.context, State.lifter, (only _).same .lifters (by decide)]
    exact congrArg LifterUnit.context (lifter_withLifter_self _ _ _)
  · rw [(only _).same .scan (by decide)]
    exact PerLifter.get_set_self _ _ _
  · rw [State.lifter, (only _).same .lifters (by decide)]
    exact lifter_withLifter_of_ne _ _ _ _ (otherLifter_ne l)

/-- Settles O49: the delivery (`Delivered`), by what the lift makes of the outcome. -/
theorem weighComputationDelivers : Obligations.WeighComputationDelivers := by
  unfold Obligations.WeighComputationDelivers
  intro l rest x c s
  refine ⟨fun computes out queue away context weighs free => ?_, fun not => ?_⟩
  · have run := exec_computationEnd computes out queue
    generalize computeResult x s.body.clockSeconds = r at run ⊢
    have context' : (delivered l rest r s).context l = some c := context
    have common {u : State} (h : Delivered s u l rest r) : PortsQuiet s (startComputation u)
        ∧ (startComputation u).weigh.queue = rest ∧ Begun s (startComputation u) rest
        ∧ (startComputation u).weigh.last = s.weigh.last.set l (some r)
        ∧ (startComputation u).weigh.drift = s.weigh.drift ∧ SameBooks s (startComputation u)
        ∧ (∀ m, m ≠ l → (startComputation u).scan.buffers.get m = s.scan.buffers.get m)
        ∧ (startComputation u).scan = { s.scan with buffers := (startComputation u).scan.buffers } := by
      obtain ⟨same, drift, last⟩ := startComputation_keeps u
      have only := startComputation_only u
      have scan : (startComputation u).scan = u.scan := only.same .scan (by decide)
      refine ⟨h.quiet.trans (Operates.refl.startComputation).quiet, same.trans h.queue, h.begun away, last.trans h.last,
        drift.trans h.drift, h.books.trans (sameBooks_of_only (only.mono (by decide))), fun m other => ?_, ?_⟩
      · rw [scan]; exact h.buffers m other
      · rw [scan]; exact h.scan
    by_cases ok : r.outcome = .ok
    · rw [ok, takeResult_ok r.mass context' weighs] at run
      obtain ⟨u, same, done, moves, empty⟩ := computation_ends (rest := rest) (r := r) free (writeMass r.mass c)
      rw [same] at run
      rw [writeMass_phase] at moves
      obtain ⟨quiet, queue', begun, last, drift, books, buffers, scan⟩ := common done
      refine ⟨_, run, quiet, queue', begun, last, drift, books, buffers, scan, fun _ => ⟨moves, empty⟩, fun other => ?_,
        fun other => ?_, fun notOk => absurd ok notOk⟩
      · rw [ok] at other; cases other
      · rw [ok] at other; cases other
    · by_cases unstable : r.outcome = .unstable
      · by_cases few : c.retry < 2
        · rw [unstable, takeResult_retry r.mass context' weighs few] at run
          obtain ⟨u, same, done, again, filling, flow, other⟩ := computation_retries (s := s) (l := l) (rest := rest)
            (r := r) (retried c)
          rw [same] at run
          obtain ⟨quiet, queue', begun, last, drift, books, buffers, scan⟩ := common done
          exact ⟨_, run, quiet, queue', begun, last, drift, books, buffers, scan, fun is => absurd is ok,
            fun _ _ => ⟨again, filling, flow, other⟩, fun _ spent => absurd few (Nat.not_lt.mpr spent),
            fun _ notUnstable => absurd unstable notUnstable⟩
        · have spent := Nat.le_of_not_lt few
          rw [unstable, takeResult_spent r.mass context' weighs spent] at run
          obtain ⟨u, same, done, moves, empty⟩ := computation_ends (rest := rest) (r := r) free
            { c with retry := 3, outcome := .unstable }
          rw [same] at run
          obtain ⟨quiet, queue', begun, last, drift, books, buffers, scan⟩ := common done
          exact ⟨_, run, quiet, queue', begun, last, drift, books, buffers, scan, fun is => absurd is ok,
            fun _ yes => absurd yes few, fun _ _ => ⟨moves, empty⟩, fun _ notUnstable => absurd unstable notUnstable⟩
      · rw [takeResult_failed r.mass context' weighs ok unstable] at run
        obtain ⟨u, same, done, moves, empty⟩ := computation_ends (rest := rest) (r := r) free { c with outcome := r.outcome }
        rw [same] at run
        obtain ⟨quiet, queue', begun, last, drift, books, buffers, scan⟩ := common done
        exact ⟨_, run, quiet, queue', begun, last, drift, books, buffers, scan, fun is => absurd is ok,
          fun is => absurd is unstable, fun is => absurd is unstable, fun _ _ => ⟨moves, empty⟩⟩
  · rcases not with early | none
    · refine congrArg Host.Outcome.next (if_neg ?_)
      rw [expired_eq_due]
      exact fun out => absurd (early.symm.trans out) Bool.false_ne_true
    · have stays : endComputation s = s := by
        unfold endComputation
        rw [none]
        split
        · next h => cases h
        · rfl
      exact congrArg Host.Outcome.next (by rw [stays, ite_self])

end Sys2Proof.Safety
end

section
/-! PROOFS. The end of an inserted conversion (O48). -/

namespace Sys2Proof.Safety

open Sys2Proof.Machine

variable {s t u y : State} {l m : Lifter} {c k : LiftContext} {v : Int} {ch : Fin 12} {N : Nat} {samples : List Int}
  {b : Buffer}

/-! ### A completed window joins the queue (R107, R108) -/

theorem joinQueue_queue (l : Lifter) (s : State) : (joinQueue l s).weigh.queue = s.weigh.queue ++ [l] := by
  unfold joinQueue
  split
  · next empty => rw [(startComputation_keeps _).1, empty]; rfl
  · rfl

theorem joinQueue_starts (empty : s.weigh.queue = []) :
    (joinQueue l s).weigh.computation = computationFor l s := by
  simp only [joinQueue, empty]
  rw [startComputation_computation]
  rfl

theorem joinQueue_waits (some : s.weigh.queue ≠ []) : (joinQueue l s).weigh.computation = s.weigh.computation := by
  unfold joinQueue
  split
  · next empty => exact absurd empty some
  · rfl

/-- The marking of the lift while the seal reads OPEN (R135). -/
theorem markSeal_context (l : Lifter) (s : State) : (markSeal l s).context l =
    (s.context l).map fun c => { c with sealWasOpen := c.sealWasOpen || s.calib.sealSwitch.reading } := by
  unfold markSeal
  cases reading : s.calib.sealSwitch.reading with
  | true =>
    rw [if_pos rfl]
    simp [State.mapContext]
  | false =>
    rw [if_neg Bool.false_ne_true]
    simp

theorem markSeal_of_ne (l : Lifter) (s : State) {m : Lifter} (other : m ≠ l) : (markSeal l s).lifter m = s.lifter m := by
  unfold markSeal
  split
  · exact lifter_withLifter_of_ne _ _ _ _ other
  · rfl

theorem markSeal_only (l : Lifter) (s : State) : Only [.lifters] s (markSeal l s) :=
  Only.ite (mapContext_only s l _) (.refl _ s)

/-! ### The inserted conversion (R100) -/

theorem validResult_load (low : -524288 ≤ v) (high : v ≤ 524287) (l : Lifter) :
    validResult (loadCell l) (some v) = some v := by
  have inside : inRawRange (loadCell l) v = true := by
    cases l <;> simp [inRawRange, loadCell, low, high]
  simp only [validResult, Option.filter_some, inside, if_true]

theorem exec_inserted (converter : s.scan.converter = .inserted l) (r : Option Int) :
    exec (.insertedConversionComplete r) s = .next (completeInserted l r s) := by
  refine congrArg Host.Outcome.next ?_
  rw [converter]

theorem exec_inserted_idle (other : ∀ l, s.scan.converter ≠ .inserted l) (r : Option Int) :
    exec (.insertedConversionComplete r) s = .next s := by
  refine congrArg Host.Outcome.next ?_
  split
  · next m is => exact absurd is (other m)
  · rfl

/-- What follows the sample of an inserted conversion: the next ring conversion (R93). -/
def ringNext (s : State) : State := s.withScan { s.scan with converter := .ring }

theorem completeInserted_valid (low : -524288 ≤ v) (high : v ≤ 524287) :
    completeInserted l (some v) s = ringNext (addSample l v (writeSlot (loadCell l) v s)) := by
  simp only [completeInserted, validResult_load low high]
  rfl

theorem addSample_more (filling : s.scan.buffers.get l = .filling N samples) (more : samples.length + 1 ≠ N) :
    addSample l v s = s.withBuffer l (.filling N (samples ++ [v])) := by
  have short : (samples ++ [v]).length ≠ N := by simpa using more
  simp only [addSample, filling, short, if_false]

theorem addSample_last (filling : s.scan.buffers.get l = .filling N samples) (last : samples.length + 1 = N) :
    addSample l v s = completeWindow l N (samples ++ [v]) s := by
  have full : (samples ++ [v]).length = N := by simpa using last
  simp only [addSample, filling, full, if_true]

theorem addSample_none (idle : isFilling (s.scan.buffers.get l) = false) : addSample l v s = s := by
  unfold addSample
  split
  · next filling => rw [filling] at idle; cases idle
  · rfl

/-- The copies kept with a window: the load cell's own slot is none of theirs (R101). -/
theorem copySlots_written (l : Lifter) (v : Int) (s : State) : copySlots (writeSlot (loadCell l) v s) =
    ⟨⟨channelValue s 4, channelFresh s 4⟩, ⟨channelValue s 5, channelFresh s 5⟩, ⟨channelValue s 11, channelFresh s 11⟩⟩ := by
  have kept (ch : Fin 12) (apart : ch ≠ loadCell l) : copySlot (writeSlot (loadCell l) v s) ch =
      ⟨channelValue s ch, channelFresh s ch⟩ := by
    simp only [copySlot, channelValue, channelFresh, writeSlot, slot_withSlot_of_ne apart]
  rw [copySlots, kept pitchChannel (by cases l <;> decide), kept rollChannel (by cases l <;> decide),
    kept excitationChannel (by cases l <;> decide)]
  rfl

/-- The scan unit after an inserted conversion that gave the lifter the buffer b. -/
structure Inserted (s t : State) (l : Lifter) (v : Int) (b : Buffer) : Prop where
  scan : t.scan = { s.scan with
    slots := (writeSlot (loadCell l) v s).scan.slots, buffers := s.scan.buffers.set l b, converter := .ring }
  other : t.lifter (otherLifter l) = s.lifter (otherLifter l)

theorem Inserted.slot (h : Inserted s t l v b) : t.slot (loadCell l) =
    ⟨some ⟨v, s.scan.pass⟩, inRing s.scan (loadCell l),
      if inRing s.scan (loadCell l) then some s.bodyTimer else none⟩ := by
  have own := slot_withSlot_self (loadCell l) ⟨some ⟨v, s.scan.pass⟩, inRing s.scan (loadCell l),
    if inRing s.scan (loadCell l) then some s.bodyTimer else none⟩ s
  rw [State.slot, h.scan]
  exact own

theorem Inserted.slots (h : Inserted s t l v b) {x : Fin 12} (apart : x ≠ loadCell l) : t.slot x = s.slot x := by
  have kept := slot_withSlot_of_ne apart ⟨some ⟨v, s.scan.pass⟩, inRing s.scan (loadCell l),
    if inRing s.scan (loadCell l) then some s.bodyTimer else none⟩ s
  rw [State.slot, h.scan]
  exact kept

/-- Settles O48: the sample added or the window completed (`addSample_more`, `addSample_last`), the scan unit's part in
both (`Inserted`). -/
theorem insertedConversionSamples : Obligations.InsertedConversionSamples := by
  unfold Obligations.InsertedConversionSamples
  intro l v N samples s
  refine ⟨fun converter low high filling => ?_, fun converter low high idle => ?_, fun converter => ?_,
    fun other r => exec_inserted_idle other r⟩
  · have only := completeInserted_only l (some v) s
    have filling' : (writeSlot (loadCell l) v s).scan.buffers.get l = .filling N samples := filling
    refine ⟨_, exec_inserted converter _, only.same .ports (by decide), sameBooks_of_only (only.mono (by decide)), ?_⟩
    have flow := only.same .flow (by decide)
    have packers := only.same .packers (by decide)
    clear only
    rw [completeInserted_valid low high] at flow packers ⊢
    by_cases last : samples.length + 1 = N
    · rw [addSample_last filling' last, completeWindow, copySlots_written] at flow packers ⊢
      generalize copies : (⟨⟨channelValue s 4, channelFresh s 4⟩, ⟨channelValue s 5, channelFresh s 5⟩,
        ⟨channelValue s 11, channelFresh s 11⟩⟩ : SlotCopies) = q at *
      have join := joinQueue_only l (markSeal l ((writeSlot (loadCell l) v s).withBuffer l (.held N (samples ++ [v]) q)))
      have mark := markSeal_only l ((writeSlot (loadCell l) v s).withBuffer l (.held N (samples ++ [v]) q))
      have scan := (join.same .scan (by decide) : _).trans (mark.same .scan (by decide))
      have lifters := join.same .lifters (by decide)
      have weigh : (markSeal l ((writeSlot (loadCell l) v s).withBuffer l (.held N (samples ++ [v]) q))).weigh = s.weigh :=
        mark.same .weigh (by decide)
      have timer : (markSeal l ((writeSlot (loadCell l) v s).withBuffer l (.held N (samples ++ [v]) q))).bodyTimer =
        s.bodyTimer := mark.same .bodyTimer (by decide)
      have calib : (markSeal l ((writeSlot (loadCell l) v s).withBuffer l (.held N (samples ++ [v]) q))).calib =
        s.calib := mark.same .calib (by decide)
      have held : (markSeal l ((writeSlot (loadCell l) v s).withBuffer l (.held N (samples ++ [v]) q))).scan.buffers.get l =
          .held N (samples ++ [v]) q := by
        rw [mark.same .scan (by decide)]
        exact PerLifter.get_set_self _ _ _
      have context := markSeal_context l ((writeSlot (loadCell l) v s).withBuffer l (.held N (samples ++ [v]) q))
      have other := markSeal_of_ne l ((writeSlot (loadCell l) v s).withBuffer l (.held N (samples ++ [v]) q))
        (otherLifter_ne l)
      generalize markSeal l ((writeSlot (loadCell l) v s).withBuffer l (.held N (samples ++ [v]) q)) = z at *
      have computes : computationFor l z = some
          { lifter := l
            bank := ((z.context l).map LiftContext.bank).getD .twoWheel
            startedAt := s.bodyTimer
            calValid := (s.calib.cal.get l).valid
            items := (s.calib.cal.get l).items
            size := N
            samples := samples ++ [v]
            copies := q } := by
        simp only [computationFor, held, timer, calib]
      have done : Inserted s (ringNext (joinQueue l z)) l v (.held N (samples ++ [v]) q) := by
        refine ⟨?_, ?_⟩
        · rw [ringNext, withScan_scan, scan]
          rfl
        · change (joinQueue l z).lifters.get (otherLifter l) = _
          rw [lifters]
          exact other
      have own : (ringNext (joinQueue l z)).context l = z.context l := by
        change ((joinQueue l z).lifters.get l).context = _
        rw [lifters]
        rfl
      have buffers := congrArg Scan.buffers done.scan
      refine ⟨done.slot, fun x apart => done.slots apart, ?_, ?_, ?_, ?_, fun more => absurd last more, fun _ => ⟨?_, ?_, ?_,
        fun empty => ?_, fun empty c bank => ?_, fun some => ?_⟩, ?_, done.other, flow, packers⟩
      · rw [done.scan]
      · rw [done.scan]
      · rw [done.scan]
      · rw [done.scan]
      · rw [buffers]; exact PerLifter.get_set_self _ _ _
      · exact (joinQueue_queue l z).trans (by rw [weigh])
      · rw [own]; exact context
      · refine (congrArg (Option.map Computation.startedAt) ((joinQueue_starts (by rw [weigh]; exact empty)).trans computes) : _)
      · refine (joinQueue_starts (by rw [weigh]; exact empty)).trans (computes.trans ?_)
        have named : z.context l = Option.map _ (Option.some c) := context.trans (congrArg _ bank)
        rw [named]
        rfl
      · exact (joinQueue_waits (by rw [weigh]; exact some)).trans (by rw [weigh])
      · rw [buffers]; exact PerLifter.get_set_of_ne _ _ _ _ (otherLifter_ne l)
    · rw [addSample_more filling' last] at flow packers ⊢
      have done : Inserted s (ringNext ((writeSlot (loadCell l) v s).withBuffer l (.filling N (samples ++ [v])))) l v
          (.filling N (samples ++ [v])) := ⟨rfl, rfl⟩
      exact ⟨done.slot, fun x apart => done.slots apart, rfl, rfl, rfl, rfl,
        fun _ => ⟨PerLifter.get_set_self _ _ _, rfl, rfl⟩, fun is => absurd is last,
        PerLifter.get_set_of_ne _ _ _ _ (otherLifter_ne l), rfl, flow, packers⟩
  · rw [exec_inserted converter, completeInserted_valid low high, addSample_none (by exact idle)]
    rfl
  · rw [exec_inserted converter]
    rfl

end Sys2Proof.Safety
end

section
/-! PROOFS. The end of a ring conversion and of a channel's freshness (O47). -/

namespace Sys2Proof.Safety

open Sys2Proof.Machine

variable {s t u : State} {l m : Lifter} {st : Stream} {c : LiftContext} {v : Int} {r : Option Int} {ch other : Fin 12}

/-! ### A reading handed on leaves the scan unit and the weigh engine (R91) -/

theorem handReading_motion (ch : Fin 12) (v : Int) (s : State) : Only motionParts s (handReading ch v s) := by
  unfold handReading
  split
  · exact angleReading_only _ _ s
  · exact (packerConversion_only _ _ s).mono (by decide)
  · exact .refl _ s

theorem validResult_inRange
    (range : if ch.val < 2 then -524288 ≤ v ∧ v ≤ 524287 else 0 ≤ v ∧ v ≤ 4095) :
    validResult ch (some v) = some v := by
  have inside : inRawRange ch v = true := by
    unfold inRawRange
    split at range <;> next narrow => simp [narrow, range.1, range.2]
  simp only [validResult, Option.filter_some, inside, if_true]

/-- What a ring result leaves, a valid one and a missing one (R90, R91). -/
theorem takeRingResult_valid (valid : validResult ch r = some v) :
    (takeRingResult ch r s).scan = (writeSlot ch v s).scan ∧ Only (.scan :: motionParts) s (takeRingResult ch r s) := by
  simp only [takeRingResult, valid]
  have handed := handReading_motion ch v (writeSlot ch v s)
  exact ⟨handed.same .scan (by decide),
    (writeSlot_only ch v s).both handed (by decide) (fun _ h => List.mem_cons_of_mem _ h)⟩

theorem takeRingResult_missing (ch : Fin 12) (s : State) : takeRingResult ch none s = s := rfl

/-! ### One drift check (R122 to R124) -/

/-- A lifter's drift monitor after a check at a pass. -/
def driftAfter (l : Lifter) (pass : Nat) (s : State) : DriftMonitor :=
  match driftReading l s with
  | none => s.weigh.drift.get l
  | some v =>
    let m := driftValue v (s.calib.cal.get l).items.zeroOffset (s.calib.cal.get l).items.span
    if m.natAbs ≤ (s.calib.cal.get l).items.driftLimit then ⟨false, 0, some (m, pass)⟩
    else if (s.weigh.drift.get l).count < 49 then ⟨false, (s.weigh.drift.get l).count + 1, some (m, pass)⟩
    else ⟨true, 0, some (m, pass)⟩

theorem driftCheck_self (l : Lifter) (pass : Nat) (s : State) :
    (driftCheck l pass s).weigh.drift.get l = driftAfter l pass s
      ∧ ((driftAfter l pass s).disabled = true → (s.weigh.drift.get l).disabled = false →
          LatchedAll .zeroDrift (driftCheck l pass s)) := by
  unfold driftCheck driftAfter
  split
  · next quiet =>
    simp only [quiet, true_and]
    exact fun disabled before => absurd (before.symm.trans disabled) Bool.false_ne_true
  · next x reads =>
    simp only [reads]
    by_cases within : (driftValue x (s.calib.cal.get l).items.zeroOffset
      (s.calib.cal.get l).items.span).natAbs ≤ (s.calib.cal.get l).items.driftLimit
    · rw [if_pos within, if_neg (by omega)]
      exact ⟨PerLifter.get_set_self _ _ _, fun h => absurd h Bool.false_ne_true⟩
    · rw [if_neg within, if_pos (by omega)]
      by_cases more : (s.weigh.drift.get l).count < 49
      · have below : ¬ driftCount ≤ (s.weigh.drift.get l).count + 1 := by rw [driftCount]; omega
        rw [if_pos more, if_neg below]
        exact ⟨PerLifter.get_set_self _ _ _, fun h => absurd h Bool.false_ne_true⟩
      · have reached : driftCount ≤ (s.weigh.drift.get l).count + 1 := by rw [driftCount]; omega
        rw [if_neg more, if_pos reached]
        exact ⟨PerLifter.get_set_self _ _ _, fun _ _ => latchAll_latchedAll _ _⟩

/-- A drift check writes nothing, or its own lifter's monitor. -/
theorem driftCheck_writes (l : Lifter) (pass : Nat) (s : State) :
    (driftCheck l pass s).weigh = s.weigh ∨ ∃ d, (driftCheck l pass s).weigh = (s.withDrift l d).weigh := by
  unfold driftCheck
  split
  · exact .inl rfl
  · dsimp only
    split
    · split <;> exact .inr ⟨_, rfl⟩
    · exact .inr ⟨_, rfl⟩

theorem driftCheck_other (apart : m ≠ l) (pass : Nat) (s : State) :
    (driftCheck l pass s).weigh.drift.get m = s.weigh.drift.get m := by
  obtain same | ⟨d, written⟩ := driftCheck_writes l pass s
  · rw [same]
  · rw [written]
    exact PerLifter.get_set_of_ne _ _ _ _ apart

theorem driftCheck_weigh (l : Lifter) (pass : Nat) (s : State) :
    (driftCheck l pass s).weigh = { s.weigh with drift := (driftCheck l pass s).weigh.drift } := by
  obtain same | ⟨d, written⟩ := driftCheck_writes l pass s
  · rw [same]
  · rw [written]
    rfl

theorem driftAfter_congr (only : Only [.scan, .weigh, .ports] s t) (scan : t.scan.slots = s.scan.slots)
    (drift : t.weigh.drift.get l = s.weigh.drift.get l) (pass : Nat) : driftAfter l pass t = driftAfter l pass s := by
  have lifters : t.lifters = s.lifters := only.same .lifters (by decide)
  have calib : t.calib = s.calib := only.same .calib (by decide)
  have idle : t.lifterIdle l = s.lifterIdle l := by
    rw [State.lifterIdle, State.lifterIdle, State.context, State.context, State.lifter, State.lifter, lifters]
  have slot : t.slot (loadCell l) = s.slot (loadCell l) := by rw [State.slot, State.slot, scan]
  have reads : driftReading l t = driftReading l s := by
    unfold driftReading channelFresh channelValue
    rw [idle, slot, calib, drift]
  rw [driftAfter, driftAfter, reads, calib, drift]

/-! ### The end of a pass (R94) -/

/-- Both drift checks of a pass, LEFT first. -/
theorem bothChecks (pass : Nat) (s : State) :
    ((driftCheck .right pass (driftCheck .left pass s)).weigh.drift.get l = driftAfter l pass s)
      ∧ ((driftAfter l pass s).disabled = true → (s.weigh.drift.get l).disabled = false →
          LatchedAll .zeroDrift (driftCheck .right pass (driftCheck .left pass s))) := by
  have quiet : PortsQuiet (driftCheck .left pass s) (driftCheck .right pass (driftCheck .left pass s)) :=
    (Operates.refl.driftCheck .right pass).quiet
  have only : Only [.scan, .weigh, .ports] s (driftCheck .left pass s) := (driftCheck_only .left pass s).mono (by decide)
  have scan : (driftCheck .left pass s).scan = s.scan := (driftCheck_only .left pass s).same .scan (by decide)
  cases l with
  | left =>
    obtain ⟨own, event⟩ := driftCheck_self .left pass s
    exact ⟨(driftCheck_other (by decide) pass _).trans own,
      fun disabled before => (event disabled before).of_quiet quiet⟩
  | right =>
    have apart := driftCheck_other (m := .right) (l := .left) (by decide) pass s
    obtain ⟨own, event⟩ := driftCheck_self .right pass (driftCheck .left pass s)
    rw [driftAfter_congr only (congrArg Scan.slots scan) apart] at own event
    exact ⟨own, fun disabled before => event disabled (apart ▸ before)⟩

/-- The pass number after a conversion of the channel at the ring's position (R94). -/
def passAfter (s : State) : Nat :=
  if s.scan.ringPos = s.scan.ringEnd then (s.scan.pass + 1) % 65536 else s.scan.pass

theorem endPass_scan (s : State) : (endPass s).scan = { s.scan with pass := (s.scan.pass + 1) % 65536 } := by
  unfold endPass
  dsimp only
  split
  · exact ((driftCheck_only .right _ _).same .scan (by decide) : _).trans
      ((driftCheck_only .left _ _).same .scan (by decide))
  · rfl

theorem endPass_weigh (s : State) : (endPass s).weigh = { s.weigh with drift := (endPass s).weigh.drift } := by
  unfold endPass
  dsimp only
  split
  · rw [driftCheck_weigh .right, driftCheck_weigh .left]
    rfl
  · rfl

theorem endPass_drift (l : Lifter) (s : State) :
    (endPass s).weigh.drift.get l =
        (if (s.scan.pass + 1) % 65536 % 32 = 0 then driftAfter l ((s.scan.pass + 1) % 65536) s else s.weigh.drift.get l)
      ∧ (((endPass s).weigh.drift.get l).disabled = true → (s.weigh.drift.get l).disabled = false →
          LatchedAll .zeroDrift (endPass s)) := by
  let x := s.withScan { s.scan with pass := (s.scan.pass + 1) % 65536 }
  by_cases checked : (s.scan.pass + 1) % 65536 % 32 = 0
  · have passed : endPass s = driftCheck .right ((s.scan.pass + 1) % 65536)
        (driftCheck .left ((s.scan.pass + 1) % 65536) x) := if_pos checked
    obtain ⟨drift, event⟩ := bothChecks (l := l) ((s.scan.pass + 1) % 65536) x
    have before : driftAfter l ((s.scan.pass + 1) % 65536) x = driftAfter l ((s.scan.pass + 1) % 65536) s :=
      driftAfter_congr ((withScan_only s _).mono (by decide)) rfl rfl _
    rw [before] at drift event
    rw [passed, if_pos checked, drift]
    exact ⟨rfl, event⟩
  · have passed : endPass s = x := if_neg checked
    rw [passed, if_neg checked]
    exact ⟨rfl, fun disabled before => absurd (before.symm.trans disabled) Bool.false_ne_true⟩

/-! ### The whole conversion (R93, R94, R99) -/

/-- The converter's next task and the insertion pointer after it (R99). -/
theorem afterRing_scan (s : State) : (afterRing s).scan =
    { s.scan with
      converter := (insertionChoice s.scan).elim .ring .inserted
      pointer := (insertionChoice s.scan).elim s.scan.pointer otherLifter } := by
  unfold afterRing
  cases insertionChoice s.scan <;> rfl

theorem ringTail_scan (scan : u.scan.pass = s.scan.pass) : (ringTail s u).scan =
    { u.scan with
      pass := passAfter s
      ringPos := nextInRing s.scan s.scan.ringPos
      converter := (insertionChoice u.scan).elim .ring .inserted
      pointer := (insertionChoice u.scan).elim u.scan.pointer otherLifter } := by
  simp only [ringTail, afterRing_scan, passAfter, ← scan]
  split
  · simp only [withScan_scan, endPass_scan]
    rfl
  · rfl

theorem ringTail_weigh (s u : State) :
    (ringTail s u).weigh = (if s.scan.ringPos = s.scan.ringEnd then endPass u else u).weigh :=
  ((afterRing_only _).same .weigh (by decide) : _).trans (withScan_weigh _ _)

theorem ringTail_ports (s u : State) :
    (ringTail s u).ports = (if s.scan.ringPos = s.scan.ringEnd then endPass u else u).ports :=
  ((afterRing_only _).same .ports (by decide) : _).trans (withScan_ports _ _)

theorem ringTail_drift (scan : u.scan.pass = s.scan.pass) (l : Lifter) :
    (ringTail s u).weigh.drift.get l =
        (if s.scan.ringPos = s.scan.ringEnd ∧ passAfter s % 32 = 0 then driftAfter l (passAfter s) u
          else u.weigh.drift.get l)
      ∧ (((ringTail s u).weigh.drift.get l).disabled = true → (u.weigh.drift.get l).disabled = false →
          LatchedAll .zeroDrift (ringTail s u)) := by
  unfold LatchedAll
  simp only [State.port, ringTail_ports]
  rw [ringTail_weigh, passAfter]
  by_cases last : s.scan.ringPos = s.scan.ringEnd
  · simp only [last, true_and, ← scan]
    exact endPass_drift l u
  · simp only [last, false_and, if_false]
    exact ⟨trivial, fun disabled before => absurd (before.symm.trans disabled) Bool.false_ne_true⟩

/-- The converter after a conversion, from the buffers that fill (R99). -/
theorem insertion_eq (sc : Scan) :
    ((insertionChoice sc).elim Converter.ring .inserted, (insertionChoice sc).elim sc.pointer otherLifter) =
      (match isFilling sc.buffers.left, isFilling sc.buffers.right with
      | false, false => (.ring, sc.pointer)
      | true, false => (.inserted .left, .right)
      | false, true => (.inserted .right, .left)
      | true, true => (.inserted sc.pointer, otherLifter sc.pointer)) := by
  unfold insertionChoice
  cases isFilling sc.buffers.left <;> cases isFilling sc.buffers.right <;> rfl

/-- What a result of the ring leaves before the pass and the position move: slots, and what the reading reaches. -/
structure RingTaken (s u : State) : Prop where
  scan : u.scan = { s.scan with slots := u.scan.slots }
  only : Only (.scan :: motionParts) s u

theorem takeRingResult_taken (r : Option Int) : RingTaken s (takeRingResult ch r s) := by
  cases valid : validResult ch r with
  | none =>
    have none : takeRingResult ch r s = s := by simp only [takeRingResult, valid]
    rw [none]
    exact ⟨rfl, .refl _ s⟩
  | some v =>
    obtain ⟨scan, only⟩ := takeRingResult_valid (s := s) valid
    exact ⟨by rw [scan]; rfl, only⟩

/-- The drift monitors after a ring conversion (R122 to R124). -/
theorem ringTail_drifts (h : RingTaken s u) (l : Lifter) :
    (ringTail s u).weigh.drift.get l =
      if s.scan.ringPos = s.scan.ringEnd ∧ passAfter s % 32 = 0 ∧ (ringTail s u).context l = none
          ∧ (s.weigh.drift.get l).disabled = false ∧ (s.calib.cal.get l).valid = true
          ∧ ((ringTail s u).slot (loadCell l)).fresh = true then
        match ((ringTail s u).slot (loadCell l)).result with
        | none => s.weigh.drift.get l
        | some x =>
          let m := roundHalfAway ((x.value - (s.calib.cal.get l).items.zeroOffset)
            * (s.calib.cal.get l).items.span) 65536
          if m.natAbs ≤ (s.calib.cal.get l).items.driftLimit then ⟨false, 0, some (m, passAfter s)⟩
          else if (s.weigh.drift.get l).count < 49 then
            ⟨false, (s.weigh.drift.get l).count + 1, some (m, passAfter s)⟩
          else ⟨true, 0, some (m, passAfter s)⟩
      else s.weigh.drift.get l := by
  have pass : u.scan.pass = s.scan.pass := by rw [h.scan]
  have weigh : u.weigh = s.weigh := h.only.same .weigh (by decide)
  have calib : u.calib = s.calib := h.only.same .calib (by decide)
  have context : (ringTail s u).context l = u.context l := by
    rw [State.context, State.context, State.lifter, State.lifter,
      show (ringTail s u).lifters = u.lifters from (ringTail_only s u).same .lifters (by decide)]
  have slot : (ringTail s u).slot (loadCell l) = u.slot (loadCell l) := by
    rw [State.slot, State.slot, ringTail_scan pass]
  rw [(ringTail_drift pass l).1, context, slot, weigh]
  by_cases checked : s.scan.ringPos = s.scan.ringEnd ∧ passAfter s % 32 = 0
  · rw [if_pos checked, driftAfter, driftReading, weigh, calib, channelFresh, channelValue]
    by_cases ready : u.lifterIdle l = true ∧ ¬ (s.weigh.drift.get l).disabled = true ∧ (s.calib.cal.get l).valid = true
        ∧ (u.slot (loadCell l)).fresh = true
    · obtain ⟨idle, enabled, valid, fresh⟩ := ready
      rw [if_pos ⟨idle, enabled, valid, fresh⟩,
        if_pos ⟨checked.1, checked.2, lifterIdle_eq_true.mp idle, Bool.eq_false_iff.mpr enabled, valid, fresh⟩]
      cases (u.slot (loadCell l)).result <;> rfl
    · rw [if_neg ready, if_neg fun ⟨_, _, idle, enabled, valid, fresh⟩ =>
        ready ⟨lifterIdle_eq_true.mpr idle, Bool.eq_false_iff.mp enabled, valid, fresh⟩]
  · rw [if_neg checked, if_neg fun ⟨last, pass, _⟩ => checked ⟨last, pass⟩]

/-! ### A channel becomes stale (R95) -/

/-- The slot of a channel whose freshness has run out, SENSOR_STALE set. -/
def aged (ch : Fin 12) (s : State) : State :=
  latchAll .sensorStale (s.withSlot ch { s.slot ch with fresh := false, timer := none })

theorem expireChannel_fresh (fresh : (s.slot ch).fresh = true) : expireChannel ch s = handStale ch (aged ch s) :=
  if_pos fresh

theorem expireChannel_stale (stale : (s.slot ch).fresh = false) : expireChannel ch s = aged ch s :=
  if_neg (by rw [channelFresh, stale]; exact Bool.false_ne_true)

theorem aged_slot_self : channelFresh (aged ch s) ch = false := by
  rw [channelFresh]
  exact congrArg Slot.fresh (slot_withSlot_self ch _ s)

theorem aged_slot_of_ne (apart : other ≠ ch) : channelFresh (aged ch s) other = channelFresh s other := by
  rw [channelFresh, channelFresh]
  exact congrArg Slot.fresh (slot_withSlot_of_ne apart _ s)

theorem streamOfChannel_eq (reads : streamOfChannel ch = some st) :
    (ch = pressureChannel st ∨ ch = strokeChannel st) ∧ lifterOfChannel ch = none := by
  revert ch
  cases st <;> decide

theorem pressure_ne_stroke (st : Stream) : pressureChannel st ≠ strokeChannel st := by cases st <;> decide

/-- Which stale channel faults a packer whose channel has just become stale (R73). -/
theorem aged_staleCause (reads : streamOfChannel ch = some st) : staleCause st (aged ch s) =
    some (if ch = pressureChannel st ∨ channelFresh s (pressureChannel st) = false then .pressureStale
      else .strokeStale) := by
  obtain ⟨which, -⟩ := streamOfChannel_eq reads
  have stale : ∃ a, staleCause st (aged ch s) = some a := by
    refine staleCause_some_iff.mpr fun ⟨pressure, stroke⟩ => ?_
    obtain same | same := which
    · rw [← same, aged_slot_self] at pressure
      exact Bool.false_ne_true pressure
    · rw [← same, aged_slot_self] at stroke
      exact Bool.false_ne_true stroke
  obtain ⟨a, stale⟩ := stale
  rw [stale, staleCause_eq stale, staleReason]
  by_cases own : ch = pressureChannel st
  · have first : channelFresh (aged ch s) (pressureChannel st) = false := own ▸ aged_slot_self
    rw [first, if_pos (Or.inl own)]
    rfl
  · rw [aged_slot_of_ne (Ne.symm own)]
    cases channelFresh s (pressureChannel st) <;> simp [own]

theorem handStale_lifter (reads : lifterOfChannel ch = some l) (s : State) : handStale ch s = lifterStale l s := by
  rw [handStale, reads]

theorem handStale_packer (reads : streamOfChannel ch = some st) (s : State) : handStale ch s = packerStale st s := by
  rw [handStale, (streamOfChannel_eq reads).2, reads]

theorem handStale_nobody (lifter : lifterOfChannel ch = none) (stream : streamOfChannel ch = none) (s : State) :
    handStale ch s = s := by
  rw [handStale, lifter, stream]

/-- What the expiry does where nobody faults: the slot and the event. -/
theorem expireChannel_nobody (still : handStale ch (aged ch s) = aged ch s) : expireChannel ch s = aged ch s := by
  cases fresh : (s.slot ch).fresh with
  | true => rw [expireChannel_fresh fresh, still]
  | false => exact expireChannel_stale fresh

theorem lifterStale_still (calm : ∀ ph, s.phase l = some ph → isMotion ph = false) : lifterStale l s = s := by
  unfold lifterStale
  split
  · rfl
  · next ph phase => rw [calm ph phase]; rfl

theorem lifterStale_faults (context : s.context l = some c) (motion : isMotion c.phase = true) :
    lifterStale l s = faultLifter l .angleStale s := by
  have phase : s.phase l = some c.phase := by rw [State.phase, context]; rfl
  rw [lifterStale, phase]
  exact if_pos motion

theorem packerStale_still (calm : ∀ ph, (s.packer st).state ≠ .stroke ph) : packerStale st s = s := by
  unfold packerStale
  split
  · next ph _ state _ => exact absurd state (calm ph)
  · rfl

/-- Settles O47: the reading is handed on first and reaches neither the scan unit nor the weigh engine; the pass, its
drift checks and the next task follow; an aged channel faults the one that reads it. -/
theorem ringConversionWritten : Obligations.RingConversionWritten := by
  unfold Obligations.RingConversionWritten
  intro v r ch s
  refine ⟨fun busy pos range result => ?_, fun idle => congrArg Host.Outcome.next (if_neg idle), fun out => ?_,
    fun early => congrArg Host.Outcome.next
      (if_neg fun h => absurd (early.symm.trans ((expired_eq_due s _ 20).symm.trans h)) Bool.false_ne_true)⟩
  · have taken : RingTaken s (takeRingResult s.scan.ringPos r s) := takeRingResult_taken r
    have pass : (takeRingResult s.scan.ringPos r s).scan.pass = s.scan.pass := by rw [taken.scan]
    have weigh : (takeRingResult s.scan.ringPos r s).weigh = s.weigh := taken.only.same .weigh (by decide)
    have scan := ringTail_scan pass
    have tailWeigh : (ringTail s (takeRingResult s.scan.ringPos r s)).weigh.queue = s.weigh.queue
        ∧ (ringTail s (takeRingResult s.scan.ringPos r s)).weigh.computation = s.weigh.computation
        ∧ (ringTail s (takeRingResult s.scan.ringPos r s)).weigh.last = s.weigh.last := by
      rw [ringTail_weigh]
      split
      · rw [endPass_weigh, weigh]
        exact ⟨rfl, rfl, rfl⟩
      · rw [weigh]
        exact ⟨rfl, rfl, rfl⟩
    obtain ⟨queue, computation, last⟩ := tailWeigh
    have slots : ∀ x, (ringTail s (takeRingResult s.scan.ringPos r s)).slot x =
        (takeRingResult s.scan.ringPos r s).slot x := fun x => by
      rw [State.slot, State.slot, scan]
    have drifts := ringTail_drifts taken
    have after : (ringTail s (takeRingResult s.scan.ringPos r s)).scan.pass = passAfter s := by rw [scan]
    refine ⟨_, exec_ring busy r, (completeRing_ends r s).quiet, ?_, ?_, ?_, ?_, ?_, ?_, ?_, ?_, ?_, queue, computation,
      last, ?_, ?_⟩
    · rw [scan, pos]; rfl
    · rw [after, pos]; rfl
    · rintro rfl
      rw [scan, takeRingResult_missing]
    · rintro rfl
      rw [slots, ← pos, State.slot, (takeRingResult_valid (validResult_inRange range)).1]
      exact slot_withSlot_self ch _ s
    · intro x apart
      rw [slots]
      obtain rfl | rfl := result
      · rw [← pos, State.slot, (takeRingResult_valid (validResult_inRange range)).1]
        exact slot_withSlot_of_ne apart _ s
      · rw [takeRingResult_missing]
    · rw [scan, taken.scan]
    · rw [scan, taken.scan]
    · rw [scan, taken.scan]
    · have choice : insertionChoice (takeRingResult s.scan.ringPos r s).scan = insertionChoice s.scan := by
        rw [taken.scan]; rfl
      have pointer : (takeRingResult s.scan.ringPos r s).scan.pointer = s.scan.pointer := by rw [taken.scan]
      rw [scan, choice, pointer]
      exact insertion_eq s.scan
    · intro l
      rw [after, pos]
      exact drifts l
    · intro l disabled before
      exact (ringTail_drift pass l).2 disabled (by rw [weigh]; exact before)
  · have agedQuiet : PortsQuiet s (aged ch s) := by
      have slot : PortsQuiet s (s.withSlot ch { s.slot ch with fresh := false, timer := none }) :=
        ⟨fun _ => rfl, fun _ _ latched => latched⟩
      exact slot.trans (latchAll_quiet _ _)
    have only : Only flowParts (aged ch s) (expireChannel ch s) := by
      cases fresh : (s.slot ch).fresh with
      | true => rw [expireChannel_fresh fresh]; exact handStale_only ch _
      | false => rw [expireChannel_stale fresh]; exact .refl _ _
    have quiet : PortsQuiet (aged ch s) (expireChannel ch s) := by
      cases fresh : (s.slot ch).fresh with
      | true => rw [expireChannel_fresh fresh]; exact (Operates.refl.handStale ch).quiet
      | false => rw [expireChannel_stale fresh]; exact (Operates.refl).quiet
    have nobody : handStale ch (aged ch s) = aged ch s →
        (expireChannel ch s).withScan s.scan = s.withPorts (expireChannel ch s).ports := fun still => by
      rw [expireChannel_nobody still]
      rfl
    refine ⟨_, congrArg Host.Outcome.next (if_pos (by rw [expired_eq_due]; exact out)), agedQuiet.trans quiet,
      LatchedAll.of_quiet (latchAll_latchedAll _ _) quiet, only.same .scan (by decide), ?_, ?_, ?_, ?_, ?_, ?_, ?_⟩
    · exact fun lifter stream => nobody (handStale_nobody lifter stream _)
    · intro stale
      rw [expireChannel_stale stale]
      rfl
    · intro l c reads fresh context motion
      rw [expireChannel_fresh fresh, handStale_lifter reads, lifterStale_faults (by exact context) motion]
      exact (faultLifter_own (s := aged ch s) .angleStale context).after
        ⟨⟨rfl, rfl, rfl, rfl, rfl⟩, rfl, rfl, rfl⟩
    · exact fun l reads calm => nobody ((handStale_lifter reads _).trans (lifterStale_still calm))
    · intro st ph reads fresh state
      have faults : handStale ch (aged ch s) = faultPacker st
          (if ch = pressureChannel st ∨ channelFresh s (pressureChannel st) = false then .pressureStale
            else .strokeStale) ph (aged ch s) := by
        rw [handStale_packer reads, packerStale, aged_staleCause reads]
        rw [show ((aged ch s).packer st).state = .stroke ph from state]
      rw [expireChannel_fresh fresh, faults]
      have own := faultPacker_own (s := aged ch s) (st := st)
        (if ch = pressureChannel st ∨ channelFresh s (pressureChannel st) = false then .pressureStale
            else .strokeStale) ph
      exact ⟨own.packer, own.flow, own.event⟩
    · exact fun st reads calm => nobody ((handStale_packer reads _).trans (packerStale_still calm))
    · exact sameBooks_of_only ((expireChannel_only ch s).mono (by decide))

end Sys2Proof.Safety
end

section
/-! PROOFS. The pressure and stroke readings of a packer (O26). -/

namespace Sys2Proof.Safety

open Sys2Proof.Machine

variable {s t u : State} {l : Lifter} {st : Stream} {x : Consumer} {q r v : Int} {ch : Fin 12} {e : Event}

/-! ### Events that an operation does not set -/

/-- The event e stands in every port as before. -/
def Spares (e : Event) (s t : State) : Prop := ∀ y, (t.port y).latched.holds e = (s.port y).latched.holds e

theorem Spares.refl : Spares e s s := fun _ => rfl

theorem Spares.trans (h : Spares e s t) (k : Spares e t u) : Spares e s u := fun y => (k y).trans (h y)

theorem Spares.of_ports (ports : t.ports = s.ports) : Spares e s t := fun y => by rw [State.port, State.port, ports]

theorem eventSet_apart {other : Event} (apart : e ≠ other) : (eventSet other).holds e = false := by
  revert apart
  cases e <;> cases other <;> decide

theorem latchAll_spares {other : Event} (apart : e ≠ other) (s : State) : Spares e s (latchAll other s) := fun y => by
  have free : (eventSet other).getLsbD (eventBit e) = false := eventSet_apart apart
  rw [latchAll_port, latch_latched]
  simp [EventSet.holds, free]

theorem latchWhen_spares {other : Event} (apart : e ≠ other) (b : Bool) (s : State) :
    Spares e s (latchWhen b other s) := by
  unfold latchWhen
  split
  · exact latchAll_spares apart s
  · exact .refl

theorem grantOne_ports (x : Consumer) (s : State) : (grantOne x s).ports = s.ports := by
  cases x with
  | packer st => rfl
  | lifter l =>
    simp only [grantOne, handGrant, grantLifter]
    split
    · rfl
    · split <;> rfl

theorem grantLoop_ports (n : Nat) (s : State) : (grantLoop n s).ports = s.ports := by
  induction n generalizing s with
  | zero => rfl
  | succ n ih =>
    rw [grantLoop]
    split
    · rfl
    · split
      · rw [ih, grantOne_ports]
      · rfl

/-- Flow sets HIGH_IDLE_CHANGE alone (R62). -/
theorem evaluateGrants_spares (apart : e ≠ .highIdleChange) (s : State) : Spares e s (evaluateGrants s) := by
  have tested : ∀ y, Spares e y (testLine y) := fun y => by
    unfold testLine
    split
    · exact .refl
    · exact latchAll_spares apart _
  unfold evaluateGrants
  split
  · exact Spares.trans (.of_ports (grantLoop_ports _ s)) (tested _)
  · exact tested s

theorem placeRequest_spares (apart : e ≠ .highIdleChange) (x : Consumer) (d : Nat) (s : State) :
    Spares e s (placeRequest x d s) := by
  unfold placeRequest
  split
  · exact evaluateGrants_spares apart _
  · exact .refl

theorem releaseGrant_spares (apart : e ≠ .highIdleChange) (x : Consumer) (s : State) :
    Spares e s (releaseGrant x s) := by
  unfold releaseGrant
  split
  · exact evaluateGrants_spares apart _
  · exact .refl

theorem withdrawRequest_spares (apart : e ≠ .highIdleChange) (x : Consumer) (s : State) :
    Spares e s (withdrawRequest x s) := by
  unfold withdrawRequest
  split
  · exact evaluateGrants_spares apart _
  · exact .refl

theorem giveBackFlow_spares (apart : e ≠ .highIdleChange) (x : Consumer) (s : State) :
    Spares e s (giveBackFlow x s) :=
  (releaseGrant_spares apart x s).trans (withdrawRequest_spares apart x _)

theorem faultPacker_spares (line : e ≠ .highIdleChange) (fault : e ≠ .packFault) (a : PackFaultCause) (ph : StrokePhase)
    (s : State) : Spares e s (faultPacker st a ph s) := by
  unfold faultPacker
  refine Spares.trans ?_ (latchAll_spares fault _)
  exact giveBackFlow_spares line (.packer st) (s.withPacker st _)

theorem enterStroke_spares (line : e ≠ .highIdleChange) (fault : e ≠ .packFault) (ph : StrokePhase) (s : State) :
    Spares e s (enterStroke st ph s) := by
  unfold enterStroke
  split
  · exact faultPacker_spares line fault _ ph s
  · exact placeRequest_spares line _ _ (s.withPacker st _)

theorem packerToIdle_spares (line : e ≠ .highIdleChange) (fault : e ≠ .packFault) (s : State) :
    Spares e s (packerToIdle st s) := by
  rw [packerToIdle_eq, tryStart]
  split
  · exact enterStroke_spares (s := (s.withPacker st _).withPacker st _) line fault .extending
  · exact .refl

theorem endRetract_spares (line : e ≠ .highIdleChange) (fault : e ≠ .packFault) (s : State) :
    Spares e s (endRetract st s) := by
  have released : Spares e s (releaseGrant (.packer st) (s.withPacker st (stopPacker (s.packer st)))) :=
    releaseGrant_spares line _ (s.withPacker st _)
  unfold endRetract
  dsimp only
  split
  · exact released.trans (packerToIdle_spares line fault _)
  · split
    · exact released
    · split
      · exact released.trans (packerToIdle_spares line fault _)
      · exact released.trans (enterStroke_spares (s := State.withPacker _ st _) line fault .extending)
    · exact released.trans (packerToIdle_spares line fault _)

theorem driftCheck_spares (apart : e ≠ .zeroDrift) (l : Lifter) (pass : Nat) (s : State) :
    Spares e s (driftCheck l pass s) := by
  unfold driftCheck
  split
  · exact .refl
  · dsimp only
    split
    · split
      · exact latchAll_spares apart (s.withDrift l _)
      · exact .refl
    · exact .refl

theorem endPass_spares (apart : e ≠ .zeroDrift) (s : State) : Spares e s (endPass s) := by
  let pass := (s.scan.pass + 1) % 65536
  let x := s.withScan { s.scan with pass := pass }
  by_cases checked : pass % driftPasses = 0
  · have passed : endPass s = driftCheck .right pass (driftCheck .left pass x) := if_pos checked
    rw [passed]
    exact Spares.trans (s := x) (driftCheck_spares apart .left pass x) (driftCheck_spares apart .right pass _)
  · have passed : endPass s = x := if_neg checked
    rw [passed]
    exact Spares.of_ports rfl

/-- A pass that ends sets ZERO_DRIFT alone (R124). -/
theorem ringTail_spares (apart : e ≠ .zeroDrift) (s u : State) : Spares e u (ringTail s u) := by
  refine Spares.trans (t := if s.scan.ringPos = s.scan.ringEnd then endPass u else u) ?_ (.of_ports (ringTail_ports s u))
  split
  · exact endPass_spares apart u
  · exact .refl

/-! ### The end of an extend (R70, R71, R81, R82) -/

/-- The short-stroke count after the judgment of an extend (R81). -/
def countJudged (st : Stream) (q v : Int) (s : State) : Nat :=
  if (s.packer st).settings.pressureLimit ≤ q
      ∧ (v - (s.packer st).settings.retracted) * 10
        < (((s.packer st).settings.fullStroke : Int) - (s.packer st).settings.retracted) * 9 then
    (if (s.packer st).shortStrokes < 255 then (s.packer st).shortStrokes + 1 else (s.packer st).shortStrokes)
  else 0

/-- What the judgment of an extend leaves (R81, R82). -/
structure Judged (s t : State) (st : Stream) (count : Nat) (fill : FillState) : Prop where
  packer : t.packer st = { s.packer st with shortStrokes := count }
  compartment : t.compartment st = { s.compartment st with fill := fill }
  only : Only [.packers, .compartments, .ports] s t
  near : fill = .nearFull → (s.compartment st).fill ≠ .nearFull → LatchedAll .nearFull t
  full : fill = .full → (s.compartment st).fill ≠ .full → LatchedAll .full t
  nearOnly : ∀ y, (t.port y).latched.holds .nearFull = true →
    (s.port y).latched.holds .nearFull = true ∨ fill = .nearFull ∧ (s.compartment st).fill ≠ .nearFull
  fullOnly : ∀ y, (t.port y).latched.holds .full = true →
    (s.port y).latched.holds .full = true ∨ fill = .full ∧ (s.compartment st).fill ≠ .full

theorem latchWhen_only_if {b : Bool} (y : Port) (holds : ((latchWhen b e s).port y).latched.holds e = true) :
    (s.port y).latched.holds e = true ∨ b = true := by
  cases b with
  | true => exact .inr rfl
  | false => exact .inl holds

/-- Two events set one after the other under conditions of their own. -/
theorem nearThenFull_only_if {a b : Bool} (y : Port) :
    (((latchWhen a .full (latchWhen b .nearFull s)).port y).latched.holds .nearFull = true →
        (s.port y).latched.holds .nearFull = true ∨ b = true)
      ∧ (((latchWhen a .full (latchWhen b .nearFull s)).port y).latched.holds .full = true →
        (s.port y).latched.holds .full = true ∨ a = true) := by
  refine ⟨fun holds => ?_, fun holds => ?_⟩
  · rw [latchWhen_spares (by decide) a _ y] at holds
    exact latchWhen_only_if y holds
  · rw [← latchWhen_spares (e := .full) (other := .nearFull) (by decide) b s y]
    exact latchWhen_only_if y holds

theorem fillAfter_eq (fill : FillState) {short : Bool} {count : Nat} (counted : short = decide (0 < count)) :
    fillAfter fill short count = filledTo fill (decide (0 < count)) count := by
  subst counted
  unfold fillAfter filledTo
  cases fill <;> rcases count with _ | _ | n <;> simp
  by_cases full : 2 ≤ n
  · rw [if_pos full, if_neg (by omega)]
  · rw [if_neg full, if_pos (by omega)]

/-- The short stroke and the count of a judgment (R81). -/
theorem counted_eq (st : Stream) (q v : Int) (s : State) :
    (if shortStroke (s.packer st).settings q v then saturatingSucc top8 (s.packer st).shortStrokes else 0) =
        countJudged st q v s
      ∧ shortStroke (s.packer st).settings q v = decide (0 < countJudged st q v s) := by
  by_cases judged : ((s.packer st).settings.pressureLimit : Int) ≤ q
      ∧ (v - (s.packer st).settings.retracted) * 10
        < (((s.packer st).settings.fullStroke : Int) - (s.packer st).settings.retracted) * 9
  · have short : shortStroke (s.packer st).settings q v = true := by
      simp only [shortStroke, judged, decide_true, Bool.and_self]
    have more : 0 < if (s.packer st).shortStrokes < 255 then (s.packer st).shortStrokes + 1
        else (s.packer st).shortStrokes := by split <;> omega
    rw [short, if_pos rfl, countJudged, if_pos judged]
    exact ⟨rfl, (decide_eq_true more).symm⟩
  · have long : shortStroke (s.packer st).settings q v = false := by
      rw [shortStroke, ← Bool.decide_and]
      exact decide_eq_false judged
    rw [long, countJudged, if_neg judged]
    exact ⟨rfl, rfl⟩

/-- The judgment's writes and its two events (R82). -/
def judgedTo (st : Stream) (count : Nat) (fill : FillState) (s : State) : State :=
  latchWhen (decide (fill = .full) && decide ((s.compartment st).fill ≠ .full)) .full
    (latchWhen (decide (fill = .nearFull) && decide ((s.compartment st).fill ≠ .nearFull)) .nearFull
      ((s.withPacker st { s.packer st with shortStrokes := count }).withCompartment st
        { s.compartment st with fill := fill }))

theorem latchWhen_latched (e : Event) (s : State) {b : Bool} (sets : b = true) : LatchedAll e (latchWhen b e s) := by
  subst sets
  exact latchAll_latchedAll e s

theorem judgedTo_judged (st : Stream) (count : Nat) (fill : FillState) (s : State) :
    Judged s (judgedTo st count fill s) st count fill := by
  have only : Only [.packers, .compartments, .ports] s (judgedTo st count fill s) :=
    (((withPacker_only s st _).both (withCompartment_only _ st _) (c := [.packers, .compartments, .ports]) (by decide)
      (by decide)).both (latchWhen_only _ _ _) (fun _ h => h) (by decide)).both (latchWhen_only _ _ _) (fun _ h => h)
      (by decide)
  have ports : Only [.ports] ((s.withPacker st { s.packer st with shortStrokes := count }).withCompartment st
      { s.compartment st with fill := fill }) (judgedTo st count fill s) :=
    (latchWhen_only _ _ _).step (latchWhen_only _ _ _)
  refine ⟨?_, ?_, only, fun now before => ?_, fun now before => ?_, fun y holds => ?_, fun y holds => ?_⟩
  · rw [State.packer, ports.same .packers (by decide)]
    exact packer_withPacker_self s st _
  · rw [State.compartment, ports.same .compartments (by decide)]
    exact compartment_withCompartment_self (s.withPacker st _) st _
  · exact (latchWhen_latched .nearFull _ (by simp [now, before])).of_quiet (latchWhen_quiet _ _ _)
  · exact latchWhen_latched .full _ (by simp [now, before])
  · exact ((nearThenFull_only_if y).1 holds).imp_right fun sets => by simpa using sets
  · exact ((nearThenFull_only_if y).2 holds).imp_right fun sets => by simpa using sets

theorem judgeExtend_judged (pressure : channelValue s (pressureChannel st) = some q)
    (stroke : channelValue s (strokeChannel st) = some v) :
    Judged s (judgeExtend st s) st (countJudged st q v s)
      (filledTo (s.compartment st).fill (decide (0 < countJudged st q v s)) (countJudged st q v s)) := by
  obtain ⟨count, short⟩ := counted_eq st q v s
  have judged : judgeExtend st s = judgedTo st (countJudged st q v s)
      (filledTo (s.compartment st).fill (decide (0 < countJudged st q v s)) (countJudged st q v s)) s := by
    simp only [judgeExtend, pressure, stroke, Option.getD_some, count, fillAfter_eq _ short]
    rfl
  rw [judged]
  exact judgedTo_judged st _ _ s

/-! ### A conversion, by the packer's state (R70, R72) -/

/-- Both channels of a packer FRESH, with their values. -/
structure StrokeReadings (s : State) (st : Stream) (q v : Int) : Prop where
  fresh : PackFresh s st
  pressure : channelValue s (pressureChannel st) = some q
  stroke : channelValue s (strokeChannel st) = some v

theorem extendEnds_iff (h : StrokeReadings s st q v) : extendEnds st s = true ↔
    (s.packer st).settings.pressureLimit ≤ q ∨ (s.packer st).settings.fullStroke ≤ v := by
  simp [extendEnds, slotAtLeast, h.pressure, h.stroke]

theorem packerConversion_ungranted (waits : isGranted (s.flow.records.get (.packer st)) = false) :
    packerConversion st ch s = s := if_neg (by rw [waits]; exact Bool.false_ne_true)

theorem packerConversion_goesOn (h : StrokeReadings s st q v) (state : (s.packer st).state = .stroke .extending)
    (low : q < (s.packer st).settings.pressureLimit) (short : v < (s.packer st).settings.fullStroke) :
    packerConversion st ch s = s := by
  have goes : ¬ extendEnds st s = true := by
    rw [extendEnds_iff h]
    omega
  unfold packerConversion
  rw [state]
  dsimp only
  rw [if_neg goes, ite_self]

theorem packerConversion_extended (h : StrokeReadings s st q v)
    (granted : isGranted (s.flow.records.get (.packer st)) = true) (state : (s.packer st).state = .stroke .extending)
    (ends : (s.packer st).settings.pressureLimit ≤ q ∨ (s.packer st).settings.fullStroke ≤ v) :
    packerConversion st ch s = (judgeExtend st s).withPacker st
      { s.packer st with state := .stroke .dwell, timer := some s.bodyTimer, shortStrokes := countJudged st q v s } := by
  have only := (judgeExtend_judged h.pressure h.stroke).only
  have live : staleCause st (judgeExtend st s) = none :=
    Option.eq_none_iff_forall_ne_some.mpr fun a stale =>
      staleCause_some_iff.mp ⟨a, stale⟩ ((PackFresh.congr (only.same .scan (by decide))).mpr h.fresh)
  unfold packerConversion
  rw [if_pos granted, state]
  dsimp only
  rw [if_pos ((extendEnds_iff h).mpr ends), enterDwellPacker, live]
  dsimp only
  rw [show (judgeExtend st s).bodyTimer = s.bodyTimer from only.same .bodyTimer (by decide),
    (judgeExtend_judged h.pressure h.stroke).packer]

theorem packerConversion_still (h : StrokeReadings s st q v)
    (still : (s.packer st).state = .stroke .dwell ∨ (s.packer st).state = .stroke .retracting
      ∧ (ch ≠ strokeChannel st ∨ (s.packer st).settings.retracted < v)) : packerConversion st ch s = s := by
  unfold packerConversion
  obtain state | ⟨state, away⟩ := still
  · rw [state]
    exact ite_self _
  · rw [state]
    dsimp only
    have short : ¬ (ch = strokeChannel st ∧ slotAtMost s ch (s.packer st).settings.retracted = true) := by
      rintro ⟨rfl, reached⟩
      simp only [slotAtMost, h.stroke, decide_eq_true_eq] at reached
      exact away.elim (fun other => other rfl) fun above => by omega
    rw [if_neg short, ite_self]

theorem packerConversion_other (state : ∀ ph, (s.packer st).state ≠ .stroke ph) : packerConversion st ch s = s := by
  unfold packerConversion
  split
  · split
    · next is => exact absurd is (state _)
    · next is => exact absurd is (state _)
    · rfl
  · rfl

theorem packerConversion_retracted (h : StrokeReadings s st q v)
    (granted : isGranted (s.flow.records.get (.packer st)) = true) (state : (s.packer st).state = .stroke .retracting) (within : v ≤ (s.packer st).settings.retracted) :
    packerConversion st (strokeChannel st) s = endRetract st s := by
  have reached : slotAtMost s (strokeChannel st) (s.packer st).settings.retracted = true := by
    simp only [slotAtMost, h.stroke, decide_eq_true_eq, within]
  unfold packerConversion
  rw [if_pos granted, state]
  dsimp only
  rw [if_pos ⟨rfl, reached⟩]

/-! ### The end of a retract (R72) -/

/-- A packer whose retract has ended, before what follows is chosen. -/
def retractStopped (st : Stream) (s : State) : State :=
  giveBackFlow (.packer st) (s.withPacker st (stopPacker (s.packer st)))

theorem retractStopped_packer (st : Stream) (s : State) :
    (retractStopped st s).packer st = stopPacker (s.packer st) :=
  (giveBackFlow_packer_self st _).trans (packer_withPacker_self s st _)

theorem retractStopped_record (st : Stream) (s : State) :
    (retractStopped st s).flow.records.get (.packer st) = .none := giveBackFlow_record _ _

theorem retractStopped_others (st : Stream) (s : State) : PackOthersKept s (retractStopped st s) st :=
  (withPacker_others _).trans (giveBackFlow_packOthers _ _ st)

theorem retractStopped_books (st : Stream) (s : State) : SameBooks s (retractStopped st s) :=
  (withPacker_books _).trans (giveBackFlow_books _ _)

theorem retractStopped_only (st : Stream) (s : State) : Only flowParts s (retractStopped st s) :=
  (withPacker_only s st _).both (giveBackFlow_only _ _) (by decide) (fun _ h => h)

theorem endRetract_eq (granted : isGranted (s.flow.records.get (.packer st)) = true) : endRetract st s =
    if (s.packer st).stopRequested then packerToIdle st (retractStopped st s)
    else
      match (s.packer st).mode with
      | .step => (retractStopped st s).withPacker st { stopPacker (s.packer st) with state := .paused .retracted }
      | .continuous =>
        if (s.compartment st).fill = .full then packerToIdle st (retractStopped st s)
        else startCycle st (retractStopped st s)
      | .single => packerToIdle st (retractStopped st s) := by
  have released : releaseGrant (.packer st) (s.withPacker st (stopPacker (s.packer st))) = retractStopped st s :=
    releaseGrant_granted (by exact granted)
  have compartment : (retractStopped st s).compartment st = s.compartment st :=
    congrArg (PerStream.get · st) ((retractStopped_only st s).same .compartments (by decide) : _)
  unfold endRetract
  dsimp only
  rw [released, retractStopped_packer, compartment]
  rfl

/-- A STEP packer pauses; a CONTINUOUS one goes on while its compartment has room; the others go back to IDLE. -/
theorem endRetract_pauses (granted : isGranted (s.flow.records.get (.packer st)) = true)
    (goes : (s.packer st).stopRequested = false) (mode : (s.packer st).mode = .step) : endRetract st s =
      (retractStopped st s).withPacker st { stopPacker (s.packer st) with state := .paused .retracted } := by
  rw [endRetract_eq granted, goes, mode]
  rfl

theorem endRetract_again (granted : isGranted (s.flow.records.get (.packer st)) = true)
    (goes : (s.packer st).stopRequested = false) (mode : (s.packer st).mode = .continuous)
    (room : (s.compartment st).fill ≠ .full) : endRetract st s = startCycle st (retractStopped st s) := by
  rw [endRetract_eq granted, goes, mode]
  exact if_neg room

theorem endRetract_idles (granted : isGranted (s.flow.records.get (.packer st)) = true)
    (ends : (s.packer st).stopRequested = true ∨ (s.packer st).mode = .single
      ∨ (s.packer st).mode = .continuous ∧ (s.compartment st).fill = .full) :
    endRetract st s = packerToIdle st (retractStopped st s) := by
  rw [endRetract_eq granted]
  cases stop : (s.packer st).stopRequested with
  | true => rfl
  | false =>
    obtain set | single | ⟨continuous, full⟩ := ends
    · exact absurd (stop.symm.trans set) Bool.false_ne_true
    · rw [single]
      rfl
    · rw [continuous]
      exact if_pos full

/-- A cycle begun from a state u that has kept what a stroke's entry sees of s. -/
theorem startCycle_own (fresh : PackFresh s st) (goes : (u.packer st).stopRequested = false)
    (pending : (u.packer st).pending = (s.packer st).pending) (others : PackOthersKept s u st) (books : SameBooks s u)
    (own : plainPacker (u.packer st) = plainPacker (s.packer st)) (free : u.flow.records.get (.packer st) = .none) :
    StrokeOwn s (startCycle st u) st .extending ((s.packer st).pending - 1) false := by
  have entered := (startCycle_entered free).after others books own
  rw [goes, pending] at entered
  exact entered.runs fresh

/-- The next cycle begun right after the retract, and from IDLE (R69, R72). -/
theorem startCycle_afterRetract (fresh : PackFresh s st) (goes : (s.packer st).stopRequested = false) :
    StrokeOwn s (startCycle st (retractStopped st s)) st .extending ((s.packer st).pending - 1) false := by
  have packer := retractStopped_packer st s
  exact startCycle_own fresh (by rw [packer]; exact goes) (by rw [packer]; rfl) (retractStopped_others st s)
    (retractStopped_books st s) (by rw [packer]; rfl) (retractStopped_record st s)

theorem startCycle_fromIdle (fresh : PackFresh s st) :
    StrokeOwn s (startCycle st ((retractStopped st s).withPacker st (idled ((retractStopped st s).packer st)))) st
      .extending ((s.packer st).pending - 1) false := by
  have packer : ((retractStopped st s).withPacker st (idled ((retractStopped st s).packer st))).packer st =
      idled (stopPacker (s.packer st)) := by rw [packer_withPacker_self, retractStopped_packer]
  exact startCycle_own fresh (by rw [packer]; rfl) (by rw [packer]; rfl)
    ((retractStopped_others st s).trans (withPacker_others _)) ((retractStopped_books st s).trans (withPacker_books _))
    (by rw [packer]; rfl) (retractStopped_record st s)

/-! ### The conversion as a whole (R70, R72, R93) -/

theorem channelValue_withSlot_self (y : Slot) : channelValue (s.withSlot ch y) ch = y.result.map SlotResult.value := by
  rw [channelValue, slot_withSlot_self]

theorem channelValue_withSlot_of_ne {other : Fin 12} (apart : other ≠ ch) (y : Slot) :
    channelValue (s.withSlot ch y) other = channelValue s other := by
  rw [channelValue, channelValue, slot_withSlot_of_ne apart]

theorem channelFresh_withSlot_of_ne {other : Fin 12} (apart : other ≠ ch) (y : Slot) :
    channelFresh (s.withSlot ch y) other = channelFresh s other := by
  rw [channelFresh, channelFresh, slot_withSlot_of_ne apart]

/-- The readings of a packer right after one of them is written, the other standing FRESH. -/
theorem writeSlot_readings (inside : inRing s.scan ch = true)
    (which : ch = strokeChannel st ∧ r = v ∧ channelFresh s (pressureChannel st) = true
        ∧ channelValue s (pressureChannel st) = some q
      ∨ ch = pressureChannel st ∧ r = q ∧ channelFresh s (strokeChannel st) = true
        ∧ channelValue s (strokeChannel st) = some v) : StrokeReadings (writeSlot ch r s) st q v := by
  obtain ⟨rfl, rfl, fresh, value⟩ | ⟨rfl, rfl, fresh, value⟩ := which
  · have apart := pressure_ne_stroke st
    exact ⟨⟨(channelFresh_withSlot_of_ne apart _).trans fresh, writeSlot_fresh inside r⟩,
      (channelValue_withSlot_of_ne apart _).trans value, channelValue_withSlot_self _⟩
  · have apart := (pressure_ne_stroke st).symm
    exact ⟨⟨writeSlot_fresh inside r, (channelFresh_withSlot_of_ne apart _).trans fresh⟩,
      channelValue_withSlot_self _, (channelValue_withSlot_of_ne apart _).trans value⟩

theorem takeRingResult_packer (which : ch = strokeChannel st ∨ ch = pressureChannel st) (low : 0 ≤ r) (high : r ≤ 4095)
    (s : State) : takeRingResult ch (some r) s = packerConversion st ch (writeSlot ch r s) := by
  have wide : ¬ ch.val < 2 := by
    obtain rfl | rfl := which <;> cases st <;> decide
  have valid : validResult ch (some r) = some r := validResult_inRange (by rw [if_neg wide]; exact ⟨low, high⟩)
  have reads : lifterOfChannel ch = none ∧ streamOfChannel ch = some st := by
    obtain rfl | rfl := which <;> cases st <;> decide
  simp only [takeRingResult, valid, handReading, reads]

/-- What follows a packer's reading keeps the packers, the compartments and the flow. -/
structure Settled (s t : State) : Prop where
  packers : t.packers = s.packers
  compartments : t.compartments = s.compartments
  flow : t.flow = s.flow

theorem ringTail_settled (s u : State) : Settled u (ringTail s u) :=
  ⟨(ringTail_only s u).same .packers (by decide), (ringTail_only s u).same .compartments (by decide),
    (ringTail_only s u).same .flow (by decide)⟩

theorem writeSlot_settled (ch : Fin 12) (v : Int) (s : State) : Settled s (writeSlot ch v s) := ⟨rfl, rfl, rfl⟩

theorem Settled.trans (h : Settled s t) (k : Settled t u) : Settled s u :=
  ⟨k.packers.trans h.packers, k.compartments.trans h.compartments, k.flow.trans h.flow⟩

theorem Settled.packer (h : Settled s t) (st : Stream) : t.packer st = s.packer st := by
  rw [State.packer, State.packer, h.packers]

theorem Settled.compartment (h : Settled s t) (st : Stream) : t.compartment st = s.compartment st := by
  rw [State.compartment, State.compartment, h.compartments]

theorem StrokeOwn.settled {ph : StrokePhase} {pending : Nat} {stop : Bool} (h : StrokeOwn s t st ph pending stop)
    (k : Settled t u) : StrokeOwn s u st ph pending stop := by
  have packer := k.packer st
  obtain ⟨state, count, stopping, request, extend, retract, timer, fault, kept⟩ := h
  constructor <;> simp only [packer, k.flow, Asked]
  all_goals assumption

theorem StrokeOwn.ofWritten {ph : StrokePhase} {pending : Nat} {stop : Bool}
    (h : StrokeOwn (writeSlot ch r s) t st ph pending stop) : StrokeOwn s t st ph pending stop :=
  ⟨h.state, h.count, h.stopping, h.request, h.extend, h.retract, h.timer, h.fault, h.kept⟩

theorem ringTail_ports_of_ne (inner : s.scan.ringPos ≠ s.scan.ringEnd) (u : State) :
    (ringTail s u).ports = u.ports := by
  rw [ringTail_ports, if_neg inner]

/-- The conversion of a packer's reading keeps what lies outside of strokes, events and the scan unit. -/
theorem packerReading_ground (st : Stream) (ch : Fin 12) (r : Int) (s : State) :
    SameGround s (ringTail s (packerConversion st ch (writeSlot ch r s))) := by
  have read : Only [.scan, .weigh, .flow, .lifters, .packers, .ports, .compartments] s
      (packerConversion st ch (writeSlot ch r s)) :=
    (writeSlot_only ch r s).both (packerConversion_only st ch _) (by decide) (by decide)
  have whole : Only [.scan, .weigh, .flow, .lifters, .packers, .ports, .compartments] s
      (ringTail s (packerConversion st ch (writeSlot ch r s))) :=
    read.both (ringTail_only s _) (fun _ h => h) (by decide)
  exact sameGround_of_only whole (by decide)

/-- What a conversion of a packer does: nothing, the end of an extend, or the end of a retract. -/
theorem packerConversion_cases (h : StrokeReadings s st q v) :
    packerConversion st ch s = s ∨ packerConversion st ch s = (judgeExtend st s).withPacker st
        { s.packer st with state := .stroke .dwell, timer := some s.bodyTimer, shortStrokes := countJudged st q v s }
      ∨ packerConversion st ch s = endRetract st s := by
  cases granted : isGranted (s.flow.records.get (.packer st)) with
  | false => exact .inl (packerConversion_ungranted granted)
  | true =>
    by_cases strokes : ∃ ph, (s.packer st).state = .stroke ph
    · obtain ⟨ph, state⟩ := strokes
      cases ph with
      | extending =>
        by_cases ends : ((s.packer st).settings.pressureLimit : Int) ≤ q ∨ ((s.packer st).settings.fullStroke : Int) ≤ v
        · exact .inr (.inl (packerConversion_extended h granted state ends))
        · exact .inl (packerConversion_goesOn h state (by omega) (by omega))
      | dwell => exact .inl (packerConversion_still h (.inl state))
      | retracting =>
        by_cases reached : ch = strokeChannel st ∧ v ≤ (s.packer st).settings.retracted
        · obtain ⟨rfl, within⟩ := reached
          exact .inr (.inr (packerConversion_retracted h granted state within))
        · refine .inl (packerConversion_still h (.inr ⟨state, ?_⟩))
          by_cases own : ch = strokeChannel st
          · exact .inr (Int.not_le.mp fun within => reached ⟨own, within⟩)
          · exact .inl own
    · exact .inl (packerConversion_other fun ph state => strokes ⟨ph, state⟩)

/-- The two events of the fill judgment at a conversion: set by the judgment alone (R82). -/
theorem packerConversion_events (h : StrokeReadings s st q v) (y : Port) :
    (((packerConversion st ch s).port y).latched.holds .nearFull = true → (s.port y).latched.holds .nearFull = true
        ∨ ((packerConversion st ch s).compartment st).fill = .nearFull ∧ (s.compartment st).fill ≠ .nearFull)
      ∧ (((packerConversion st ch s).port y).latched.holds .full = true → (s.port y).latched.holds .full = true
        ∨ ((packerConversion st ch s).compartment st).fill = .full ∧ (s.compartment st).fill ≠ .full) := by
  obtain same | extended | retracted := packerConversion_cases (ch := ch) h
  · rw [same]
    exact ⟨.inl, .inl⟩
  · have judged := judgeExtend_judged h.pressure h.stroke
    have fill : ((packerConversion st ch s).compartment st).fill =
        filledTo (s.compartment st).fill (decide (0 < countJudged st q v s)) (countJudged st q v s) := by
      rw [extended]
      exact congrArg Compartment.fill judged.compartment
    rw [fill, extended]
    exact ⟨judged.nearOnly y, judged.fullOnly y⟩
  · rw [retracted, endRetract_spares (e := .nearFull) (by decide) (by decide) s y,
      endRetract_spares (e := .full) (by decide) (by decide) s y]
    exact ⟨.inl, .inl⟩

/-- Settles O26: a conversion of one of the two channels is a written slot, the packer's own step, and the tail of the
ring's conversion, which reaches no packer. -/
theorem packerReadingsEndStrokes : Obligations.PackerReadingsEndStrokes := by
  unfold Obligations.PackerReadingsEndStrokes
  intro st ch v q r u s busy pos inside low high which
  have read : StrokeReadings (writeSlot ch r s) st q v := writeSlot_readings inside which
  have channel : ch = strokeChannel st ∨ ch = pressureChannel st := which.imp And.left And.left
  have run : exec (.ringConversionComplete (some r)) s =
      .next (ringTail s (packerConversion st ch (writeSlot ch r s))) := by
    rw [exec_ring busy, pos, takeRingResult_packer channel low high]
  have quiet : PortsQuiet s (ringTail s (packerConversion st ch (writeSlot ch r s))) := by
    have ended := (completeRing_ends (some r) s).quiet
    rwa [completeRing_eq, pos, takeRingResult_packer channel low high] at ended
  have tail := ringTail_settled s (packerConversion st ch (writeSlot ch r s))
  have still : packerConversion st ch (writeSlot ch r s) = writeSlot ch r s →
      (ringTail s (packerConversion st ch (writeSlot ch r s))).packers = s.packers
        ∧ (ringTail s (packerConversion st ch (writeSlot ch r s))).compartments = s.compartments
        ∧ (ringTail s (packerConversion st ch (writeSlot ch r s))).flow = s.flow := fun same => by
    rw [same] at tail ⊢
    exact ⟨tail.packers, tail.compartments, tail.flow⟩
  refine ⟨fun record => ?_, fun ungranted => ?_⟩
  · have granted : isGranted ((writeSlot ch r s).flow.records.get (.packer st)) = true := by
      rw [show (writeSlot ch r s).flow = s.flow from rfl, record]
      rfl
    refine ⟨_, run, quiet, packerReading_ground st ch r s, fun state below short => ?_, fun state ends => ?_,
      fun y => ?_, fun y => ?_, fun calm => ?_, ?_, ?_, ?_, ?_⟩
    · exact still (packerConversion_goesOn read state below short)
    · have judged := judgeExtend_judged read.pressure read.stroke
      have packer := tail.packer st
      have compartment := tail.compartment st
      have flow := tail.flow
      have ringed := ringTail_quiet s (packerConversion st ch (writeSlot ch r s))
      rw [packerConversion_extended read granted state ends] at packer compartment flow ringed ⊢
      rw [packer_withPacker_self] at packer
      have filled := compartment.trans judged.compartment
      refine ⟨packer, flow.trans (judged.only.same .flow (by decide)), ?_, fun now before => ?_, fun now before => ?_⟩
      · rw [filled, packer]
        rfl
      · rw [filled] at now
        exact LatchedAll.of_quiet (by exact judged.near now before) ringed
      · rw [filled] at now
        exact LatchedAll.of_quiet (by exact judged.full now before) ringed
    · rw [tail.compartment, ringTail_spares (by decide) s _ y]
      exact (packerConversion_events read y).1
    · rw [tail.compartment, ringTail_spares (by decide) s _ y]
      exact (packerConversion_events read y).2
    · exact still (packerConversion_still read calm)
    · rintro rfl state within goes mode
      rw [tail.packer, tail.flow, packerConversion_retracted read granted state within,
        endRetract_pauses granted goes mode]
      exact ⟨packer_withPacker_self _ st _, retractStopped_record st _⟩
    · rintro rfl state within goes mode room
      refine StrokeOwn.settled ?_ tail
      rw [packerConversion_retracted read granted state within, endRetract_again granted goes mode room]
      exact (startCycle_afterRetract (s := writeSlot (strokeChannel st) r s) read.fresh goes).ofWritten
    · rintro rfl state within ends waits
      rw [tail.packer, tail.flow, packerConversion_retracted read granted state within, endRetract_idles granted ends,
        packerToIdle_stays]
      · exact ⟨(packer_withPacker_self _ st _).trans (by rw [retractStopped_packer]; rfl), retractStopped_record st _⟩
      · rw [retractStopped_packer, (retractStopped_books st _).body]
        exact waits
    · rintro rfl state within ends pending mode running closed
      refine StrokeOwn.settled ?_ tail
      rw [packerConversion_retracted read granted state within, endRetract_idles granted ends, packerToIdle_starts]
      · exact (startCycle_fromIdle (s := writeSlot (strokeChannel st) r s) read.fresh).ofWritten
      · rw [retractStopped_packer]
        exact pending
      · rw [retractStopped_packer]
        exact mode
      · rw [(retractStopped_books st _).body]
        exact running
      · rw [(retractStopped_books st _).body]
        exact closed
  · have same : packerConversion st ch (writeSlot ch r s) = writeSlot ch r s := packerConversion_ungranted ungranted
    obtain ⟨packers, compartments, flow⟩ := still same
    refine ⟨_, run, quiet, packerReading_ground st ch r s, packers, compartments, flow, fun y e other => ?_,
      fun inner => ?_⟩
    · rw [ringTail_spares other s _ y, same]
      rfl
    · rw [ringTail_ports_of_ne (pos ▸ inner), same]
      rfl

end Sys2Proof.Safety
end

section
/-! SUPPORT. The lifts in flight ended one after the other by a body reset (R30): `LiftsCut`, and one more of them
(`LiftsCut.more`). -/

namespace Sys2Proof.Safety

open Sys2Proof.Machine

variable {s t u : State} {l m : Lifter} {st : Stream} {c k : LiftContext} {r : Record} {recs : List Record}
  {ls : List Lifter} {found : Option (Nat × AccountEntry)} {how : Ending}

/-! ### The account of a context, seen across a write-back (R156, R157) -/

theorem backTable_find (c : LiftContext) (used : Nat) (table : List (Stored AccountEntry)) (k : LiftContext) :
    (((backTable c used table).map Stored.content).find? fun e => decide (k.tag = some e.tag)).map AccountEntry.account =
      ((table.map Stored.content).find? fun e => decide (k.tag = some e.tag)).map AccountEntry.account := by
  induction table with
  | nil => rfl
  | cons w rest ih =>
    rw [backTable, List.map_cons, ← backTable, List.map_cons, List.map_cons, List.find?_cons, List.find?_cons]
    by_cases own : c.account.isSome = true ∧ c.tag = some w.content.tag
    · rw [if_pos own]
      by_cases same : k.tag = some w.content.tag
      · simp [same, backEntry]
      · simpa [same, backEntry] using ih
    · rw [if_neg own]
      by_cases same : k.tag = some w.content.tag
      · simp [same]
      · simpa [same] using ih

theorem accountMoved_backTable {used : Nat} (table : t.tags.table = backTable c used s.tags.table) (k : LiftContext) :
    accountMoved t k = accountMoved s k := by
  have entry : (entryAtEnd t k).map AccountEntry.account = (entryAtEnd s k).map AccountEntry.account := by
    unfold entryAtEnd
    split
    · rw [table, backTable_find]
    · rfl
  unfold accountMoved
  rw [entry]

theorem backTable_clean {used : Nat} {table : List (Stored AccountEntry)} (clean : ∀ w ∈ table, w.health = .clean) :
    ∀ w ∈ backTable c used table, w.health = .clean := by
  intro w hw
  obtain ⟨x, hx, rfl⟩ := List.mem_map.mp hw
  split
  · rfl
  · exact clean x hx

/-! ### Sequence numbers (R174) -/

theorem seqAfter_zero {n : Nat} (low : 1 ≤ n) (high : n ≤ 4294967295) : seqAfter n 0 = n := by
  unfold seqAfter
  omega

theorem nextSeq_seqAfter (n k : Nat) : (if seqAfter n k = 4294967295 then 1 else seqAfter n k + 1) = seqAfter n (k + 1) := by
  unfold seqAfter
  split <;> omega

/-! ### A record, the lift of which ended after others had ended -/

/-- The record of an unbilled lift looks at the calibration, the banks, the load numbers, the body and the account's
number alone. -/
theorem RecordOf.carried (h : RecordOf u l c r) (other : r.status ≠ .billed) (calib : u.calib = s.calib)
    (banks : u.banks = s.banks) (load : (u.compartment c.stream).loadNumber = (s.compartment c.stream).loadNumber)
    (fresh : u.body.fresh = s.body.fresh) (clock : u.body.clockSeconds = s.body.clockSeconds)
    (vehicle : u.body.vehicle = s.body.vehicle) (moved : accountMoved u c = accountMoved s c) :
    RecordOf (s.withJournal { s.journal with nextSequence := r.sequence }) l c r := by
  have net : netIn u l c = netIn s l c := by simp only [netIn, calib]
  have flags : flagsAtEnd u l c = flagsAtEnd s l c := by simp only [flagsAtEnd, moved, net, calib, fresh]
  obtain ⟨-, who, loaded, account, ⟨gross, tare, outcome, weighed⟩, mass, billed, unbilled, sealed, times, odometer⟩ := h
  refine ⟨rfl, who, loaded.trans load, account, ⟨gross, tare, outcome, weighed.trans net⟩, ?_, fun is => absurd is other,
    fun is => ?_, sealed, ⟨times.1, times.2.trans clock⟩, odometer.trans (congrArg _ vehicle)⟩
  · rw [mass, net, banks]
    rfl
  · exact ⟨(unbilled is).1, (unbilled is).2.trans flags⟩

/-! ### One lift ended -/

/-- The compartments after a payload has grown, the limit-reached flags apart. -/
theorem raisePayload_compartment (st : Stream) (mass : Nat) (s : State) (su : Stream) (b : Bool) :
    { (raisePayload st mass s).compartment su with limitReached := b } =
      { s.compartment su with
        payload := (s.compartment su).payload + if st = su then mass else 0, limitReached := b } := by
  rw [raisePayload, evaluateLimits_compartment]
  by_cases own : st = su
  · subst own
    rw [compartment_withCompartment_self, if_pos rfl]
  · rw [compartment_withCompartment_of_ne _ _ _ _ (Ne.symm own), if_neg own]
    rfl

/-- What the end of a lift reaches where the completion lookup changes nothing. -/
abbrev cutParts : List Field := [.lifters, .body, .compartments, .scan, .weigh, .tags, .journal, .ports]

theorem LookedUp.endLift_only (looked : LookedUp s c found) (how : Ending) (context : s.context l = some c) :
    Only cutParts s (endLift how l s) := by
  rw [looked.endLift_eq how context]
  have stored : Only cutParts s (writeRecord (endRecord how l c s) s) := (writeRecord_only _ s).mono (by decide)
  have back := stored.both (writeBack_only c.dumped (usedOf (endRecord how l c s)) found _) (c := cutParts)
    (fun _ h => h) (by decide)
  have raised := back.both (raisePayload_only c.stream (endRecord how l c s).dumpedMass _) (c := cutParts)
    (fun _ h => h) (by decide)
  exact raised.both (endContext_only l _) (fun _ h => h) (by decide)

theorem LookedUp.endLift_compartment (looked : LookedUp s c found) (how : Ending) (context : s.context l = some c)
    (su : Stream) (b : Bool) : { (endLift how l s).compartment su with limitReached := b } =
      { s.compartment su with
        payload := (s.compartment su).payload + if c.stream = su then (endRecord how l c s).dumpedMass else 0
        limitReached := b } := by
  have before : (writeBack c.dumped (usedOf (endRecord how l c s)) found
      (writeRecord (endRecord how l c s) s)).compartment su = s.compartment su :=
    congrArg (fun y => PerStream.get y su) ((writeBack_only _ _ _ _).same .compartments (by decide) :
      (writeBack c.dumped (usedOf (endRecord how l c s)) found (writeRecord (endRecord how l c s) s)).compartments = _)
  rw [looked.endLift_eq how context, ← before]
  exact raisePayload_compartment _ _ _ su b

theorem LookedUp.endLift_limits (looked : LookedUp s c found) (how : Ending) (context : s.context l = some c) :
    LimitLaw (endLift how l s) := by
  rw [looked.endLift_eq how context]
  exact LimitLaw.of_only (c := [.lifters, .body]) (evaluateLimits_limits _) (endContext_only l _) (by decide) (by decide)

theorem LookedUp.endLift_body (looked : LookedUp s c found) (how : Ending) (context : s.context l = some c) :
    (endLift how l s).body = { s.body with
      inhibitLine := (endLift how l s).body.inhibitLine, inhibitReasons := (endLift how l s).body.inhibitReasons } := by
  have raised : (raisePayload c.stream (endRecord how l c s).dumpedMass
      (writeBack c.dumped (usedOf (endRecord how l c s)) found (writeRecord (endRecord how l c s) s))).body = s.body :=
    (((raisePayload_only _ _ _).same .body (by decide) : _).trans ((writeBack_only _ _ _ _).same .body (by decide))).trans
      ((writeRecord_only _ _).same .body (by decide))
  rw [looked.endLift_eq how context, ← raised]
  rfl

theorem LookedUp.endLift_tags (looked : LookedUp s c found) (how : Ending) (context : s.context l = some c) :
    (endLift how l s).tags = { s.tags with table := (endLift how l s).tags.table } := by
  have tags := Safety.endLift_tags how context
  rw [looked.lookup] at tags
  rw [tags]
  unfold writeBack
  split <;> rfl

/-- A lifter whose valves are off and whose window is withdrawn, before its lift ends (R30 steps 1 and 2). -/
def lifterStopped (l : Lifter) (s : State) : State := withdrawWindow l (s.withValves l false false)

theorem resetLift_some (context : s.context l = some c) : resetLift l s = endLift .bodyReset l (lifterStopped l s) := by
  rw [resetLift, context]
  rfl

theorem resetLift_none (context : s.context l = none) : resetLift l s = s := by
  rw [resetLift, context]

theorem lifterStopped_only (l : Lifter) (s : State) : Only [.lifters, .scan, .weigh] s (lifterStopped l s) :=
  (withValves_only s l _ _).both (withdrawWindow_only l _) (by decide) (by decide)

theorem lifterStopped_lifter (l m : Lifter) (s : State) : (lifterStopped l s).lifter m =
    if m = l then { s.lifter l with raiseValve := false, lowerValve := false } else s.lifter m := by
  have lifters : (lifterStopped l s).lifters = (s.withValves l false false).lifters :=
    (withdrawWindow_only l _).same .lifters (by decide)
  rw [State.lifter, lifters, ← State.lifter]
  split
  · next own => subst own; exact lifter_withLifter_self s m _
  · next other => exact lifter_withLifter_of_ne s l m _ other

/-! ### The lifts ended so far -/

/-- The table after the write-backs of the lifts of some lifters (R157). -/
def tableAfter (s : State) (ls : List Lifter) : List (Stored AccountEntry) :=
  ls.foldl (fun x l => match s.context l with
    | some c => backTable c 0 x
    | none => x) s.tags.table

/-- The records of the lifters ls, whose lifts in s have been ended one after the other up to t (R30). -/
structure LiftsCut (s t : State) (ls : List Lifter) (recs : List Record) : Prop where
  slots : t.journal.slots = s.journal.slots ++ recs.map fun r => ⟨⟨r, .clean⟩, false⟩
  who : recs.map Record.lifter = ls.filter fun l => (s.context l).isSome
  numbers : recs.map Record.sequence = (List.range recs.length).map (seqAfter s.journal.nextSequence)
  next : t.journal.nextSequence = seqAfter s.journal.nextSequence recs.length
  place : t.journal.writePos = if recs = [] then s.journal.writePos else (s.journal.writePos + recs.length) % 1024
  freed : ∀ l, t.journal.reservations.get l = (decide (l ∉ ls) && s.journal.reservations.get l)
  records : ∀ r ∈ recs, r.status = .abortedReset ∧ ∀ c, s.context r.lifter = some c →
    RecordOf (s.withJournal { s.journal with nextSequence := r.sequence }) r.lifter c r
      ∧ r.abortPhase = some (abortPhaseOf c)
  tags : t.tags = { s.tags with table := tableAfter s ls }
  compartment : ∀ st b, { t.compartment st with limitReached := b } = { s.compartment st with
    payload := (s.compartment st).payload + ((recs.filter fun r => r.stream = st).map Record.dumpedMass).sum
    limitReached := b }
  untouched : recs = [] → t.compartments = s.compartments
  limits : recs ≠ [] → LimitLaw t
  body : t.body = { s.body with inhibitLine := t.body.inhibitLine, inhibitReasons := t.body.inhibitReasons }
  lifter : ∀ l, { t.lifter l with raiseValve := false, lowerValve := false } = { s.lifter l with
    context := if l ∈ ls then none else s.context l, raiseValve := false, lowerValve := false }
  scan : t.scan = { s.scan with buffers := t.scan.buffers }
  weigh : t.weigh = { s.weigh with queue := t.weigh.queue, computation := t.weigh.computation }
  only : Only cutParts s t
  account : ∀ c, accountMoved t c = accountMoved s c
  law : TableLaw t
  clean : CleanTable t

theorem LiftsCut.start (law : TableLaw s) (clean : CleanTable s) (sequences : SequenceLaw s) (ports : Only [.ports] s t) :
    LiftsCut s t [] [] := by
  have journal : t.journal = s.journal := ports.same .journal (by decide)
  have tags : t.tags = s.tags := ports.same .tags (by decide)
  have compartments : t.compartments = s.compartments := ports.same .compartments (by decide)
  have body : t.body = s.body := ports.same .body (by decide)
  have lifters : t.lifters = s.lifters := ports.same .lifters (by decide)
  have scan : t.scan = s.scan := ports.same .scan (by decide)
  have weigh : t.weigh = s.weigh := ports.same .weigh (by decide)
  refine ⟨?_, rfl, rfl, ?_, ?_, fun l => ?_, ?_, ?_, fun st b => ?_, fun _ => compartments, ?_, by rw [body],
    fun l => ?_, by rw [scan], by rw [weigh], ports.mono (by decide), fun c => ?_, ?_, ?_⟩
  · rw [journal]; simp
  · rw [journal]; exact (seqAfter_zero sequences.next.1 sequences.next.2).symm
  · rw [journal]; rfl
  · rw [journal]; simp
  · simp
  · rw [tags]; rfl
  · rw [State.compartment, compartments]; rfl
  · simp
  · rw [State.lifter, lifters]; rfl
  · rw [accountMoved, accountMoved, entryAtEnd, entryAtEnd, tags]
  · exact law.of_kept (.of_tags tags)
  · intro w; rw [tags]; exact clean w

theorem LiftsCut.context (h : LiftsCut s t ls recs) (left : l ∉ ls) : t.context l = s.context l := by
  have unit := congrArg LifterUnit.context (h.lifter l)
  rw [if_neg left] at unit
  exact unit

/-- One more lifter, in whose turn no lift is in flight. -/
theorem LiftsCut.skip (h : LiftsCut s t ls recs) (left : l ∉ ls) (reserved : ReservationLaw s)
    (idle : s.context l = none) : LiftsCut s t (ls ++ [l]) recs := by
  have free : s.journal.reservations.get l = false :=
    Bool.eq_false_iff.mpr fun held => (reserved.held l).mp held idle
  refine { h with who := ?_, freed := fun m => ?_, tags := ?_, lifter := fun m => ?_ }
  · rw [h.who, List.filter_append]
    simp [idle]
  · rw [h.freed]
    by_cases own : m = l
    · subst own; simp [free]
    · simp [own]
  · rw [h.tags, tableAfter, tableAfter, List.foldl_append]
    simp [idle]
  · rw [h.lifter]
    by_cases own : m = l
    · subst own; simp [left, idle]
    · simp [own]

theorem lifterStopped_scan (l : Lifter) (s : State) :
    (lifterStopped l s).scan = { s.scan with buffers := s.scan.buffers.set l .empty } := withdrawWindow_scan l _

theorem lifterStopped_weigh (l : Lifter) (s : State) : (lifterStopped l s).weigh =
    { s.weigh with
      queue := (lifterStopped l s).weigh.queue, computation := (lifterStopped l s).weigh.computation } := by
  have drift : (lifterStopped l s).weigh.drift = s.weigh.drift := (withdrawWindow_keeps l (s.withValves l false false)).1
  have last : (lifterStopped l s).weigh.last = s.weigh.last := (withdrawWindow_keeps l (s.withValves l false false)).2
  change (lifterStopped l s).weigh = ⟨_, _, s.weigh.drift, s.weigh.last⟩
  rw [← drift, ← last]

/-- The record of a lift that a body reset ends (R30, R164). -/
theorem endRecord_bodyReset (l : Lifter) (c : LiftContext) (s : State) :
    (endRecord .bodyReset l c s).status = .abortedReset
      ∧ (endRecord .bodyReset l c s).abortPhase = some (abortPhaseOf c) := ⟨rfl, rfl⟩

theorem usedIn_unbilled (h : RecordOf s l c r) (other : r.status ≠ .billed) : usedIn r = 0 := by
  rw [usedIn, (h.unbilled other).1]
  rfl

/-- One more lift ended. -/
theorem LiftsCut.more (h : LiftsCut s t ls recs) (left : l ∉ ls) (context : s.context l = some c) :
    LiftsCut s (resetLift l t) (ls ++ [l]) (recs ++ [endRecord .bodyReset l c (lifterStopped l t)]) := by
  have here : t.context l = some c := (h.context left).trans context
  have stopped := lifterStopped_only l t
  have journal : (lifterStopped l t).journal = t.journal := stopped.same .journal (by decide)
  have tags : (lifterStopped l t).tags = t.tags := stopped.same .tags (by decide)
  have compartments : (lifterStopped l t).compartments = t.compartments := stopped.same .compartments (by decide)
  have body : (lifterStopped l t).body = t.body := stopped.same .body (by decide)
  have law : TableLaw (lifterStopped l t) := h.law.of_kept (.of_tags tags)
  have clean : CleanTable (lifterStopped l t) := fun w hw => h.clean w (by rw [← tags]; exact hw)
  have unit := lifterStopped_lifter l l t
  rw [if_pos rfl] at unit
  have running : (lifterStopped l t).context l = some c := by rw [State.context, unit]; exact here
  obtain ⟨found, looked⟩ := completionLookup_ordered law clean c
  have recordOf := endRecord_recordOf law clean .bodyReset l c
  have ended := endLift_ended law clean .bodyReset running (by rw [unit]) (by rw [unit])
  obtain ⟨status, abort⟩ := endRecord_bodyReset l c (lifterStopped l t)
  have compartment := looked.endLift_compartment .bodyReset running
  have limits := looked.endLift_limits .bodyReset running
  have bodied := looked.endLift_body .bodyReset running
  have tagged := looked.endLift_tags .bodyReset running
  have only := looked.endLift_only .bodyReset running
  rw [resetLift_some here]
  generalize endRecord .bodyReset l c (lifterStopped l t) = r at *
  have unbilled : r.status ≠ .billed := by rw [status]; decide
  have table : (endLift .bodyReset l (lifterStopped l t)).tags.table = backTable c 0 t.tags.table := by
    rw [ended.table, usedIn_unbilled recordOf unbilled, tags]
  have number : r.sequence = seqAfter s.journal.nextSequence recs.length := by
    rw [recordOf.sequence, journal, h.next]
  have load : ((lifterStopped l t).compartment c.stream).loadNumber = (s.compartment c.stream).loadNumber := by
    have same := congrArg Compartment.loadNumber (h.compartment c.stream false)
    rw [State.compartment, compartments]
    exact same
  have bodied' := body.trans h.body
  have carried : RecordOf (s.withJournal { s.journal with nextSequence := r.sequence }) l c r := by
    refine recordOf.carried unbilled ((stopped.same .calib (by decide) : _).trans (h.only.same .calib (by decide)))
      ((stopped.same .banks (by decide) : _).trans (h.only.same .banks (by decide))) load ?_ ?_ ?_ ?_
    · rw [bodied']
    · rw [bodied']
    · rw [bodied']
    · rw [← h.account, accountMoved, accountMoved, entryAtEnd, entryAtEnd, tags]
  have who : r.lifter = l := recordOf.who.1
  refine ⟨?_, ?_, ?_, ?_, ?_, fun m => ?_, fun x hx => ?_, ?_, fun st b => ?_, fun none => absurd none (by simp),
    fun _ => limits, ?_, fun m => ?_, ?_, ?_, ?_, fun k => ?_, ?_, ?_⟩
  · rw [ended.stored, journal, h.slots]
    simp
  · rw [List.map_append, List.filter_append, h.who]
    simp [who, context]
  · rw [List.map_append, List.length_append, h.numbers]
    simp [number, List.range_succ]
  · rw [ended.next, journal, h.next, nextSeq_seqAfter]
    simp
  · rw [ended.place, journal, h.place]
    cases recs with
    | nil => simp
    | cons x xs => simp; omega
  · rw [ended.freed, journal]
    by_cases own : m = l
    · subst own; simp
    · rw [PerLifter.get_set_of_ne _ _ _ _ own, h.freed]
      simp [own]
  · obtain old | own := List.mem_append.mp hx
    · exact h.records x old
    · rw [List.mem_singleton.mp own, who]
      refine ⟨status, fun k same => ?_⟩
      rw [context, Option.some.injEq] at same
      subst same
      exact ⟨carried, abort⟩
  · rw [tagged, table, tags, h.tags, tableAfter, tableAfter, List.foldl_append]
    simp [context]
  · have grown := compartment st b
    rw [show (lifterStopped l t).compartment st = t.compartment st by rw [State.compartment, compartments]; rfl] at grown
    have sums : (((recs ++ [r]).filter fun y => decide (y.stream = st)).map Record.dumpedMass).sum =
        ((recs.filter fun y => decide (y.stream = st)).map Record.dumpedMass).sum
          + if c.stream = st then r.dumpedMass else 0 := by
      rw [List.filter_append, List.map_append, List.sum_append, ← recordOf.who.2.2]
      by_cases own : r.stream = st <;> simp [own]
    rw [grown, sums, ← Nat.add_assoc]
    exact congrArg (fun y : Compartment => { y with payload := y.payload + if c.stream = st then r.dumpedMass else 0 })
      (h.compartment st b)
  · rw [bodied, bodied']
  · rw [endLift_lifter]
    by_cases own : m = l
    · subst own
      rw [if_pos rfl, unit, if_pos (List.mem_append_right _ (List.mem_singleton_self m))]
      exact congrArg (fun y : LifterUnit => { y with context := none }) (h.lifter m)
    · have apart : m ∈ ls ++ [l] ↔ m ∈ ls := by simp [own]
      rw [if_neg own, lifterStopped_lifter, if_neg own, h.lifter]
      simp only [apart]
  · rw [show (endLift .bodyReset l (lifterStopped l t)).scan = (lifterStopped l t).scan from
      (Machine.endLift_only _ _ _).same .scan (by decide), lifterStopped_scan, h.scan]
  · rw [show (endLift .bodyReset l (lifterStopped l t)).weigh = (lifterStopped l t).weigh from
      (Machine.endLift_only _ _ _).same .weigh (by decide), lifterStopped_weigh, h.weigh]
  · exact h.only.step ((stopped.mono (by decide)).step only)
  · rw [accountMoved_backTable (c := c) (used := 0) (s := t) table, h.account]
  · exact law.of_kept (endLift_kept _ _ _)
  · intro w hw
    rw [table] at hw
    exact backTable_clean h.clean w hw

theorem LiftsCut.lift (h : LiftsCut s t ls recs) (left : l ∉ ls) (reserved : ReservationLaw s) :
    ∃ more, LiftsCut s (resetLift l t) (ls ++ [l]) more := by
  cases context : s.context l with
  | none => exact ⟨recs, by rw [resetLift_none ((h.context left).trans context)]; exact h.skip left reserved context⟩
  | some c => exact ⟨_, h.more left context⟩

end Sys2Proof.Safety
end

section
/-! PROOFS. The body reset (O28). -/

namespace Sys2Proof.Safety

open Sys2Proof.Machine

variable {s t u v : State} {l : Lifter} {st : Stream} {p q : Port} {n : Byte} {recs : List Record}

/-! ### The blocks' body-reset states (R49, R65, R88, R106, R127, R160) -/

theorem resetLifters_lifter (l : Lifter) (s : State) :
    (resetLifters s).lifter l = { s.lifter l with raiseValve := false, lowerValve := false } := by
  cases l <;> rfl

theorem resetBlocks_body (idle : ∀ l, v.context l = none) : (resetBlocks v).body =
    { resetBody v.body with
      inhibitLine := !v.body.tailgate.reading, inhibitReasons := ⟨false, false, !v.body.tailgate.reading⟩ } := by
  have off (l : Lifter) : (resetLifters v).lifterIdle l = true :=
    lifterIdle_eq_true.mpr (by rw [State.context, resetLifters_lifter]; exact idle l)
  have body : (resetBlocks v).body =
      { resetBody v.body with
        inhibitLine := InhibitReasons.any
          ⟨!(resetLifters v).lifterIdle .left, !(resetLifters v).lifterIdle .right, !v.body.tailgate.reading⟩
        inhibitReasons :=
          ⟨!(resetLifters v).lifterIdle .left, !(resetLifters v).lifterIdle .right, !v.body.tailgate.reading⟩ } := rfl
  rw [body, off .left, off .right]
  rfl

theorem resetPacker_eq (k : Packer) : resetPacker k =
    { k with
      state := .idle, pending := 0, stopRequested := false, extendValve := false, retractValve := false
      timer := none } := rfl

theorem resetBlocks_packer (st : Stream) (v : State) : (resetBlocks v).packer st = resetPacker (v.packer st) := by
  cases st <;> rfl

theorem resetScan_slot (sc : Scan) (now : Nat) (ch : Fin 12) : (resetScan sc now).slots.get ch =
    ⟨none, false, if inRing sc ch then some now else none⟩ := by
  simp [resetScan, beginScanning, restartSlots, Vector.get_eq_getElem, emptySlot, inRing]

theorem eventSet_getLsbD (e : Event) (n : Nat) : (eventSet e).getLsbD n = decide (n = eventBit e) := by
  have small : eventBit e < 26 := by cases e <;> decide
  rw [eventSet, BitVec.getLsbD_ofNat, Nat.testBit_two_pow]
  by_cases same : n = eventBit e
  · subst same; simp [small]
  · simp [same, Ne.symm same]

theorem attentionOf_eventSet (e : Event) (m : EventSet) : attentionOf (eventSet e) m = !m.holds e := by
  rw [Bool.eq_iff_iff, attentionOf_eq_true]
  simp [eventSet_getLsbD, EventSet.holds]

/-- A port whose latches are cleared, BODY_RESET latched (R208). -/
theorem resetPort_eq (x : PortState) : resetPort x =
    { x with latched := eventSet .bodyReset, attention := !x.mask.holds .bodyReset } := by
  have latched : (0 : EventSet) ||| eventSet .bodyReset = eventSet .bodyReset := BitVec.zero_or
  have attention := attentionOf_eventSet .bodyReset x.mask
  simp only [resetPort, PortState.latch, PortState.setLatched, PortState.evaluate, latched, attention]

theorem resetPorts_get (x : PerPort PortState) (q : Port) : (resetPorts x).get q = resetPort (x.get q) := by
  cases q <;> rfl

/-! ### The request -/

/-- A taken request in terms of its effect, exactly (R197). -/
theorem exec_answered {k : Kind} {i : Instr} {d : List Byte} {owner : State → Decision} (accepts : Accepts k p d s)
    (serves : exec i s = .next (serve k p n d owner s)) (decides : owner (takeRequest p n k.code s) = taken u)
    (waiting : (u.port p).service = .waiting n k.code) : exec i s = .next
      (u.withPort p { u.port p with service := .answering ⟨n, k.code, replyBytes (.ok [])⟩ }) := by
  rw [serves, serve_of_accepts n owner accepts, decides]
  exact congrArg Host.Outcome.next (answerPort_of_waiting (.ok []) waiting)

/-- The body-reset state from the lifts already ended (R209). -/
def resetAfter (v : State) : State :=
  ((resetBlocks v).withPorts (resetPorts (resetBlocks v).ports)).withLoad (.pass (resetBlocks v).bodyTimer)

theorem bodyResetState_eq (s : State) :
    bodyResetState s = resetAfter (resetLift .right (resetLift .left s)) := rfl

theorem resetAfter_port (v : State) (q : Port) : (resetAfter v).port q = resetPort (v.port q) := by
  have ports : (resetBlocks v).ports = v.ports := (resetBlocks_parts v).same .ports (by decide)
  have reset : (resetAfter v).ports = resetPorts (resetBlocks v).ports := rfl
  rw [State.port, reset, ports, resetPorts_get]
  rfl

/-- A port after the reset of its latches, from one that has only latched events since. -/
theorem resetPort_quiet {x y : PortState}
    (same : { y with latched := 0, attention := false } = { x with latched := 0, attention := false }) :
    resetPort y = { x with latched := eventSet .bodyReset, attention := !x.mask.holds .bodyReset } := by
  obtain ⟨⟩ := x
  obtain ⟨⟩ := y
  simp only [PortState.mk.injEq, true_and, and_true] at same
  obtain ⟨rfl, rfl, rfl, rfl, rfl⟩ := same
  exact resetPort_eq _

/-- Every block in its body-reset state, from the state v in which the last lift has ended. -/
structure BlocksReset (v z : State) : Prop where
  journal : z.journal = v.journal
  tags : z.tags = { v.tags with pendingTags := ⟨none, none⟩ }
  compartments : z.compartments = v.compartments
  body : z.body = { resetBody v.body with
    inhibitLine := !v.body.tailgate.reading, inhibitReasons := ⟨false, false, !v.body.tailgate.reading⟩ }
  lifter : ∀ l, z.lifter l = { v.lifter l with raiseValve := false, lowerValve := false }
  flow : z.flow = resetFlow
  packer : ∀ st, z.packer st = resetPacker (v.packer st)
  scan : z.scan = resetScan v.scan v.bodyTimer
  weigh : z.weigh = resetWeigh v.weigh
  loader : z.loader = { v.loader with load := .pass v.bodyTimer }
  integrity : z.integrity = v.integrity
  bodyLimit : z.bodyLimit = v.bodyLimit
  ground : SameGround v (z.withLoader v.loader)

theorem resetBlocks_lifter (l : Lifter) (v : State) :
    (resetBlocks v).lifter l = { v.lifter l with raiseValve := false, lowerValve := false } := by
  cases l <;> rfl

theorem sameGround_withLoader {f : List Field} {z : State} (h : Only f v z)
    (apart : ∀ q ∈ [Field.pending, .resetHeld, .bodyTimer, .freeIndex, .banks, .bodyLimit, .calib, .access], q ∉ f) :
    SameGround v (z.withLoader v.loader) :=
  ⟨h.same .pending (apart _ (by decide)), h.same .resetHeld (apart _ (by decide)),
    h.same .bodyTimer (apart _ (by decide)), h.same .freeIndex (apart _ (by decide)), h.same .banks (apart _ (by decide)),
    h.same .bodyLimit (apart _ (by decide)), h.same .calib (apart _ (by decide)), h.same .access (apart _ (by decide)),
    rfl⟩

theorem resetAfter_reset (idle : ∀ l, v.context l = none) : BlocksReset v (resetAfter v) := by
  have only := resetBlocks_parts v
  have timer : (resetBlocks v).bodyTimer = v.bodyTimer := only.same .bodyTimer (by decide)
  have loader : (resetBlocks v).loader = v.loader := only.same .loader (by decide)
  have load : (resetAfter v).loader = { (resetBlocks v).loader with load := .pass (resetBlocks v).bodyTimer } := rfl
  have outer : Only [.ports, .loader] (resetBlocks v) (resetAfter v) :=
    (withPorts_only _ _).both (withLoader_only _ _) (by decide) (by decide)
  have whole : Only (.ports :: .loader :: blockParts) v (resetAfter v) := only.both outer (by decide) (by decide)
  refine ⟨whole.same .journal (by decide), (outer.same .tags (by decide) : _).trans rfl, whole.same .compartments (by decide),
    (outer.same .body (by decide) : _).trans (resetBlocks_body idle),
    fun l => (congrArg (PerLifter.get · l) (outer.same .lifters (by decide)) : _).trans (resetBlocks_lifter l v),
    (outer.same .flow (by decide) : _).trans rfl,
    fun st => (congrArg (PerStream.get · st) (outer.same .packers (by decide)) : _).trans (resetBlocks_packer st v),
    (outer.same .scan (by decide) : _).trans rfl, (outer.same .weigh (by decide) : _).trans rfl, ?_,
    whole.same .integrity (by decide), whole.same .bodyLimit (by decide), ?_⟩
  · rw [load, timer, loader]
  · exact sameGround_withLoader whole (by decide)

theorem BlocksReset.withPorts {z : State} (h : BlocksReset v z) (P : PerPort PortState) :
    BlocksReset v (z.withPorts P) :=
  ⟨h.journal, h.tags, h.compartments, h.body, h.lifter, h.flow, h.packer, h.scan, h.weigh, h.loader, h.integrity,
    h.bodyLimit, ⟨h.ground.pending, h.ground.resetHeld, h.ground.bodyTimer, h.ground.freeIndex, h.ground.banks,
      h.ground.bodyLimit, h.ground.calib, h.ground.access, h.ground.loader⟩⟩

/-- The body reset as its answer leaves it: the ports, the lifts ended, the blocks reset. -/
theorem exec_bodyReset {d : List Byte} (accepts : Accepts .bodyReset p d s) (law : TableLaw s) (clean : CleanTable s)
    (sequences : SequenceLaw s) (reserved : ReservationLaw s) :
    ∃ v t recs, exec (.bodyReset p n d) s = .next t ∧ LiftsCut s v [.left, .right] recs ∧ BlocksReset v t
      ∧ t.port p = { s.port p with
          receive := .hunting
          service := .answering ⟨n, Kind.bodyReset.code, [0]⟩
          latched := eventSet .bodyReset
          attention := !(s.port p).mask.holds .bodyReset }
      ∧ ∀ q, q ≠ p → t.port q =
          { s.port q with latched := eventSet .bodyReset, attention := !(s.port q).mask.holds .bodyReset } := by
  obtain ⟨first, one⟩ := (LiftsCut.start law clean sequences (takeRequest_only p n Kind.bodyReset.code s)).lift
    (l := .left) (by decide) reserved
  obtain ⟨recs, cut⟩ := one.lift (l := .right) (by decide) reserved
  have quiet : PortsQuiet (takeRequest p n Kind.bodyReset.code s)
      (resetLift .right (resetLift .left (takeRequest p n Kind.bodyReset.code s))) :=
    (resetLift_ends (resetLift_ends .refl .left) .right).quiet
  have decides : decideBodyReset (takeRequest p n Kind.bodyReset.code s) =
    taken (bodyResetState (takeRequest p n Kind.bodyReset.code s)) := rfl
  rw [bodyResetState_eq] at decides
  generalize resetLift .right (resetLift .left (takeRequest p n Kind.bodyReset.code s)) = v at *
  have port (q : Port) : (resetAfter v).port q = { (takeRequest p n Kind.bodyReset.code s).port q with
      latched := eventSet .bodyReset
      attention := !((takeRequest p n Kind.bodyReset.code s).port q).mask.holds .bodyReset } := by
    rw [resetAfter_port]
    exact resetPort_quiet (quiet.same q)
  have run := exec_answered (i := .bodyReset p n d) accepts rfl decides (by rw [port, takeRequest_service])
  have idle (l : Lifter) : v.context l = none := by
    have unit := congrArg LifterUnit.context (cut.lifter l)
    rw [if_pos (by cases l <;> decide)] at unit
    exact unit
  refine ⟨v, _, recs, run, cut, (resetAfter_reset idle).withPorts _, ?_, fun q other => ?_⟩
  · rw [port_withPort_self, port, takeRequest, port_withPort_self]
    rfl
  · rw [port_withPort_of_ne _ _ _ _ other, port, takeRequest, port_withPort_of_ne _ _ _ _ other]

/-- Settles O28: the lifts end one after the other, then each block takes its body-reset state. -/
theorem bodyResetEndsLifts : Obligations.BodyResetEndsLifts := by
  unfold Obligations.BodyResetEndsLifts
  intro p n d s accepts law clean sequences reserved
  obtain ⟨v, t, recs, run, cut, reset, own, others⟩ := exec_bodyReset (n := n) accepts law clean sequences reserved
  have only := cut.only
  refine ⟨t, recs, run, own, others, ?_, cut.who, cut.numbers, ?_, ?_, ?_, cut.records, ?_, fun st => ?_,
    fun none => ?_, fun some => ?_, ?_, fun l => ?_, reset.flow, fun st => ?_, fun ch => ?_, ?_, ?_, ?_, ?_, ?_⟩
  · rw [reset.journal, cut.slots]
  · rw [reset.journal, cut.next]
  · rw [reset.journal, cut.place]
  · have freed (l : Lifter) : v.journal.reservations.get l = false := by
      rw [cut.freed]
      cases l <;> rfl
    rw [reset.journal]
    exact congrArg₂ PerLifter.mk (freed .left) (freed .right)
  · rw [reset.tags, cut.tags]
    rfl
  · rw [State.compartment, reset.compartments]
    exact cut.compartment st (s.compartment st).limitReached
  · rw [reset.compartments, cut.untouched none]
  · have limits := cut.limits some
    simpa only [LimitLaw, State.compartment, reset.compartments, reset.bodyLimit] using limits
  · rw [reset.body, cut.body]
    rfl
  · rw [reset.lifter]
    have unit := cut.lifter l
    rw [if_pos (by cases l <;> decide)] at unit
    exact unit
  · rw [reset.packer, State.packer, show v.packers = s.packers from only.same .packers (by decide)]
    rfl
  · rw [State.slot, reset.scan, resetScan_slot, cut.scan, show v.bodyTimer = s.bodyTimer from only.same .bodyTimer (by decide)]
    rfl
  · rw [reset.scan, cut.scan]
    rfl
  · rw [reset.weigh, cut.weigh]
    rfl
  · rw [reset.loader, show v.loader = s.loader from only.same .loader (by decide),
      show v.bodyTimer = s.bodyTimer from only.same .bodyTimer (by decide)]
  · exact reset.integrity.trans (only.same .integrity (by decide))
  · obtain ⟨pending, held, timer, free, banks, limit, calib, access, -⟩ := reset.ground
    exact ⟨pending.trans (only.same .pending (by decide)), held.trans (only.same .resetHeld (by decide)),
      timer.trans (only.same .bodyTimer (by decide)), free.trans (only.same .freeIndex (by decide)),
      banks.trans (only.same .banks (by decide)), limit.trans (only.same .bodyLimit (by decide)),
      calib.trans (only.same .calib (by decide)), access.trans (only.same .access (by decide)), rfl⟩

end Sys2Proof.Safety
end

section
/-! PROOFS. Read Journal (O38). -/

namespace Sys2Proof.Safety

open Sys2Proof.Machine

variable {s t u : State} {p : Port} {n : Byte} {d : List Byte} {i k count : Nat} {w : JournalSlot}
  {x : List Delivery × State}

/-! ### The decision (R176, R177) -/

/-- Read Journal within its ranges. (The functions are unfolded as functions, and the delivery is a variable, as in
`decideReadJournal_cases` and for the same reason.) -/
theorem decideReadJournal_of_read (positive : 1 ≤ beAt d 0 4) (low : 1 ≤ byteAt d 4) (high : byteAt d 4 ≤ 8)
    (read : journalRead (beAt d 0 4) (byteAt d 4) s = x) : decideReadJournal d s =
      (x.2, some (.ok (optionalField 4 (beBytes 4) (newestSeq s.journal) ++ listField deliveryBytes x.1))) := by
  have seq : within 1 sequenceCount (beAt d 0 4) = some (beAt d 0 4) := if_pos ⟨positive, beAt_four_le d 0⟩
  have counted : within 1 8 (byteAt d 4) = some (byteAt d 4) := if_pos ⟨low, high⟩
  generalize unfolded : decideReadJournal = f
  delta decideReadJournal at unfolded
  subst unfolded
  beta_reduce
  rw [seq, counted]
  subst read
  rfl

theorem decideReadJournal_bad (outside : beAt d 0 4 = 0 ∨ byteAt d 4 = 0 ∨ 8 < byteAt d 4) (s : State) :
    decideReadJournal d s = declined .badArgument s := by
  generalize unfolded : decideReadJournal = f
  delta decideReadJournal at unfolded
  subst unfolded
  beta_reduce
  by_cases zero : beAt d 0 4 = 0
  · have seq : within 1 sequenceCount (beAt d 0 4) = none := if_neg (by omega)
    rw [seq]
  · have counted : within 1 8 (byteAt d 4) = none := if_neg (by omega)
    rw [counted]
    generalize within 1 sequenceCount (beAt d 0 4) = y
    cases y <;> rfl

/-- The newest sequence number is the newest record's (R177). -/
theorem newestSeq_eq (law : SequenceLaw s) : newestSeq s.journal = s.journal.slots.getLast?.map slotSequence := by
  unfold newestSeq
  cases last : s.journal.slots.getLast? with
  | none => rw [List.getLast?_eq_none_iff.mp last]; rfl
  | some w =>
    have some : s.journal.slots ≠ [] := fun empty => by rw [empty] at last; cases last
    rw [if_neg some]
    rw [List.getLast?_eq_getElem?] at last
    exact congrArg Option.some (slotSequence_eq_seqOfIndex law last).symm

/-- The index of the first record delivered, by the class of the sequence asked for (R177). -/
def firstOfClass (j : Journal) : SeqClass → Option Nat
  | .held i => some i
  | .older => if j.slots = [] then none else some 0
  | .newer => none

theorem firstDelivered_of_class {c : SeqClass} {seq : Nat} (classified : classify s.journal seq = c) :
    firstDelivered s.journal seq = firstOfClass s.journal c := by
  generalize unfolded : firstDelivered = f
  delta firstDelivered at unfolded
  subst unfolded
  beta_reduce
  rw [classified]
  cases c <;> rfl

/-- What Read Journal delivers for a class of the sequence asked for. -/
theorem journalRead_of_class {c : SeqClass} {seq : Nat} (count : Nat) (classified : classify s.journal seq = c) :
    journalRead seq count s = deliveriesFrom count s (firstOfClass s.journal c) :=
  journalRead_of_first count (firstDelivered_of_class classified)

/-! ### Deliveries (R177, R184, R188) -/

/-- A clean journal delivers its records and is not changed. -/
theorem deliverFrom_clean (clean : CleanJournal s) (k i : Nat) :
    deliverFrom k i s = ((recordsFrom s i k).map Delivery.record, s) := by
  induction k generalizing i with
  | zero => rfl
  | succ k ih =>
    cases found : s.journal.slots[i]? with
    | none =>
      have beyond : s.journal.slots.drop i = [] := List.drop_eq_nil_iff.mpr (List.getElem?_eq_none_iff.mp found)
      simp only [deliverFrom, deliver, found, recordsFrom, beyond, List.take_nil, List.map_nil]
    | some w =>
      obtain ⟨whole, healthy⟩ := clean w (List.mem_of_getElem? found)
      have here : s.journal.slots.drop i = w :: s.journal.slots.drop (i + 1) := by
        obtain ⟨inside, rfl⟩ := List.getElem?_eq_some_iff.mp found
        exact List.drop_eq_getElem_cons inside
      simp only [deliverFrom, deliver, found, whole, healthy, ih, recordsFrom, here, List.take_succ_cons, List.map_cons,
        Bool.false_eq_true, if_false]

theorem deliveriesFrom_one (count : Nat) (one : count = 1) (s : State) (i : Nat) :
    deliveriesFrom count s (some i) = deliverFrom 1 i s := by
  subst one
  rfl

theorem listField_records (xs : List Record) :
    listField deliveryBytes (xs.map Delivery.record) = listField recordBytes xs := by
  simp [listField, List.flatMap_map, deliveryBytes]

theorem listField_one (y : Delivery) : listField deliveryBytes [y] = 1 :: deliveryBytes y := by
  simp [listField]

/-- One delivery alone. -/
theorem deliverFrom_one {y : Delivery} (h : deliver i s = (some y, t)) : deliverFrom 1 i s = ([y], t) := by
  simp only [deliverFrom, h]

theorem deliver_marked (found : s.journal.slots[i]? = some w) (damaged : w.damaged = true) :
    deliver i s = (some (.damaged (seqOfIndex s.journal i)), s) := by
  simp only [deliver, found, damaged, if_true]

theorem deliver_double (found : s.journal.slots[i]? = some w) (whole : w.damaged = false)
    (health : w.stored.health = .double) : deliver i s = (some (.damaged (seqOfIndex s.journal i)),
      latchAll .recordDamaged (s.withSlots (s.journal.slots.set i { w with damaged := true }))) := by
  simp only [deliver, found, whole, health, Bool.false_eq_true, if_false]

theorem deliver_single (found : s.journal.slots[i]? = some w) (whole : w.damaged = false)
    (health : w.stored.health = .single) : deliver i s = (some (.record w.stored.content),
      countJournalCorrection (s.withSlots (s.journal.slots.set i ⟨⟨w.stored.content, .clean⟩, false⟩))) := by
  simp only [deliver, found, whole, health, Bool.false_eq_true, if_false]

/-! ### The answers -/

/-- A Read Journal within its ranges, from its class, in terms of the state the deliveries leave. -/
theorem readJournal_answers {c : SeqClass} (accepts : Accepts .readJournal p d s) (law : SequenceLaw s)
    (positive : 1 ≤ beAt d 0 4) (low : 1 ≤ byteAt d 4) (high : byteAt d 4 ≤ 8)
    (classified : classify s.journal (beAt d 0 4) = c) {y : List Delivery}
    (delivers : deliveriesFrom (byteAt d 4) (takeRequest p n Kind.readJournal.code s) (firstOfClass s.journal c) =
      (y, takeRequest p n Kind.readJournal.code t)) : exec (.readJournal p n d) s =
      .next (replied p n .readJournal (.ok (optionalField 4 (beBytes 4) (s.journal.slots.getLast?.map slotSequence)
        ++ listField deliveryBytes y)) t) := by
  have read := journalRead_of_class (s := takeRequest p n Kind.readJournal.code s) (byteAt d 4) (by exact classified)
  have decides := decideReadJournal_of_read positive low high (read.trans delivers)
  have newest : newestSeq (takeRequest p n Kind.readJournal.code s).journal =
    s.journal.slots.getLast?.map slotSequence := by
    rw [← newestSeq_eq law]; rfl
  rw [newest] at decides
  exact exec_decided accepts rfl decides

theorem replied_answered {k : Kind} {r : Reply} (quiet : PortsQuiet s t) : Answered s (replied p n k r t) p n k r := by
  have own : (replied p n k r t).port p =
      { t.port p with receive := .hunting, service := .answering ⟨n, k.code, replyBytes r⟩ } := port_withPort_self t p _
  have others (q : Port) (other : q ≠ p) : (replied p n k r t).port q = t.port q := port_withPort_of_ne t p q _ other
  have settings (q : Port) : (t.port q).mask = (s.port q).mask ∧ (t.port q).errors = (s.port q).errors
      ∧ (t.port q).overruns = (s.port q).overruns := by
    obtain ⟨-, -, errors, overruns, mask⟩ := quiet.fields q
    exact ⟨mask, errors, overruns⟩
  refine ⟨by rw [own], fun q other => by rw [others q other, quiet.service q], fun q => ?_, fun q m latched => ?_⟩
  · by_cases same : q = p
    · subst same
      rw [own]
      exact settings q
    · rw [others q same]
      exact settings q
  · rw [replied_latched]
    exact quiet.latches q m latched

/-- A corrected read counted (R184 steps 2 and 3), seen through a request in service, and what it does. -/
theorem countJournalCorrection_takeRequest (p : Port) (n kb : Byte) (s : State) :
    countJournalCorrection (takeRequest p n kb s) = takeRequest p n kb (countJournalCorrection s) :=
  latchWhen_takeRequest p n kb
    (s.withIntegrity { s.integrity with journalCorrections := saturatingSucc top8 s.integrity.journalCorrections }) _ _

theorem countJournalCorrection_counts (s : State) : (countJournalCorrection s).integrity.journalCorrections =
    if s.integrity.journalCorrections < 255 then s.integrity.journalCorrections + 1
    else s.integrity.journalCorrections := by
  have integrity : (countJournalCorrection s).integrity =
      { s.integrity with journalCorrections := saturatingSucc top8 s.integrity.journalCorrections } :=
    (latchWhen_only _ _ _).same .integrity (by decide)
  rw [integrity]
  rfl

theorem countJournalCorrection_overflows (last : s.integrity.journalCorrections = 254) :
    LatchedAll .correctionOverflow (countJournalCorrection s) := by
  have top : bumpsTo255 s.integrity.journalCorrections = true := by rw [last]; decide
  rw [countJournalCorrection]
  exact latchWhen_latched _ _ top

theorem replied_only (k : Kind) (r : Reply) (s : State) : Only [.ports] s (replied p n k r s) := withPort_only s p _

/-- A corrected read counted, and the request answered. -/
theorem corrected_effect {k : Kind} {r : Reply} (y : State) :
    Answered y (replied p n k r (countJournalCorrection y)) p n k r
      ∧ (replied p n k r (countJournalCorrection y)).journal = y.journal
      ∧ (replied p n k r (countJournalCorrection y)).integrity.journalCorrections =
        (if y.integrity.journalCorrections < 255 then y.integrity.journalCorrections + 1
          else y.integrity.journalCorrections)
      ∧ (y.integrity.journalCorrections = 254 →
          LatchedAll .correctionOverflow (replied p n k r (countJournalCorrection y))) := by
  have answer := replied_only (p := p) (n := n) k r (countJournalCorrection y)
  have quiet : PortsQuiet y (countJournalCorrection y) := (latchWhen_quiet _ _ _).after rfl
  have integrity : (replied p n k r (countJournalCorrection y)).integrity = (countJournalCorrection y).integrity :=
    answer.same .integrity (by decide)
  refine ⟨replied_answered quiet, (answer.same .journal (by decide) : _).trans
    ((countJournalCorrection_only y).same .journal (by decide)), ?_, fun last q => ?_⟩
  · rw [integrity]
    exact countJournalCorrection_counts y
  · rw [replied_latched]
    exact countJournalCorrection_overflows last q

/-- Settles O38: the class of the sequence gives the first record, and each delivery its own change. -/
theorem readJournalDelivers : Obligations.ReadJournalDelivers := by
  unfold Obligations.ReadJournalDelivers
  intro p n d i w s accepts law capacity
  have held (found : s.journal.slots[i]? = some w) (named : slotSequence w = beAt d 0 4) :
      1 ≤ beAt d 0 4 ∧ classify s.journal (beAt d 0 4) = .held i := by
    have range := law.range w (List.mem_of_getElem? found)
    have here := classify_held law capacity found
    rw [named] at range here
    exact ⟨range.1, here⟩
  refine ⟨fun outside => ?_, fun low high positive newer => ?_, fun low high clean found named => ?_,
    fun low high clean positive older => ?_, fun one found named damaged => ?_, fun one found named whole health => ?_,
    fun one found named whole health => ?_⟩
  · exact congrArg Host.Outcome.next (serve_declined n accepts (decideReadJournal_bad outside))
  · exact readJournal_answers accepts law positive low high (classify_newer law newer) rfl
  · obtain ⟨positive, classified⟩ := held found named
    rw [← listField_records]
    exact readJournal_answers accepts law positive low high classified
      (deliverFrom_clean (s := takeRequest p n Kind.readJournal.code s) (by exact clean) _ i)
  · have classified := classify_older law ⟨positive, beAt_four_le d 0⟩ older
    rw [← listField_records]
    refine readJournal_answers accepts law positive low high classified ?_
    by_cases empty : s.journal.slots = []
    · have records : recordsFrom s 0 (min (byteAt d 4) 2) = [] := by simp [recordsFrom, empty]
      rw [firstOfClass, if_pos empty, records]
      rfl
    · rw [firstOfClass, if_neg empty]
      exact deliverFrom_clean (s := takeRequest p n Kind.readJournal.code s) (by exact clean) _ 0
  · obtain ⟨positive, classified⟩ := held found named
    have delivered := deliverFrom_one (deliver_marked (s := takeRequest p n Kind.readJournal.code s) (by exact found) damaged)
    have answer := readJournal_answers (n := n) (t := s) accepts law positive (by omega) (by omega) classified
      ((deliveriesFrom_one _ one _ i).trans delivered)
    rw [listField_one] at answer
    rw [slotSequence_eq_seqOfIndex law found]
    exact answer
  · obtain ⟨positive, classified⟩ := held found named
    have delivered := deliverFrom_one (deliver_double (s := takeRequest p n Kind.readJournal.code s) (by exact found) whole
      health)
    have answer := readJournal_answers (n := n) (t := latchAll .recordDamaged
      (s.withSlots (s.journal.slots.set i { w with damaged := true }))) accepts law positive (by omega) (by omega) classified
      ((deliveriesFrom_one _ one _ i).trans (delivered.trans (congrArg _
        (latchAll_takeRequest p n _ (s.withSlots (s.journal.slots.set i { w with damaged := true })) .recordDamaged))))
    rw [listField_one] at answer
    rw [slotSequence_eq_seqOfIndex law found]
    exact answer
  · obtain ⟨positive, classified⟩ := held found named
    have delivered := deliverFrom_one (deliver_single (s := takeRequest p n Kind.readJournal.code s) (by exact found) whole
      health)
    have corrected := readJournal_answers (n := n) (t := countJournalCorrection
      (s.withSlots (s.journal.slots.set i ⟨⟨w.stored.content, .clean⟩, false⟩))) accepts law positive (by omega)
      (by omega) classified ((deliveriesFrom_one _ one _ i).trans (delivered.trans (congrArg _
        (countJournalCorrection_takeRequest p n _
          (s.withSlots (s.journal.slots.set i ⟨⟨w.stored.content, .clean⟩, false⟩))))))
    rw [listField_one] at corrected
    obtain ⟨answered, journal, integrity, overflow⟩ := corrected_effect (p := p) (n := n) (k := .readJournal)
      (r := .ok (optionalField 4 (beBytes 4) (s.journal.slots.getLast?.map slotSequence)
        ++ 1 :: recordBytes w.stored.content)) (s.withSlots (s.journal.slots.set i ⟨⟨w.stored.content, .clean⟩, false⟩))
    exact ⟨_, corrected, ⟨answered.own, answered.others, answered.settings, answered.latches⟩, journal, integrity,
      overflow⟩

end Sys2Proof.Safety
end

section
/-! PROOFS. The read kinds (O8). -/

namespace Sys2Proof.Safety

open Sys2Proof.Machine

variable {s t u : State} {p q : Port} {n : Byte} {d : List Byte} {k : Kind}

/-! ### What a read of the two memories changes (R184 to R188) -/

/-- A journal of which no record is corrected or found damaged by a read. -/
def Undisturbed (s : State) : Prop := ∀ w ∈ s.journal.slots, w.damaged = true ∨ w.stored.health = .clean

/-- What a read can change: the table, the journal's slots, the correction counters and latches; nothing where neither
memory has an error. -/
structure Inspects (s t : State) : Prop where
  only : Only [.tags, .journal, .integrity, .ports] s t
  tags : t.tags = { s.tags with table := t.tags.table }
  journal : t.journal = { s.journal with slots := t.journal.slots }
  quiet : PortsQuiet s t
  clean : CleanTable s → Undisturbed s → t = s

theorem Inspects.refl : Inspects s s := ⟨.refl _ s, rfl, rfl, .refl s, fun _ _ => rfl⟩

theorem Inspects.trans (h : Inspects s t) (k : Inspects t u) : Inspects s u := by
  refine ⟨h.only.step k.only, ?_, ?_, h.quiet.trans k.quiet, fun table journal => ?_⟩
  · rw [k.tags, h.tags]
  · rw [k.journal, h.journal]
  · have same := h.clean table journal
    subst same
    exact k.clean table journal

theorem Reads.inspects (h : Reads s t) : Inspects s t where
  only := h.only.mono (by decide)
  tags := h.tags
  journal := by rw [show t.journal = s.journal from h.only.same .journal (by decide)]
  quiet := h.quiet
  clean table _ := h.clean table

theorem deliver_inspects (i : Nat) (s : State) : Inspects s (deliver i s).2 := by
  cases found : s.journal.slots[i]? with
  | none =>
    rw [show deliver i s = (none, s) by simp only [deliver, found]]
    exact .refl
  | some w =>
    have here := List.mem_of_getElem? found
    cases damaged : w.damaged with
    | true =>
      rw [deliver_marked found damaged]
      exact .refl
    | false =>
      have healthy (intact : Undisturbed s) : w.stored.health = .clean :=
        (intact w here).resolve_left fun marked => absurd (damaged.symm.trans marked) Bool.false_ne_true
      cases health : w.stored.health with
      | clean =>
        rw [show deliver i s = (some (.record w.stored.content), s) by
          simp only [deliver, found, damaged, health, Bool.false_eq_true, if_false]]
        exact .refl
      | single =>
        rw [deliver_single found damaged health]
        refine ⟨(withJournal_only s _).both (countJournalCorrection_only _) (by decide) (by decide), ?_, ?_,
          (latchWhen_quiet _ _ _).after rfl, fun _ intact => ?_⟩
        · dsimp only
          rw [show (countJournalCorrection _).tags = _ from (countJournalCorrection_only _).same .tags (by decide)]
          rfl
        · dsimp only
          rw [show (countJournalCorrection _).journal = _ from (countJournalCorrection_only _).same .journal (by decide)]
          rfl
        · rw [health] at healthy
          exact absurd (healthy intact) (by decide)
      | double =>
        rw [deliver_double found damaged health]
        refine ⟨(withJournal_only s _).both (latchAll_only _ _) (by decide) (by decide), rfl, rfl,
          (latchAll_quiet _ _).after rfl, fun _ intact => ?_⟩
        rw [health] at healthy
        exact absurd (healthy intact) (by decide)

theorem deliverFrom_inspects (k i : Nat) (s : State) : Inspects s (deliverFrom k i s).2 := by
  induction k generalizing i s with
  | zero => exact .refl
  | succ k ih =>
    have first := deliver_inspects i s
    simp only [deliverFrom]
    generalize deliver i s = x at first ⊢
    obtain ⟨r, y⟩ := x
    cases r with
    | none => exact first
    | some r => exact first.trans (ih _ y)

theorem decideReadJournal_inspects {x : Decision} (h : decideReadJournal d s = x) : Inspects s x.1 := by
  obtain same | ⟨seq, count, r, read, same⟩ := decideReadJournal_cases h <;> rw [same]
  · exact .refl
  · obtain ⟨first, found⟩ : ∃ y, firstDelivered s.journal seq = y := exists_eq'
    have delivered := read.symm.trans (journalRead_of_first count found)
    rw [delivered]
    cases first with
    | none => exact .refl
    | some i => exact deliverFrom_inspects _ i s

theorem readByTag_reads (tag : Nat) (s : State) : Reads s (readByTag tag s).1 := by
  have looked := lookupTag_reads tag s
  unfold readByTag
  generalize lookupTag tag s = y at looked ⊢
  obtain ⟨r, u⟩ := y
  cases r <;> exact looked

theorem readByIndex_reads (i : Nat) (s : State) : Reads s (readByIndex i s).1 := by
  have looked := readIndexFrom_reads (s.tags.table.length + 1) i s
  unfold readByIndex readIndex
  generalize readIndexFrom (s.tags.table.length + 1) i s = y at looked ⊢
  obtain ⟨r, u⟩ := y
  cases r <;> exact looked

theorem decideReadAccount_reads (d : List Byte) (s : State) : Reads s (decideReadAccount d s).1 := by
  unfold decideReadAccount
  split
  · split
    · exact readByTag_reads _ s
    · exact .refl
  · split
    · exact readByIndex_reads _ s
    · exact .refl
  · exact .refl

/-! ### A request that reads, through its port (R195 to R199) -/

/-- What a read kind changes at all. -/
structure ReadEffect (p : Port) (s t : State) : Prop where
  only : Only [.tags, .journal, .integrity, .ports] s t
  tags : t.tags = { s.tags with table := t.tags.table }
  journal : t.journal = { s.journal with slots := t.journal.slots }
  others : ∀ q, q ≠ p → LatchesOnly (s.port q) (t.port q)
  latches : ∀ q m, (s.port q).latched.getLsbD m = true → (t.port q).latched.getLsbD m = true
  clean : CleanTable s → Undisturbed s → t = s.withPort p (t.port p)

/-- A change of the port alone, which clears no latch. -/
theorem ReadEffect.ofPort (v : PortState)
    (latches : ∀ m, (s.port p).latched.getLsbD m = true → v.latched.getLsbD m = true) :
    ReadEffect p s (s.withPort p v) := by
  refine ⟨(withPort_only s p v).mono (by decide), rfl, rfl, fun q other => ?_, fun q m latched => ?_, fun _ _ => ?_⟩
  · rw [port_withPort_of_ne _ _ _ _ other]
    rfl
  · by_cases own : q = p
    · subst own
      rw [port_withPort_self]
      exact latches m latched
    · rw [port_withPort_of_ne _ _ _ _ own]
      exact latched
  · rw [port_withPort_self]

theorem ReadEffect.refl : ReadEffect p s s := by
  have same := ReadEffect.ofPort (s := s) (p := p) (s.port p) fun _ h => h
  rwa [show s.withPort p (s.port p) = s by cases p <;> rfl] at same

theorem ReadEffect.port (h : ReadEffect p s t) (v : PortState)
    (latches : ∀ m, (t.port p).latched.getLsbD m = true → v.latched.getLsbD m = true) :
    ReadEffect p s (t.withPort p v) := by
  refine ⟨h.only.both (withPort_only t p v) (fun _ h => h) (by decide), h.tags, h.journal, fun q other => ?_,
    fun q m latched => ?_, fun table journal => ?_⟩
  · rw [port_withPort_of_ne _ _ _ _ other]
    exact h.others q other
  · by_cases own : q = p
    · subst own
      rw [port_withPort_self]
      exact latches m (h.latches q m latched)
    · rw [port_withPort_of_ne _ _ _ _ own]
      exact h.latches q m latched
  · rw [port_withPort_self]
    have same := h.clean table journal
    rw [same]
    cases p <;> rfl

theorem ReadEffect.inspect (h : ReadEffect p s t) (k : Inspects t u) : ReadEffect p s u := by
  refine ⟨h.only.step k.only, by rw [k.tags, h.tags], by rw [k.journal, h.journal], fun q other => ?_, fun q m latched => ?_,
    fun table journal => ?_⟩
  · have quiet := k.quiet.fields q
    have kept := h.others q other
    unfold LatchesOnly at kept ⊢
    rw [← kept]
    obtain ⟨receive, service, errors, overruns, mask⟩ := quiet
    rw [receive, service, errors, overruns, mask]
  · exact k.quiet.latches q m (h.latches q m latched)
  · have same := h.clean table journal
    have unchanged : u = t := k.clean (by rw [same]; exact table) (by rw [same]; exact journal)
    rw [unchanged]
    exact same

theorem ReadEffect.answerPort (h : ReadEffect p s t) (r : Reply) : ReadEffect p s (answerPort p r t) := by
  unfold Machine.answerPort
  split
  · exact h.port _ fun _ latched => latched
  · exact h

theorem latch_keeps (x : PortState) (e : Event) (m : Nat) (latched : x.latched.getLsbD m = true) :
    (x.latch e).latched.getLsbD m = true := by
  rw [latch_latched, BitVec.getLsbD_or, latched, Bool.true_or]

theorem serve_readEffect {owner : State → Decision} (decides : ∀ x y, owner x = y → Inspects x y.1) :
    ReadEffect p s (serve k p n d owner s) := by
  unfold serve
  split
  · exact .refl
  · split
    · have hunting : ReadEffect p s (s.withPort p
          { s.port p with receive := .hunting, overruns := saturatingSucc top16 (s.port p).overruns }) :=
        ReadEffect.ofPort _ fun _ latched => latched
      exact hunting.port _ (latch_keeps _ .linkError)
    · have taken : ReadEffect p s (takeRequest p n k.code s) := ReadEffect.ofPort _ fun _ latched => latched
      split
      · unfold refuseAtPort
        split
        · exact (taken.port _ (latch_keeps _ _)).answerPort _
        · exact taken.answerPort _
      · have decided := taken.inspect (decides _ _ rfl)
        unfold finishRequest
        split
        · exact decided.answerPort _
        · exact decided

/-- The requests whose owner looks at what stands. -/
theorem serve_standing {owner : State → Decision} (stands : ∀ x, (owner x).1 = x) :
    ReadEffect p s (serve k p n d owner s) :=
  serve_readEffect fun x y same => by rw [← same, stands]; exact .refl

theorem ReadEffect.frame (h : ReadEffect p s t) :
    ((t.withTags { t.tags with table := s.tags.table }).withJournal
      { t.journal with slots := s.journal.slots }).withIntegrity s.integrity = s.withPorts t.ports := by
  have tags := h.tags
  have journal := h.journal
  have back : Only [.ports] (s.withPorts t.ports) s := withPorts_only (s.withPorts t.ports) s.ports
  have whole : Only [.tags, .journal, .integrity, .ports] (s.withPorts t.ports)
      (((t.withTags { t.tags with table := s.tags.table }).withJournal
        { t.journal with slots := s.journal.slots }).withIntegrity s.integrity) :=
    (((((back.mono (by decide)).step h.only).both (withTags_only _ _) (fun _ h => h) (by decide)).both
      (withJournal_only _ _) (fun _ h => h) (by decide)).both (withIntegrity_only _ _) (fun _ h => h) (by decide))
  refine Only.closed whole fun q hq => ?_
  simp only [List.mem_cons, List.not_mem_nil, or_false] at hq
  obtain rfl | rfl | rfl | rfl := hq
  · change { t.tags with table := s.tags.table } = s.tags
    rw [tags]
  · change { t.journal with slots := s.journal.slots } = s.journal
    rw [journal]
  · rfl
  · rfl

theorem decideLifterStatus_stands (d : List Byte) (s : State) : (decideLifterStatus d s).1 = s := by
  unfold decideLifterStatus
  split <;> rfl

theorem decideCompartmentStatus_stands (d : List Byte) (s : State) : (decideCompartmentStatus d s).1 = s := by
  unfold decideCompartmentStatus
  split <;> rfl

theorem decideReadCalibration_stands (d : List Byte) (s : State) : (decideReadCalibration d s).1 = s := by
  unfold decideReadCalibration
  split <;> rfl

theorem decideReadTariff_stands (d : List Byte) (s : State) : (decideReadTariff d s).1 = s := by
  unfold decideReadTariff
  split <;> rfl

/-- Every read kind: the two that read the memories, and those whose owner looks at what stands. -/
theorem exec_readEffect (reads : kindReads k = true) : ∃ t, exec (k.request p n d) s = .next t ∧ ReadEffect p s t := by
  cases k with
  | readAccount => exact ⟨_, rfl, serve_readEffect fun x y same => same ▸ (decideReadAccount_reads d x).inspects⟩
  | readJournal => exact ⟨_, rfl, serve_readEffect fun x y same => decideReadJournal_inspects same⟩
  | lifterStatus => exact ⟨_, rfl, serve_standing (decideLifterStatus_stands d)⟩
  | compartmentStatus => exact ⟨_, rfl, serve_standing (decideCompartmentStatus_stands d)⟩
  | readCalibration => exact ⟨_, rfl, serve_standing (decideReadCalibration_stands d)⟩
  | readTariff => exact ⟨_, rfl, serve_standing (decideReadTariff_stands d)⟩
  | bodyStatus | flowStatus | weighStatus | tagStatus | integrityStatus | linkStatus | readEvents | scanStatus
  | readAccess | journalStatus | readCounter | readIdentity => exact ⟨_, rfl, serve_standing fun _ => rfl⟩
  | _ => cases reads

/-- Settles O8: a read kind is its port's own change around what a read of the memories changes. -/
theorem readsChangeNothing : Obligations.ReadsChangeNothing := by
  unfold Obligations.ReadsChangeNothing
  intro k p n d s reads
  obtain ⟨t, run, effect⟩ := exec_readEffect (p := p) (n := n) (d := d) (s := s) reads
  exact ⟨t, run, effect.frame, effect.others, effect.latches, fun table journal => effect.clean table journal⟩

end Sys2Proof.Safety
end

section
/-! PROOFS. The status and data reads (O7). -/

namespace Sys2Proof.Safety

open Sys2Proof.Machine

variable {s : State} {p : Port} {n : Byte} {d : List Byte} {l : Lifter} {st : Stream}

/-! ### Lengths of fields (R216, R217) -/

@[simp] theorem beBytes_length (n v : Nat) : (beBytes n v).length = n := by
  induction n with
  | zero => rfl
  | succ n ih => rw [beBytes, List.length_cons, ih]

@[simp] theorem signedBytes_length (n : Nat) (v : Int) : (signedBytes n v).length = n := beBytes_length n _

@[simp] theorem oneByte_length (v : Nat) : (oneByte v).length = 1 := rfl

@[simp] theorem yesNo_length (b : Bool) : (yesNo b).length = 1 := by cases b <;> rfl

@[simp] theorem firstYes_length (b : Bool) : (firstYes b).length = 1 := by cases b <;> rfl

@[simp] theorem setByte_length (bits : List Bool) : (setByte bits).length = 1 := rfl

theorem optionalField_length {α : Type} {width : Nat} {enc : α → List Byte} (fits : ∀ v, (enc v).length = width)
    (x : Option α) : (optionalField width enc x).length = width + 1 := by
  cases x with
  | none => simp [optionalField]
  | some v => rw [optionalField, List.length_cons, fits]

theorem flatMap_length {α : Type} {width : Nat} {enc : α → List Byte} (fits : ∀ v, (enc v).length = width)
    (xs : List α) : (xs.flatMap enc).length = width * xs.length := by
  induction xs with
  | nil => rfl
  | cons x xs ih => rw [List.flatMap_cons, List.length_append, fits, ih, List.length_cons]; ring

theorem listField_length {α : Type} {enc : α → List Byte} (fits : ∀ v, (enc v).length = 1) (xs : List α) :
    (listField enc xs).length = xs.length + 1 := by
  rw [listField, List.length_cons, flatMap_length fits, Nat.one_mul]

theorem ageBytes_length (s : State) (since : Nat) : (ageBytes s since).length = 2 := beBytes_length 2 _


theorem bodyStatusBytes_length (s : State) : (bodyStatusBytes s).length = 38 := by
  have accepted := optionalField_length (ageBytes_length s) s.body.lastAccepted
  have odometer := optionalField_length (beBytes_length 3) (recordOdometer s)
  unfold bodyStatusBytes inhibitByte
  simp only [List.length_append, accepted, odometer, oneByte_length, firstYes_length, yesNo_length, setByte_length,
    beBytes_length]

theorem lifterStatusBytes_length (l : Lifter) (s : State) : (lifterStatusBytes l s).length = 39 := by
  have account (x : Option AccountPart) : (optionalField 5 accountBytes x).length = 6 :=
    optionalField_length (fun a => by simp [accountBytes]) x
  have tag (x : Option Nat) : (optionalField 5 (beBytes 5) x).length = 6 := optionalField_length (beBytes_length 5) x
  have context (x : Option LiftContext) : (optionalField 14 contextBytes x).length = 15 :=
    optionalField_length (fun c => by simp [contextBytes, account, tag]) x
  have phase (x : Option Phase) : (optionalField 1 phaseByte x).length = 2 :=
    optionalField_length (fun ph => oneByte_length (phaseCode ph)) x
  have refusal (x : Option LastRefusal) : (optionalField 6 refusalBytes x).length = 7 :=
    optionalField_length (fun r => by simp [refusalBytes]) x
  have fault (x : Option LastFault) : (optionalField 6 faultBytes x).length = 7 :=
    optionalField_length (fun f => by simp [faultBytes, phaseByte]) x
  have pending (x : Option PendingTag) : (optionalField 2 (fun t => ageBytes s t.stamp) x).length = 3 :=
    optionalField_length (fun t => ageBytes_length s t.stamp) x
  unfold lifterStatusBytes
  simp only [reasonsByte, List.length_append, context, phase, refusal, fault, pending, oneByte_length, setByte_length]

theorem flowStatusBytes_length (s : State) : (flowStatusBytes s).length = 21 + s.flow.waiting.length := by
  have record (x : Consumer) : (flowRecordBytes s x).length = 4 := by simp [flowRecordBytes]
  have waiting := listField_length (fun c => oneByte_length (consumerCode c)) s.flow.waiting
  have records := flatMap_length record allConsumers
  unfold flowStatusBytes
  simp only [List.length_append, oneByte_length, yesNo_length, records, waiting]
  simp only [allConsumers, List.length_cons, List.length_nil]
  omega

theorem compartmentStatusBytes_length (st : Stream) (s : State) : (compartmentStatusBytes st s).length = 42 := by
  have pause (x : Option PausePoint) : (optionalField 1 (fun y => oneByte (pauseCode y)) x).length = 2 :=
    optionalField_length (fun y => oneByte_length (pauseCode y)) x
  have hold (x : Option (StrokePhase × PackHoldReasons)) : (optionalField 2 packHoldBytes x).length = 3 :=
    optionalField_length (fun y => by simp [packHoldBytes]) x
  have fault (x : Option PackLastFault) : (optionalField 6 packFaultBytes x).length = 7 :=
    optionalField_length (fun f => by simp [packFaultBytes]) x
  unfold compartmentStatusBytes
  simp only [packerSettingsBytes, List.length_append, pause, hold, fault, oneByte_length, yesNo_length, beBytes_length]

theorem weighStatusBytes_length (s : State) : (weighStatusBytes s).length = 71 + s.weigh.queue.length := by
  have tilt (x : Option (Int × Int)) : (optionalField 4 tiltBytes x).length = 5 :=
    optionalField_length (fun y => by simp [tiltBytes]) x
  have mass (x : Option Int) : (optionalField 4 (signedBytes 4) x).length = 5 :=
    optionalField_length (signedBytes_length 4) x
  have three (x : Option Nat) : (optionalField 3 (beBytes 3) x).length = 4 := optionalField_length (beBytes_length 3) x
  have result (x : Option LastResult) : (optionalField 24 lastResultBytes x).length = 25 :=
    optionalField_length (fun r => by simp [lastResultBytes, tilt, mass, three]) x
  have check (x : Option (Int × Nat)) : (optionalField 6 driftCheckBytes x).length = 7 :=
    optionalField_length (fun y => by simp [driftCheckBytes]) x
  have lifter (l : Lifter) : (weighLifterBytes s l).length = 34 := by simp [weighLifterBytes, result, check]
  have queue := listField_length (fun l => oneByte_length (lifterCode l)) s.weigh.queue
  have computation := optionalField_length (width := 1) (enc := fun c => oneByte (elapsed s c.startedAt)) (fun _ => rfl)
    s.weigh.computation
  unfold weighStatusBytes
  simp only [List.length_append, queue, computation, lifter]
  omega

theorem tagStatusBytes_length (s : State) : (tagStatusBytes s).length = 61 := by
  have read (x : Option (Nat × Nat)) : (optionalField 6 readBytes x).length = 7 :=
    optionalField_length (fun y => by simp [readBytes]) x
  have pending (x : Option PendingTag) : (optionalField 8 (pendingTagBytes s) x).length = 9 :=
    optionalField_length (fun y => by simp [pendingTagBytes, ageBytes_length]) x
  have last (x : Option LastRead) : (optionalField 10 (lastReadBytes s) x).length = 11 :=
    optionalField_length (fun y => by simp [lastReadBytes, ageBytes_length, read]) x
  have tag (x : Option Nat) : (optionalField 5 (beBytes 5) x).length = 6 := optionalField_length (beBytes_length 5) x
  unfold tagStatusBytes
  simp only [List.length_append, pending, last, tag, oneByte_length, firstYes_length, beBytes_length]

theorem linkStatusBytes_length (s : State) : (linkStatusBytes s).length = 18 := by
  have port (x : PortState) : (linkPortBytes x).length = 6 := by simp [linkPortBytes]
  unfold linkStatusBytes
  simp only [List.length_append, port]

theorem scanStatusBytes_length (x : Scan) : (scanStatusBytes x).length = 107 := by
  have result (y : Option SlotResult) : (optionalField 5 slotResultBytes y).length = 6 :=
    optionalField_length (fun y => by simp [slotResultBytes]) y
  have channel (ch : Fin 12) : (channelBytes x ch).length = 8 := by simp [channelBytes, result]
  have channels := flatMap_length channel allChannels
  have buffer (b : Buffer) : (bufferBytes b).length = 3 := by simp [bufferBytes]
  unfold scanStatusBytes
  simp only [List.length_append, channels, buffer, oneByte_length, beBytes_length]
  rfl

theorem accessBytes_length (x : Access) : (accessBytes x).length = 85 := by
  have rights (y : Vector Rights 14) : (portRightsBytes y).length = 28 := by
    unfold portRightsBytes
    rw [flatMap_length (width := 2) fun r => by simp]
    simp
  unfold accessBytes
  simp only [List.length_append, rights, firstYes_length]

theorem identityBytes_length (s : State) : (identityBytes s).length = 33 := by
  have characters := flatMap_length (width := 2) (enc := optionalField 1 fun c : Byte => [c])
    (optionalField_length fun _ => rfl) s.calib.identity.toList
  unfold identityBytes
  rw [List.length_append, characters, yesNo_length]
  simp

theorem calibrationBytes_length (l : Lifter) (s : State) : (calibrationBytes l s).length = 61 := by
  have items (x : CalItems) : (itemsBytes x).length = 52 := by
    have table := flatMap_length (beBytes_length 3) x.pitchTable.toList
    unfold itemsBytes
    simp only [List.length_append, table, beBytes_length, signedBytes_length, oneByte_length, Vector.length_toList]
  have commit := optionalField_length (width := 1) (enc := firstYes) firstYes_length s.calib.lastCommit
  unfold calibrationBytes
  simp only [List.length_append, items, commit, firstYes_length, yesNo_length, beBytes_length]

/-! ### The answers -/

/-- A request that its owner answers from what stands. -/
theorem exec_stands {k : Kind} {i : Instr} {owner : State → Decision} {r : Reply} (accepts : Accepts k p d s)
    (serves : exec i s = .next (serve k p n d owner s))
    (decides : owner (takeRequest p n k.code s) = declined r (takeRequest p n k.code s)) :
    exec i s = .next (replied p n k r s) := exec_decided accepts serves decides

theorem decideLifterStatus_some (arg : lifterArg (byteAt d 0) = some l) (s : State) :
    decideLifterStatus d s = declined (.ok (lifterStatusBytes l s)) s := by rw [decideLifterStatus, arg]

theorem decideLifterStatus_none (arg : lifterArg (byteAt d 0) = none) (s : State) :
    decideLifterStatus d s = declined .badArgument s := by rw [decideLifterStatus, arg]

theorem decideCompartmentStatus_some (arg : streamArg (byteAt d 0) = some st) (s : State) :
    decideCompartmentStatus d s = declined (.ok (compartmentStatusBytes st s)) s := by rw [decideCompartmentStatus, arg]

theorem decideCompartmentStatus_none (arg : streamArg (byteAt d 0) = none) (s : State) :
    decideCompartmentStatus d s = declined .badArgument s := by rw [decideCompartmentStatus, arg]

theorem decideReadCalibration_some (arg : lifterArg (byteAt d 0) = some l) (s : State) :
    decideReadCalibration d s = declined (.ok (calibrationBytes l s)) s := by rw [decideReadCalibration, arg]

theorem decideReadCalibration_none (arg : lifterArg (byteAt d 0) = none) (s : State) :
    decideReadCalibration d s = declined .badArgument s := by rw [decideReadCalibration, arg]

theorem decideReadTariff_in (inside : byteAt d 0 ≤ 15) (s : State) : decideReadTariff d s =
    declined (.ok (tariffBytes (byteAt d 0) (tariffOf s (byteAt d 0)) ++ [if byteAt d 0 = 0 then 1 else 0])) s := by
  have arg : within 0 15 (byteAt d 0) = some (byteAt d 0) := if_pos ⟨Nat.zero_le _, inside⟩
  rw [decideReadTariff, arg]
  by_cases zero : byteAt d 0 = 0 <;> simp [yesNo, zero]

theorem decideReadTariff_out (outside : 15 < byteAt d 0) (s : State) :
    decideReadTariff d s = declined .badArgument s := by
  have arg : within 0 15 (byteAt d 0) = none := if_neg (by omega)
  rw [decideReadTariff, arg]

theorem decideReadEvents_taken (p : Port) (n kb : Byte) (s : State) : decideReadEvents p (takeRequest p n kb s) =
    declined (.ok (readEventsBytes (s.port p))) (takeRequest p n kb s) := by
  rw [decideReadEvents, takeRequest, port_withPort_self]
  rfl

/-- Settles O7: each read is answered from what stands, in the length of its layout. -/
theorem statusReadsAnswer : Obligations.StatusReadsAnswer := by
  unfold Obligations.StatusReadsAnswer
  intro p n d s
  refine ⟨fun h => ⟨exec_stands h rfl rfl, bodyStatusBytes_length s⟩,
    fun h l arg => ⟨exec_stands h rfl (decideLifterStatus_some arg _), lifterStatusBytes_length l s⟩,
    fun h arg => exec_stands h rfl (decideLifterStatus_none arg _),
    fun h => ⟨exec_stands h rfl rfl, flowStatusBytes_length s⟩,
    fun h st arg => ⟨exec_stands h rfl (decideCompartmentStatus_some arg _), compartmentStatusBytes_length st s⟩,
    fun h arg => exec_stands h rfl (decideCompartmentStatus_none arg _),
    fun h => ⟨exec_stands h rfl rfl, weighStatusBytes_length s⟩,
    fun h => ⟨exec_stands h rfl rfl, tagStatusBytes_length s⟩,
    fun h => ⟨exec_stands h rfl rfl, by simp [integrityStatusBytes]⟩,
    fun h t same => ⟨same ▸ exec_stands h rfl rfl, linkStatusBytes_length t⟩,
    fun h => ⟨exec_stands h rfl (decideReadEvents_taken p n _ s), by simp [readEventsBytes, eventSetBytes]⟩,
    fun h => ⟨exec_stands h rfl rfl, scanStatusBytes_length s.scan⟩,
    fun h => ⟨exec_stands h rfl rfl, accessBytes_length s.access⟩,
    fun h => exec_stands h rfl rfl, fun h => exec_stands h rfl rfl,
    fun h => ⟨exec_stands h rfl rfl, identityBytes_length s⟩,
    fun h l arg => ⟨exec_stands h rfl (decideReadCalibration_some arg _), calibrationBytes_length l s⟩,
    fun h arg => exec_stands h rfl (decideReadCalibration_none arg _),
    fun h inside => exec_stands h rfl (decideReadTariff_in inside _),
    fun h outside => exec_stands h rfl (decideReadTariff_out outside _)⟩

end Sys2Proof.Safety
end

section
/-! PROOFS. A request's frame, its beginnings and its reception (O4). -/

namespace Sys2Proof.Safety

open Sys2Proof.Machine

variable {s : State} {p : Port} {n k b : Byte} {d : List Byte} {i : Instr}

/-! ### The request a frame stands for (R196, R216) -/

@[simp] theorem ofCode_code (k : Kind) : Kind.ofCode k.code = some k := by cases k <;> rfl

@[simp] theorem frameParts_request (k : Kind) (p : Port) (n : Byte) (d : List Byte) :
    (k.request p n d).frameParts = some (p, n, k.code, d) := by cases k <;> rfl

theorem wellFormed_request (k : Kind) (p : Port) (n : Byte) (d : List Byte) :
    wellFormed (k.request p n d) = WellFormed.payload d := by cases k <;> rfl

/-- A command with a frame is a catalogued request or an unknown kind's. -/
theorem framed_cases {kind : Byte} (parts : i.frameParts = some (p, n, kind, d)) :
    (∃ k : Kind, i = k.request p n d ∧ kind = k.code) ∨ i = .unknownKindRequest p n kind d := by
  cases i <;> cases parts
  case unknownKindRequest => exact .inr rfl
  all_goals
    refine .inl ⟨_, ?_, rfl⟩
    rfl

theorem requestOf_frameParts {kind : Byte} (parts : i.frameParts = some (p, n, kind, d))
    (formed : wellFormed i = true) :
    requestOf p n kind d = i ∧ d.length ≤ 120 := by
  obtain ⟨k, rfl, rfl⟩ | rfl := framed_cases parts
  · rw [wellFormed_request] at formed
    exact ⟨by rw [requestOf, ofCode_code], of_decide_eq_true formed⟩
  · obtain ⟨unknown, fits⟩ := Bool.and_eq_true_iff.mp formed
    exact ⟨by rw [requestOf, Option.isNone_iff_eq_none.mp unknown], of_decide_eq_true fits⟩

/-! ### A frame's bytes and what they are judged as (R193, R194) -/

/-- What follows a frame's length byte. -/
def frameTail (n k : Byte) (d : List Byte) : List Byte :=
  n :: k :: (d ++ crcBytes (crc16 (BitVec.ofNat 8 d.length :: n :: k :: d)))

theorem frameBytes_eq (n k : Byte) (d : List Byte) :
    frameBytes n k d = startByte :: BitVec.ofNat 8 d.length :: frameTail n k d := rfl

@[simp] theorem frameTail_length (n k : Byte) (d : List Byte) : (frameTail n k d).length = d.length + 4 := by
  simp [frameTail, crcBytes]

@[simp] theorem frameBytes_length (n k : Byte) (d : List Byte) : (frameBytes n k d).length = d.length + 6 := by
  simp [frameBytes_eq]

/-- Characters whose stop bits are all valid. -/
def sound (bytes : List Byte) : List (Byte × Bool) := bytes.map fun x => (x, true)

theorem sound_any (bytes : List Byte) : (sound bytes).any (fun c => !c.2) = false := by simp [sound]

/-- A frame's first two characters leave the rest of it to its stop bits, its length and its CRC. -/
theorem judgeFrame_opened (p : Port) {len : Byte} {rest : List (Byte × Bool)} (fits : len.toNat ≤ 120)
    (short : rest.length ≤ len.toNat + 4) :
    judgeFrame p ((startByte, true) :: (len, true) :: rest)
      = if rest.any (fun c => !c.2) then .bad .missingStopBit
        else if rest.length < len.toNat + 4 then .incomplete
        else judgeComplete p len (rest.map Prod.fst) := by
  have : ¬ maxPayload < len.toNat := Nat.not_lt.mpr fits
  simp [judgeFrame, this, List.take_of_length_le short]

theorem judgeFrame_lengthByte (p : Port) {len : Byte} (long : 120 < len.toNat) :
    judgeFrame p [(startByte, true), (len, true)] = .bad (.lengthByte len) := by
  have : maxPayload < len.toNat := long
  simp [judgeFrame, this]

theorem judgeFrame_hunted (p : Port) (noise : b ≠ startByte) (stop : Bool) :
    judgeFrame p [(b, stop)] = .hunted := by
  simp [judgeFrame, noise]

section
variable (short : d.length ≤ 120)
include short

theorem lengthByte_toNat : (BitVec.ofNat 8 d.length).toNat = d.length := by
  rw [BitVec.toNat_ofNat]; omega

/-- The last two bytes of a frame's tail are judged against the CRC over what is before them. -/
theorem judgeFrame_tail (p : Port) (n k : Byte) {crc : List Byte} (two : crc.length = 2) :
    judgeFrame p (sound (startByte :: BitVec.ofNat 8 d.length :: n :: k :: (d ++ crc)))
      = if crc = crcBytes (crc16 (BitVec.ofNat 8 d.length :: n :: k :: d)) then .good (requestOf p n k d)
        else .bad .crcMismatch := by
  have len := lengthByte_toNat short
  have all : (n :: k :: (d ++ crc)).length = d.length + 4 := by simp [two]
  have fst : (sound (n :: k :: (d ++ crc))).map Prod.fst = n :: k :: (d ++ crc) := by
    simp [sound, Function.comp_def]
  have whole := judgeFrame_opened p (len := BitVec.ofNat 8 d.length) (rest := sound (n :: k :: (d ++ crc)))
    (by omega) (by simp only [sound, List.length_map]; omega)
  rw [sound_any, fst, if_neg Bool.false_ne_true, if_neg (by simp only [sound, List.length_map]; omega)] at whole
  refine whole.trans ?_
  simp only [judgeComplete, len, List.take_left', List.drop_left']

theorem judgeFrame_frame (parts : i.frameParts = some (p, n, k, d)) (formed : wellFormed i = true) :
    judgeFrame p (sound (frameBytes n k d)) = .good i := by
  refine (judgeFrame_tail short p n k rfl).trans ?_
  rw [if_pos rfl, (requestOf_frameParts parts formed).1]

theorem judgeFrame_begun {m : Nat} (part : m < (frameBytes n k d).length) (some : 0 < m) :
    judgeFrame p (sound ((frameBytes n k d).take m)) = .incomplete := by
  have len := lengthByte_toNat short
  rw [frameBytes_length] at part
  match m with
  | 1 => rfl
  | m + 2 =>
    have size : (sound ((frameTail n k d).take m)).length = m := by simp [sound]; omega
    refine (judgeFrame_opened p (rest := sound ((frameTail n k d).take m)) (by omega) (by omega)).trans ?_
    rw [sound_any, if_neg Bool.false_ne_true, if_pos (by omega)]

theorem judgeFrame_noStop {m : Nat} (part : m < (frameBytes n k d).length) (some : 0 < m) (b : Byte) :
    judgeFrame p (sound ((frameBytes n k d).take m) ++ [(b, false)]) = .bad .missingStopBit := by
  have len := lengthByte_toNat short
  rw [frameBytes_length] at part
  match m with
  | 1 => rfl
  | m + 2 =>
    have size : (sound ((frameTail n k d).take m) ++ [(b, false)]).length = m + 1 := by simp [sound]; omega
    refine (judgeFrame_opened p (rest := sound ((frameTail n k d).take m) ++ [(b, false)]) (by omega)
      (by omega)).trans ?_
    rw [if_pos (by simp)]

/-- A frame with another last byte has another CRC. -/
theorem judgeFrame_otherCrc (other : (frameBytes n k d).getLast? ≠ some b) :
    judgeFrame p (sound ((frameBytes n k d).dropLast ++ [b])) = .bad .crcMismatch := by
  obtain ⟨hi, lo, crc⟩ : ∃ hi lo, crcBytes (crc16 (BitVec.ofNat 8 d.length :: n :: k :: d)) = [hi, lo] :=
    ⟨_, _, rfl⟩
  have frame : frameBytes n k d = (startByte :: BitVec.ofNat 8 d.length :: n :: k :: (d ++ [hi])) ++ [lo] := by
    simp [frameBytes_eq, frameTail, crc]
  rw [frame, List.getLast?_concat] at other
  have changed : (frameBytes n k d).dropLast ++ [b]
      = startByte :: BitVec.ofNat 8 d.length :: n :: k :: (d ++ [hi, b]) := by
    rw [frame, List.dropLast_concat]; simp
  rw [changed, judgeFrame_tail short p n k rfl, crc, if_neg]
  rintro ⟨⟩
  exact other rfl
end

/-! ### A port's reception (R194) -/

section
variable {stop : Bool} (running : s.resetHeld = false)
include running

theorem receiveByte_hunted
    (judged : judgeFrame p (sound (bytesTaken (s.port p).receive) ++ [(b, stop)]) = .hunted) :
    receiveByte p b stop s = s := by
  rw [sound] at judged
  simp [receiveByte, running, judged]

theorem receiveByte_incomplete
    (judged : judgeFrame p (sound (bytesTaken (s.port p).receive) ++ [(b, stop)]) = .incomplete) :
    receiveByte p b stop s = frameGoesOn p b s := by
  rw [sound] at judged
  simp [receiveByte, running, judged]

theorem receiveByte_bad {cause : BadFrameCause}
    (judged : judgeFrame p (sound (bytesTaken (s.port p).receive) ++ [(b, stop)]) = .bad cause) :
    receiveByte p b stop s = frameEnds p (.badFrame p cause) s := by
  rw [sound] at judged
  simp [receiveByte, running, judged]

theorem receiveByte_good
    (judged : judgeFrame p (sound (bytesTaken (s.port p).receive) ++ [(b, stop)]) = .good i) :
    receiveByte p b stop s = frameEnds p i s := by
  rw [sound] at judged
  simp [receiveByte, running, judged]
end

theorem sound_append (bytes : List Byte) (b : Byte) : sound bytes ++ [(b, true)] = sound (bytes ++ [b]) := by
  simp [sound]

theorem receiveBytes_append (p : Port) (xs ys : List Byte) (s : State) :
    receiveBytes p (xs ++ ys) s = receiveBytes p ys (receiveBytes p xs s) := List.foldl_append

theorem receiveBytes_concat (p : Port) (xs : List Byte) (b : Byte) (s : State) :
    receiveBytes p (xs ++ [b]) s = receiveByte p b true (receiveBytes p xs s) := receiveBytes_append p xs [b] s

/-- The port that has taken the given bytes of a frame, the last of them now. -/
def receivingAt (p : Port) (bytes : List Byte) (s : State) : State :=
  s.withPort p { s.port p with receive := .receiving bytes s.bodyTimer }

@[simp] theorem receivingAt_receive (p : Port) (bytes : List Byte) (s : State) :
    ((receivingAt p bytes s).port p).receive = .receiving bytes s.bodyTimer := by simp [receivingAt]

theorem frameGoesOn_receivingAt (p : Port) (bytes : List Byte) (b : Byte) (s : State) :
    frameGoesOn p b (receivingAt p bytes s) = receivingAt p (bytes ++ [b]) s := by
  simp [frameGoesOn, receivingAt, bytesTaken]

theorem frameEnds_receivingAt (hunting : (s.port p).receive = .hunting) (bytes : List Byte) :
    frameEnds p i (receivingAt p bytes s) = s.withPending (s.pending ++ [i]) := by
  have same : { s.port p with receive := .hunting } = s.port p := by rw [← hunting]
  have kept : s.withPort p (s.port p) = s := by cases p <;> rfl
  simp only [frameEnds, receivingAt, port_withPort_self, withPort_withPort, withPort_pending]
  rw [same, kept]

section
variable (running : s.resetHeld = false) (hunting : (s.port p).receive = .hunting)
include running hunting

/-- Bytes other than the start byte are discarded by a HUNTING port. -/
theorem receiveBytes_noise {noise : List Byte} (none : ∀ x ∈ noise, x ≠ 0x7E) : receiveBytes p noise s = s := by
  induction noise with
  | nil => rfl
  | cons x xs ih =>
    have first : receiveByte p x true s = s :=
      receiveByte_hunted running (by rw [hunting]; exact judgeFrame_hunted p (none x List.mem_cons_self) true)
    exact (congrArg (receiveBytes p xs) first).trans (ih fun y inside => none y (List.mem_cons_of_mem x inside))

/-- A proper beginning of a frame leaves its port RECEIVING with the bytes so far. -/
theorem receiveBytes_begun (short : d.length ≤ 120) {m : Nat} (part : m + 1 < (frameBytes n k d).length) :
    receiveBytes p ((frameBytes n k d).take (m + 1)) s = receivingAt p ((frameBytes n k d).take (m + 1)) s := by
  have begun := judgeFrame_begun (p := p) short part (Nat.succ_pos m)
  induction m with
  | zero =>
    have first : receiveByte p startByte true s = frameGoesOn p startByte s :=
      receiveByte_incomplete running (by rw [hunting]; exact begun)
    refine first.trans ?_
    simp [frameGoesOn, receivingAt, hunting, bytesTaken, frameBytes_eq]
  | succ m ih =>
    have before := ih (by omega) (judgeFrame_begun short (by omega) (Nat.succ_pos m))
    rw [List.take_succ_eq_append_getElem (by omega : m + 1 < _)] at begun ⊢
    rw [receiveBytes_concat, before, receiveByte_incomplete (s := receivingAt p _ s) running, frameGoesOn_receivingAt]
    rw [receivingAt_receive, bytesTaken, sound_append, begun]

theorem receiveBytes_frame (short : d.length ≤ 120) (good : judgeFrame p (sound (frameBytes n k d)) = .good i) :
    receiveBytes p (frameBytes n k d) s = s.withPending (s.pending ++ [i]) := by
  have whole : frameBytes n k d
      = (frameBytes n k d).take (d.length + 4 + 1) ++ [(frameBytes n k d)[d.length + 5]'(by simp)] := by
    rw [← List.take_succ_eq_append_getElem, List.take_of_length_le (by simp)]
  have before := receiveBytes_begun running hunting short (n := n) (k := k) (m := d.length + 4) (by simp)
  rw [whole] at good ⊢
  rw [receiveBytes_concat, before, receiveByte_good (s := receivingAt p _ s) running, frameEnds_receivingAt hunting]
  rw [receivingAt_receive, bytesTaken, sound_append, good]
end

/-- Settles O4: each clause by what the port's characters so far, with the new one, are judged as. -/
theorem frameRoundTrip : Obligations.FrameRoundTrip := by
  intro i p n k b d noise last s formed parts running
  have short := (requestOf_frameParts parts formed).2
  have good := judgeFrame_frame short parts formed
  refine ⟨by rw [encodeFrame, parts]; rfl, good, fun m part some => judgeFrame_begun short part some,
    fun hunting none => ⟨?_, fun m part some => ?_⟩, fun m part some receiving => ?_, fun receiving long => ?_,
    fun receiving other => ?_⟩
  · rw [receiveBytes_append, receiveBytes_noise running hunting none]
    exact receiveBytes_frame running hunting short good
  · obtain ⟨m, rfl⟩ := Nat.exists_eq_succ_of_ne_zero some.ne'
    rw [receiveBytes_append, receiveBytes_noise running hunting none]
    exact receiveBytes_begun running hunting short part
  · exact receiveByte_bad running (by rw [receiving]; exact judgeFrame_noStop short part some b)
  · exact receiveByte_bad running (by rw [receiving]; exact judgeFrame_lengthByte p long)
  · exact receiveByte_bad running (by rw [receiving, bytesTaken, sound_append]; exact judgeFrame_otherCrc short other)

end Sys2Proof.Safety
end

section
/-! PROOFS. The weighing and the charge arithmetic (O50). -/

namespace Sys2Proof.Safety

open Sys2Proof.Machine

/-! ### Roundings (00_scope.md, "Rounding") -/

/-- The quotient rounded half up lies within half a divisor of the quotient, the upper half excluded. -/
theorem roundHalfUp_bounds (num : Nat) {den : Nat} (some : 0 < den) :
    2 * (den * roundHalfUp num den) ≤ 2 * num + den ∧ 2 * num < 2 * (den * roundHalfUp num den) + den := by
  have low := Nat.mul_div_le (2 * num + den) (2 * den)
  have high := Nat.lt_mul_div_succ (2 * num + den) (by omega : 0 < 2 * den)
  unfold roundHalfUp
  rw [mul_assoc] at low high
  rw [mul_add] at high
  omega

/-- Rounding half away from zero rounds the magnitude half up and keeps the sign. -/
theorem roundHalfAway_mul (num : Int) (den : Nat) :
    roundHalfAway num den * den
      = if num < 0 then -((den * roundHalfUp num.natAbs den : Nat) : Int)
        else ((den * roundHalfUp num.natAbs den : Nat) : Int) := by
  unfold roundHalfAway roundHalfUp
  split <;> push_cast <;> ring

theorem roundHalfAway_nearest (num : Int) {den : Nat} (some : 0 < den) :
    2 * (roundHalfAway num den * den - num).natAbs ≤ den
      ∧ (2 * (roundHalfAway num den * den - num).natAbs = den → num.natAbs < (roundHalfAway num den * den).natAbs) := by
  obtain ⟨low, high⟩ := roundHalfUp_bounds num.natAbs some
  rw [roundHalfAway_mul]
  split <;> omega

theorem netOf_nearest (g t : Int) {d : Nat} (some : 0 < d) :
    d ∣ netOf g t d ∧ 2 * (netOf g t d : Int) ≤ 2 * (g - t).toNat + d
      ∧ 2 * ((g - t).toNat : Int) < 2 * netOf g t d + d := by
  obtain ⟨low, high⟩ := roundHalfUp_bounds (g - t).toNat some
  refine ⟨Nat.dvd_mul_right _ _, ?_, ?_⟩ <;> (unfold netOf netGrams; omega)

/-! ### The pitch factor (R116) -/

theorem pitchEntry_get (table : Vector Nat 9) (k : Fin 9) : pitchEntry table k = table.get k := by
  simp [pitchEntry, Vector.get_eq_getElem, k.isLt]

theorem pitchFactor_top (table : Vector Nat 9) : pitchFactor table 800 = table.get 8 := by
  rw [pitchFactor, if_pos rfl]
  exact congrArg _ (pitchEntry_get table 8)

theorem pitchFactor_between (table : Vector Nat 9) (k : Fin 8) {pitch : Int} (low : 200 * (k.val : Int) - 800 ≤ pitch)
    (high : pitch < 200 * (k.val : Int) - 600) :
    pitchFactor table pitch = table.get k.castSucc
      + roundHalfAway (((table.get k.succ : Int) - table.get k.castSucc) * (pitch - (200 * (k.val : Int) - 800))) 200 := by
  have place : (pitch + 800).toNat / 200 = k.val := by omega
  have base : -800 + 200 * (k.val : Int) = 200 * (k.val : Int) - 800 := by ring
  have here : pitchEntry table k.val = table.get k.castSucc := pitchEntry_get table k.castSucc
  have next : pitchEntry table (k.val + 1) = table.get k.succ := pitchEntry_get table k.succ
  rw [pitchFactor, if_neg (by omega)]
  simp only [place, base, here, next]

/-! ### The spread (R115) -/

/-- A fold that keeps one of two values ends at the first value or at one of the list. -/
theorem foldl_mem {f : Int → Int → Int} (picks : ∀ a b, f a b = a ∨ f a b = b) (x : Int) (xs : List Int) :
    xs.foldl f x ∈ x :: xs := by
  induction xs generalizing x with
  | nil => exact List.mem_cons_self
  | cons y ys ih =>
    obtain same | later := List.mem_cons.mp (ih (f x y))
    · rw [List.foldl_cons, same]
      obtain h | h := picks x y <;> simp [h]
    · exact List.mem_cons_of_mem _ (List.mem_cons_of_mem _ later)

/-- A fold that goes up in an order, by both of its values, ends above them all. -/
theorem foldl_bound {r : Int → Int → Prop} (refl : ∀ a, r a a) (trans : ∀ {a b c}, r a b → r b c → r a c)
    {f : Int → Int → Int} (left : ∀ a b, r a (f a b)) (right : ∀ a b, r b (f a b)) (x : Int) (xs : List Int) :
    ∀ y ∈ x :: xs, r y (xs.foldl f x) := by
  induction xs generalizing x with
  | nil => intro y inside; rw [List.mem_singleton.mp inside]; exact refl x
  | cons z zs ih =>
    have first := ih (f x z) (f x z) List.mem_cons_self
    intro y inside
    obtain rfl | inside := List.mem_cons.mp inside
    · exact trans (left y z) first
    · obtain rfl | inside := List.mem_cons.mp inside
      · exact trans (right x y) first
      · exact ih _ y (List.mem_cons_of_mem _ inside)

theorem spread_attained {samples : List Int} (some : samples ≠ []) :
    ∃ a ∈ samples, ∃ b ∈ samples, (spread samples : Int) = a - b ∧ ∀ y ∈ samples, b ≤ y ∧ y ≤ a := by
  obtain ⟨x, xs, rfl⟩ := List.exists_cons_of_ne_nil some
  have top : ∀ y ∈ x :: xs, y ≤ xs.foldl max x :=
    foldl_bound le_refl le_trans le_max_left le_max_right x xs
  have bottom : ∀ y ∈ x :: xs, xs.foldl min x ≤ y :=
    foldl_bound (r := fun a b => b ≤ a) le_refl (fun h k => le_trans k h) min_le_left min_le_right x xs
  have order := (bottom x List.mem_cons_self).trans (top x List.mem_cons_self)
  exact ⟨_, foldl_mem max_choice x xs, _, foldl_mem min_choice x xs, Int.toNat_of_nonneg (Int.sub_nonneg.mpr order),
    fun y inside => ⟨bottom y inside, top y inside⟩⟩

/-! ### The stages of a computation (R112 to R119) -/

variable {x : Computation} {time : Nat}

theorem computeResult_stopped {o : WeighOutcome} (stops : precondition x = some o) :
    (computeResult x time).outcome = o := by rw [computeResult, stops]

/-- A computation whose inputs are sound goes through tilt, stability and range. -/
theorem computeResult_passed (passes : precondition x = none) :
    (computeResult x time).outcome
      = if tilted x then .tilt
        else if x.items.stabilityBand < spread x.samples then .unstable
        else if inRange (massResult x) (x.items.division.get x.bank) (x.items.maximum.get x.bank) then .ok
        else .overRange := by
  rw [computeResult, passes]
  dsimp only
  split
  · rfl
  · split
    · rfl
    · split <;> rfl

/-- Only a result that is OK has a mass. -/
theorem computeResult_mass (x : Computation) (time : Nat) :
    (computeResult x time).outcome = .ok ∧ (computeResult x time).mass = some (massResult x)
      ∨ (computeResult x time).outcome ≠ .ok ∧ (computeResult x time).mass = none := by
  unfold computeResult
  split
  · next o stops =>
    refine .inr ⟨?_, rfl⟩
    rintro rfl
    revert stops
    unfold precondition
    split
    · simp
    · split
      · simp
      · split
        · simp
        · split <;> simp
  · dsimp only
    split
    · exact .inr ⟨by simp, rfl⟩
    · split
      · exact .inr ⟨by simp, rfl⟩
      · split
        · exact .inl ⟨rfl, rfl⟩
        · exact .inr ⟨by simp, rfl⟩

theorem precondition_noCalibration (invalid : x.calValid = false) : precondition x = some .noCalibration := by
  simp [precondition, invalid]

theorem freshValue_stale {c : SlotCopy} (stale : c.fresh = false) : freshValue c = none := by
  simp [freshValue, stale]

theorem precondition_stale (valid : x.calValid = true)
    (stale : x.copies.excitation.fresh = false ∨ x.copies.pitch.fresh = false ∨ x.copies.roll.fresh = false) :
    precondition x = some .sensor := by
  simp only [precondition, valid]
  obtain stale | stale := stale
  · simp [freshValue_stale stale]
  · have missing : (freshValue x.copies.pitch).isNone ∨ (freshValue x.copies.roll).isNone := by
      obtain stale | stale := stale
      · exact .inl (by rw [freshValue_stale stale]; rfl)
      · exact .inr (by rw [freshValue_stale stale]; rfl)
    cases freshValue x.copies.excitation with
    | none => rfl
    | some e => simp only [Bool.not_true, Bool.false_eq_true, if_false, if_pos missing, ite_self]

section
variable {e p r : Int} (valid : x.calValid = true) (excitation : x.copies.excitation = ⟨some e, true⟩)
  (pitch : x.copies.pitch = ⟨some p, true⟩) (roll : x.copies.roll = ⟨some r, true⟩)

include pitch in
theorem pitchOf_eq : pitchOf x = ((p - x.items.pitchZero) * 25).tdiv 16 := by
  rw [pitchOf, pitch]; rfl

include roll in
theorem rollOf_eq : rollOf x = ((r - x.items.rollZero) * 25).tdiv 16 := by
  rw [rollOf, roll]; rfl

include valid excitation pitch roll

theorem precondition_fresh :
    precondition x = if e < 1800 ∨ 2300 < e then some .sensor else none := by
  simp [precondition, valid, excitation, pitch, roll, freshValue, excitationLow, excitationHigh]

theorem computeResult_excitation (unsound : e < 1800 ∨ 2300 < e) : (computeResult x time).outcome = .sensor :=
  computeResult_stopped ((precondition_fresh valid excitation pitch roll).trans (if_pos unsound))

section
variable (low : 1800 ≤ e) (high : e ≤ 2300)
include low high

theorem precondition_passes : precondition x = none :=
  (precondition_fresh valid excitation pitch roll).trans (if_neg (by omega))

theorem computeResult_tilted
    (tilts : 800 < (((p - x.items.pitchZero) * 25).tdiv 16).natAbs
      ∨ 500 < (((r - x.items.rollZero) * 25).tdiv 16).natAbs) :
    (computeResult x time).outcome = .tilt := by
  have tilts : tilted x = true := by
    rw [tilted, pitchOf_eq pitch, rollOf_eq roll, Bool.or_eq_true, decide_eq_true_eq, decide_eq_true_eq]
    exact tilts
  rw [computeResult_passed (precondition_passes valid excitation pitch roll low high), if_pos tilts]

section
variable (levelPitch : (((p - x.items.pitchZero) * 25).tdiv 16).natAbs ≤ 800)
  (levelRoll : (((r - x.items.rollZero) * 25).tdiv 16).natAbs ≤ 500)
include levelPitch levelRoll

theorem computeResult_level :
    (computeResult x time).outcome
      = if x.items.stabilityBand < spread x.samples then .unstable
        else if inRange (massResult x) (x.items.division.get x.bank) (x.items.maximum.get x.bank) then .ok
        else .overRange := by
  have level : ¬ tilted x = true := by
    rw [tilted, pitchOf_eq pitch, rollOf_eq roll, Bool.or_eq_true, decide_eq_true_eq, decide_eq_true_eq]
    exact not_or.mpr ⟨Nat.not_lt.mpr levelPitch, Nat.not_lt.mpr levelRoll⟩
  rw [computeResult_passed (precondition_passes valid excitation pitch roll low high), if_neg level]

theorem computeResult_stable (stable : spread x.samples ≤ x.items.stabilityBand) :
    (computeResult x time).outcome
      = if -(9 * (x.items.division.get x.bank : Int)) ≤ massResult x
          ∧ massResult x ≤ x.items.maximum.get x.bank + 9 * (x.items.division.get x.bank : Int)
        then .ok else .overRange := by
  rw [computeResult_level valid excitation pitch roll low high levelPitch levelRoll, if_neg (Nat.not_lt.mpr stable)]
  exact if_congr (by rw [inRange, Bool.and_eq_true, decide_eq_true_eq, decide_eq_true_eq]) rfl rfl
end
end
end

/-! ### The charge (R166 to R168) -/

section
variable {cls net allowance : Nat} {tf : Tariff} {st : Stream} {f : RecordFlags}

theorem chargeOf_belowMin (billed : cls ≠ 0) (below : f.belowMin = true) :
    chargeOf cls tf st net allowance f = (⟨tf.minimum, 0⟩, { f with minApplied := true }) := by
  rw [chargeOf, if_neg billed, if_pos below]

theorem chargeOf_allowed (billed : cls ≠ 0) (above : f.belowMin = false) (covered : net ≤ allowance * 100) :
    chargeOf cls tf st net allowance f = (⟨0, net / 100⟩, f) := by
  rw [chargeOf, if_neg billed, above, if_neg Bool.false_ne_true, usedMass, Nat.min_eq_left covered,
    if_pos (Nat.sub_self net)]

theorem chargeOf_billed (billed : cls ≠ 0) (above : f.belowMin = false) (beyond : allowance * 100 < net) :
    chargeOf cls tf st net allowance f
      = (⟨(boundCharge tf (rawCharge (net - allowance * 100) (rateOf tf st)) f).1, allowance⟩,
        (boundCharge tf (rawCharge (net - allowance * 100) (rateOf tf st)) f).2) := by
  rw [chargeOf, if_neg billed, above, if_neg Bool.false_ne_true, usedMass, Nat.min_eq_right beyond.le,
    if_neg (Nat.sub_ne_zero_of_lt beyond), Nat.mul_div_cancel _ (by decide)]

/-- With its minimum at most its cap, a class bounds the raw charge from both sides. -/
theorem boundCharge_eq (order : tf.minimum ≤ tf.cap) (raw : Nat) (f : RecordFlags) :
    boundCharge tf raw f = (max tf.minimum (min tf.cap raw),
      if raw < tf.minimum then { f with minApplied := true }
      else if tf.cap < raw then { f with capApplied := true } else f) := by
  unfold boundCharge
  split
  · next low => rw [Nat.min_eq_right (by omega), Nat.max_eq_left low.le]
  · next high =>
    split
    · next beyond => rw [Nat.min_eq_left beyond.le, Nat.max_eq_right order]
    · next within => rw [Nat.min_eq_right (by omega), Nat.max_eq_right (by omega)]

/-- The branches of a charge: nothing, the minimum, the allowance's, or a bounded charge. -/
theorem chargeOf_cases (cls : Nat) (tf : Tariff) (st : Stream) (net allowance : Nat) (f : RecordFlags) :
    chargeOf cls tf st net allowance f = (⟨0, 0⟩, f)
      ∨ chargeOf cls tf st net allowance f = (⟨tf.minimum, 0⟩, { f with minApplied := true })
      ∨ net ≤ allowance * 100 ∧ chargeOf cls tf st net allowance f = (⟨0, net / 100⟩, f)
      ∨ ∃ raw, chargeOf cls tf st net allowance f
          = (⟨(boundCharge tf raw f).1, allowance⟩, (boundCharge tf raw f).2) := by
  by_cases free : cls = 0
  · exact .inl (if_pos free)
  · by_cases below : f.belowMin = true
    · exact .inr (.inl (chargeOf_belowMin free below))
    · have above := Bool.eq_false_iff.mpr below
      obtain beyond | covered := Nat.lt_or_ge (allowance * 100) net
      · exact .inr (.inr (.inr ⟨_, chargeOf_billed free above beyond⟩))
      · exact .inr (.inr (.inl ⟨covered, chargeOf_allowed free above covered⟩))

theorem chargeOf_used (cls : Nat) (tf : Tariff) (st : Stream) (net allowance : Nat) (f : RecordFlags) :
    (chargeOf cls tf st net allowance f).1.used ≤ allowance := by
  obtain h | h | ⟨covered, h⟩ | ⟨raw, h⟩ := chargeOf_cases cls tf st net allowance f <;> rw [h]
  · exact Nat.zero_le _
  · exact Nat.zero_le _
  · show net / 100 ≤ allowance
    omega

theorem chargeOf_cents (order : tf.minimum ≤ tf.cap) : (chargeOf cls tf st net allowance f).1.cents ≤ tf.cap := by
  obtain h | h | ⟨_, h⟩ | ⟨raw, h⟩ := chargeOf_cases cls tf st net allowance f <;> rw [h]
  · exact Nat.zero_le _
  · exact order
  · exact Nat.zero_le _
  · rw [boundCharge_eq order]
    exact Nat.max_le.mpr ⟨order, Nat.min_le_left _ _⟩
end

/-- Settles O50: stage by stage, rounding by rounding, and bound by bound. -/
theorem weighingAndChargeArithmetic : Obligations.WeighingAndChargeArithmetic := by
  intro x time d cls net allowance num g t pitch den tf st f table k
  refine ⟨fun invalid => computeResult_stopped (precondition_noCalibration invalid),
    fun valid stale => computeResult_stopped (precondition_stale valid stale),
    fun e p r valid excitation pitch roll => ⟨computeResult_excitation valid excitation pitch roll,
      computeResult_tilted valid excitation pitch roll,
      fun low high levelPitch levelRoll moving => ?_,
      computeResult_stable valid excitation pitch roll, ?_⟩,
    fun ok => ?_, fun failed => ?_, pitchFactor_top table, pitchFactor_between table k, spread_attained,
    roundHalfAway_nearest num, netOf_nearest g t, rfl, chargeOf_used cls tf st net allowance f, chargeOf_cents,
    chargeOf_belowMin, chargeOf_allowed, ?_⟩
  · rw [computeResult_level valid excitation pitch roll low high levelPitch levelRoll, if_pos moving]
  · rw [massResult, massOf, pitchOf_eq pitch]
  · exact (computeResult_mass x time).elim And.right fun h => absurd ok h.1
  · exact (computeResult_mass x time).elim (fun h => absurd h.1 failed) And.right
  · rintro raw rfl billed above beyond order
    rw [chargeOf_billed billed above beyond, boundCharge_eq order]
    cases st <;> rfl

end Sys2Proof.Safety
end
